-- ==== Sys2Proof/Word.lean ====
section
/-! DEFINITION. The 48-bit word of the part and the plain byte: every register, comb cell, table entry, memory word and
ring word has the width of one drive group's state (R3, R15). -/
namespace Sys2Proof

/-- A 48-bit word, bits 47 (most significant) down to 0 (R3). -/
abbrev Word := BitVec 48

/-- A byte, as the two-wire port, the store streams and the external memories move them. -/
abbrev Byte := BitVec 8

end Sys2Proof
end

