-- ==== Sys2Proof/Types.lean ====
section
/-! DEFINITION. The types of the commands' operands: the access paths, ring packets, and the readings that the analogue side of the
part brings to an event. -/
namespace Sys2Proof

/-- The parties that write the register file: the three register paths, the service port in HOLD and the waggle actions of the
control plane (R84, R91, R506). -/
inductive Path where
  | ring
  | fabric
  | twi
  | service
  | waggle
  deriving DecidableEq, Repr

/-- A ring port. -/
inductive Port where
  | a
  | b
  deriving DecidableEq, Repr

/-- A ring packet as it stands on the line: one header word (R17) and the payload words that follow it. -/
structure Packet where
  header : Word
  payload : List Word
  /-- It ends with ABORT in place of EOP: the forwarded copy of a packet in which a receiver found a fault (R340). -/
  aborts : Bool := false
  deriving DecidableEq, Repr

/-- A code group of the line: a data byte or a control code, named by its eight bits HGF EDCBA (R334). -/
structure LineGroup where
  control : Bool
  byte : Byte
  deriving DecidableEq, Repr

/-- How a packet ends at a receiver (R340). -/
inductive PacketEnd where
  /-- It ended with EOP after the four bytes of a CRC, its words whole. -/
  | whole (crc : BitVec 32)
  /-- Code groups inside it were not valid, broke running disparity or were a K28.5 out of place: their number (R337). -/
  | codeError (n : BitVec 12)
  /-- It was cut short, or more words came than LENGTH and CRC. -/
  | truncated
  /-- ABORT was received. -/
  | aborted
  deriving DecidableEq, Repr

/-- A packet's end at a receiver, `ago` tck after its SOP reached the balls (R340, R343). -/
structure Arrival where
  ended : PacketEnd
  ago : BitVec 16
  deriving DecidableEq, Repr

/-- A link-state word as a receiver hears it, and the code errors outside packets since the last (R337, R344). -/
structure HeardLsw where
  word : Word
  errors : BitVec 12
  deriving DecidableEq, Repr

/-- A departure from a port, `sub` / 256 of a tck after the tck's edge (R360, R362). -/
structure Departure where
  port : Port
  sub : BitVec 8
  deriving DecidableEq, Repr

/-- What the end of a reset samples: ADDR3 to ADDR0 (R60), and whether VIOX is at or above 1.62 V (R55, R57). -/
structure ExitPins where
  addr : BitVec 4
  viox : Bool
  deriving DecidableEq, Repr

/-- A disagreement of the scrubber's votes (R477, R478): among the copies of a tile bit, of one copy of the control state with the
other two, or among all three. -/
inductive Vote where
  | tileBit (context : Fin 8) (tile : Fin 48)
  | control (copy : Fin 3)
  | allDiffer
  deriving DecidableEq, Repr

/-- The analogue readings on the last tck of a comb cell and at a commit clock. Lists are indexed by group or string; an absent
entry reads as an open contact, a full-scale health reading, 0 V. -/
structure Readings where
  /-- For each drive group the voltages in mV of its S-lines 16 to 47 at the sense comparators (R232). -/
  sense : List (List Nat)
  /-- The same 32 tck and 64 tck before the last tck (R232). -/
  sense32 : List (List Nat)
  sense64 : List (List Nat)
  /-- For each drive group the ADC code of its health reading (R255). -/
  health : List (BitVec 10)
  /-- Pairs of drive lines (48 × group + line) that a PROBE field of this cell finds joined (R553). -/
  joined : List (Nat × Nat)
  /-- VLEDg of each drive group in mV (R58, R312). -/
  vled : List Nat
  /-- STRn_TOP of each string in units of 62.5 mV (R221, R225). -/
  vtop : List (BitVec 10)
  deriving DecidableEq, Repr

end Sys2Proof
end

