-- ==== Sys2Proof/Syntax.lean ====
section
/-! DEFINITION. The commands of the part: one constructor for each row of the table of operations and events (opcode_table.json),
with what the outside world brings to it as operands. Register writes name the path they come by. -/
namespace Sys2Proof

/-- A command: an operation or event of the part. -/
inductive Instr where
  /-- CELL_EDGE (R102). A comb cell of the active bank ends and the next begins, changing every line's state on the clock edge. -/
  | cellEdge (r : Readings)
  /-- COMMIT_CLOCK (R28). The tck after the frame-end cell, at which accepted commit sets take effect together. -/
  | commitClock (r : Readings)
  /-- FREEZE_POINT (R28). At C − 1,024 tck the pending sets are frozen and the ledger's final pass starts. -/
  | freezePoint (vled : List Nat)
  /-- COMMIT_CTRL_SUBMIT (R30). A write of SUBMIT = 1 submits a bound local set, or is ignored with COMMIT_BUSY. -/
  | commitCtrlSubmit (p : Path) (v : Word)
  /-- CORE_CLOCK_STOP (R36). The core clock source stops; the core freezes and the bypass, drive lines and strings fall to a safe state. -/
  | coreClockStop
  /-- TX_PACKET_START (R19). A ring transmitter starts the next waiting packet, control plane first, alternating data and management. -/
  | txPacketStart (x : Port)
  /-- REG_WRITE_GENERIC (R84). A write to a register with no row of its own takes effect when the arbiter serves it. -/
  | regWriteGeneric (p : Path) (a : BitVec 14) (v : Word)
  /-- LEVEL_WRITE (R79). A write of LEVEL.EXPERT changes the page's level, rederiving expert registers on a return to basic. -/
  | levelWrite (p : Path) (page : BitVec 6) (v : Word)
  /-- PAGE_LOCK_WRITE (R73). A write of a page's LOCK PATHS bits shuts or reopens paths to its RWL fields. -/
  | pageLockWrite (p : Path) (page : BitVec 6) (v : Word)
  /-- WIN_DATA_ACCESS (R82). A table window access reads or writes the selected entry, with AUTO_INC and range checks. -/
  | winDataAccess (p : Path) (page : BitVec 6) (k : Fin 29) (w : Option Word)
  /-- PAGE_SEL_WRITE (R83). A write of PAGE_SEL changes the two-wire port's page or is refused with PAGE_REFUSED. -/
  | pageSelWrite (p : Path) (page : BitVec 6) (v : Word)
  /-- REG_READ (R86). A management REG_READ packet reads registers and is answered with REG_READ_RESP. -/
  | regRead
  /-- REG_WRITE (R88). A management REG_WRITE packet writes registers and is answered with REG_WRITE_RESP unless broadcast. -/
  | regWrite
  /-- TELEM_READ (R90). A TELEM_READ captures a telemetry set in one tck for its response. -/
  | telemRead
  /-- TELEM_RESP (R90). The node sends its TELEM_RESP, for a broadcast at 64 + ADDR × 2,048 tck after the request. -/
  | telemResp
  /-- PACKET_RECEIVED (R340). A ring receiver takes a whole packet, checks it and delivers, forwards, strips or discards it. -/
  | packetReceived (x : Port) (k : Packet) (e : Arrival)
  /-- CHECK_REQ (R116). A request to check the shadow bank starts the bank check or is refused while one runs. -/
  | checkReq (p : Path)
  /-- BANK_CHECK_DONE (R113). The bank check completes, leaving the shadow bank PASSED or FAILED with its cause. -/
  | bankCheckDone
  /-- LOAD_REQ (R120). A request to load a layout from a memory tile into the shadow bank starts FILLING. -/
  | loadReq (p : Path) (tile : BitVec 12)
  /-- LAYOUT_LOAD_DONE (R120). A layout load completes and starts the check, or fails and writes nothing. -/
  | layoutLoadDone (found : Option (BitVec 32))
  /-- COPY_REQ (R121). A request copies the active bank's cells and period into the shadow bank. -/
  | copyReq (p : Path)
  /-- COPY_DONE (R121). The copy of the active bank completes and the check starts. -/
  | copyDone
  /-- SWAP_REQ (R23). A request for a comb bank swap at the next commit clock as a set of one member. -/
  | swapReq (p : Path)
  /-- SHADOW_CELL_WRITE (R124). A window write of a shadow cell makes the bank UNCHECKED or raises LATE_WRITE. -/
  | shadowCellWrite (p : Path) (cell : Fin 384) (v : Word)
  /-- COMB_CELL_PORT_WRITE (R123). The fabric's comb-cell port writes one shadow cell. -/
  | combCellPortWrite (cell : BitVec 9) (v : Word)
  /-- SHADOW_PERIOD_WRITE (R116). A write of SHADOW_PERIOD sets the shadow bank's period and makes it UNCHECKED. -/
  | shadowPeriodWrite (p : Path) (period : BitVec 24)
  /-- COMB_RUN_WRITE (R126). A write of RUN moves the comb between STOPPED and WAITING. -/
  | combRunWrite (p : Path) (run : Bool)
  /-- COMB_START (R126). A waiting comb with a PASSED shadow bank starts on its grid tick and the banks exchange roles. -/
  | combStart (r : Readings)
  /-- ALIGN_WAIT_END (R109). The ALIGNING wait ends on a grid tick, which is the commit clock of the frame that ended. -/
  | alignWaitEnd (r : Readings)
  /-- STANDBY_FRAME_START (R128). A STANDBY scan frame begins on a multiple of 3,840,000 hive ticks. -/
  | standbyFrameStart
  /-- FLIP_REQ (R133). A request to flip a group's frame buffers at the next commit clock. -/
  | flipReq (p : Path) (g : Fin 8)
  /-- FB_PORT_WRITE (R431). The fabric's frame-buffer port writes a buffer word, or its flip strobe requests a flip. -/
  | fbPortWrite (g : Fin 8) (front : Bool) (w : BitVec 7) (v : Word) (flip : Bool)
  /-- STAGE1_FETCH (R139). At C + 64 the pipeline samples blink and override and fetches each front-buffer tile with its check. -/
  | stage1Fetch (found : List (Nat × BitVec 32))
  /-- BLINK_WRITE (R148). A write of FRAME.BLINKn sets a generator or is ignored with BLINK_RANGE. -/
  | blinkWrite (p : Path) (n : Fin 4) (v : Word)
  /-- PLANES_WRITE (R157). A write of plane counts is ignored when out of range, or frozen at the next freeze point. -/
  | planesWrite (p : Path) (v : Word)
  /-- GROUP_ENABLE (R171). ENABLE written 1 sets START_PENDING or RESTART_PENDING for a group. -/
  | groupEnable (p : Path) (g : Fin 8)
  /-- GROUP_DISABLE (R176). ENABLE written 0 stops a group or cancels its pending start or restart. -/
  | groupDisable (p : Path) (g : Fin 8)
  /-- KIND_WRITE (R175). A write changing KIND takes effect only while the group is OFF, else KIND_REFUSED. -/
  | kindWrite (p : Path) (g : Fin 8) (lcd : Bool)
  /-- ISEG_WRITE (R164). A write of ISEG is guarded against the C-line and heat limits and pends to a commit clock. -/
  | isegWrite (p : Path) (g : Fin 8) (code : BitVec 8)
  /-- DROP_WRITE (R324). A write of DROP is guarded against the 6 W limit and pends like ISEG. -/
  | dropWrite (p : Path) (g : Fin 8) (code : BitVec 8)
  /-- LINE_USE_WRITE (R164). A write of GRPg.LINE_USE is guarded and takes effect at the next commit clock. -/
  | lineUseWrite (p : Path) (g : Fin 8) (v : Word)
  /-- RAMP_STEP_TICK (R169). In RAMP the group current falls one code; at zero the commons release at the safe point. -/
  | rampStepTick (g : Fin 8)
  /-- DISCHARGE_END (R170). The DISCHARGE time of a stopping LED group ends and the group reaches OFF. -/
  | dischargeEnd (g : Fin 8)
  /-- HEADROOM (R162). An S-line source out of regulation for 16 tck is recorded and HEADROOM raised. -/
  | headroom (g : Fin 8) (lines : BitVec 32)
  /-- CLINE_CLAMP (R165). A C-line limiter acting for 64 tck stops the group and writes a fault record. -/
  | clineClamp (g : Fin 8) (c : Fin 16)
  /-- VLED_LOW (R174). VLEDg falls below its threshold and the group is stopped with ENABLE cleared. -/
  | vledLow (g : Fin 8)
  /-- LCD_WRITE (R185). A write of DUTY or INV takes effect only while the group is OFF, else LCD_REFUSED. -/
  | lcdWrite (p : Path) (g : Fin 8) (v : Word)
  /-- BIAS_ENABLE (R189). LCDB ENABLE written 1 starts the pump or schedules a restart. -/
  | biasEnable (p : Path)
  /-- BIAS_DISABLE (R191). LCDB ENABLE written 0 stops the generator into LEVEL or cancels a restart. -/
  | biasDisable (p : Path)
  /-- BIAS_READY (R189). READY for 1,024 tck brings the bias generator ON. -/
  | biasReady
  /-- PUMP_FAIL (R189). The generator is not ON within 5 ms of STARTING and stops. -/
  | pumpFail
  /-- PUMP_OVERLOAD (R189). VLCD below 90 % of target for 50 µs while ON stops the generator. -/
  | pumpOverload
  /-- BIAS_DISCHARGE_END (R191). VLCD falls below 200 mV in DISCHARGE and the generator reaches OFF. -/
  | biasDischargeEnd (vlcd : BitVec 10)
  /-- VLCD_TARGET_UPDATE (R188). Every 10 ms the VLCD target is recomputed and slewed by at most 20 mV. -/
  | vlcdTargetUpdate (vlcd : BitVec 10)
  /-- BIAS_SET_WRITE (R190). A write of BIAS or VSET is accepted or refused with SET_REFUSED. -/
  | biasSetWrite (p : Path) (bias : BitVec 3) (vset : BitVec 8)
  /-- STRING_ENABLE (R221). String ENABLE written 1 sets START_PENDING or RESTART_PENDING. -/
  | stringEnable (p : Path) (n : Fin 4)
  /-- STRING_DISABLE (R223). String ENABLE written 0 starts RAMP or cancels a pending restart. -/
  | stringDisable (p : Path) (n : Fin 4)
  /-- STRING_CTRL_WRITE (R208). A write of IREF and RSNS is checked for range and hard limit and pends to a commit clock. -/
  | stringCtrlWrite (p : Path) (n : Fin 4) (iref : BitVec 8) (rsns : BitVec 9)
  /-- STRING_SUP_WRITE (R324). A write of VLOW and K is guarded against the 6 W limit. -/
  | stringSupWrite (p : Path) (n : Fin 4) (vlow : BitVec 10) (k : BitVec 10)
  /-- HMARGIN_WRITE (R324). A write of HMARGIN is guarded against the 6 W limit. -/
  | hmarginWrite (p : Path) (n : Fin 4) (v : BitVec 6)
  /-- STRING_RAMP_TICK (R223). The string current steps one code up or down; at zero in RAMP all shunts close. -/
  | stringRampTick (n : Fin 4)
  /-- RELEASE_STEP (R223). In RELEASE, I_H falls by 1 µA; at zero the string reaches OFF. -/
  | releaseStep (n : Fin 4)
  /-- LAMP_OPEN (R219). A shunt clamp acts, closes the switch and marks the lamp FAILED. -/
  | lampOpen (n : Fin 4) (k : Fin 16)
  /-- STRING_OPEN (R220). Sense voltage below 10 % for 100 µs stops the string. -/
  | stringOpen (n : Fin 4)
  /-- STRING_HEADROOM (R210). The regulator lacks its margin for 16 tck and HEADROOM is raised. -/
  | stringHeadroom (n : Fin 4)
  /-- LAMP_SAMPLE (R216). Lamp and L00 voltages are sampled 64 tck before a plane's hold ends. -/
  | lampSample (n : Fin 4) (mv : Nat) (lamps : List Nat)
  /-- KEY_SENSE_WRITE (R234). A write of KEY.SENSEg pends to the next commit clock or is refused for PULL 0. -/
  | keySenseWrite (p : Path) (g : Fin 8) (v : Word)
  /-- PROFILE_WRITE (R238). A write of a debounce profile is accepted and rederived, or refused with SET_REFUSED. -/
  | profileWrite (p : Path) (n : Fin 8) (v : Word)
  /-- KEY_ENTRY_WRITE (R241). A write of a key state entry changes PROFILE and BASELINE only. -/
  | keyEntryWrite (n : Fin 4096) (v : Word)
  /-- KEY_ENGINE_TICK (R242). The key engine's 10 ms clock ticks, driving repeat, long-press, combination and lockout timers. -/
  | keyEngineTick
  /-- HEALTH_ENTRY_WRITE (R260). A write of a health table entry clears DEGRADED. -/
  | healthEntryWrite (n : Fin 4096) (v : Word)
  /-- EVENT_ENQUEUE (R285). A raised event enters the queue within 128 tck or is discarded with OVERFLOW. -/
  | eventEnqueue
  /-- EVENT_POP (R287). A read of EVENT.POP pops the oldest QUEUED event at the path's side-effect point. -/
  | eventPop (p : Path)
  /-- FABRIC_EVENT_POP (R431). The fabric's event-queue port pops one event and returns word and extension. -/
  | fabricEventPop
  /-- EVENTS_PACKET_FORM (R393). The link engine packs up to 32 QUEUED events into an EVENTS packet, making them IN_FLIGHT. -/
  | eventsPacketForm
  /-- KEY_LOCK_WRITE (R291). A write of KLOCK.CTRL.LOCK turns key lock on or off with a LOCK event. -/
  | keyLockWrite (p : Path) (on : Bool)
  /-- CLEAR_FAILS (R298). A write of CLEAR_FAILS sets FAILS to 0. -/
  | clearFails (p : Path)
  /-- SEAL (R305). A write of SEAL seals the combination and sequence registers until power-on or RESET_N. -/
  | seal (p : Path)
  /-- SEQ_WRITE (R298). A write of SEQ_A, SEQ_B or SEQ_LEN sets the unlock sequence and resets SEQ_POS. -/
  | seqWrite (p : Path) (k : Fin 3) (v : Word)
  /-- COMBO_WRITE (R308). A write of COMBO_KEYSn or COMBO_CTRLn sets and disarms a combination, or is refused. -/
  | comboWrite (p : Path) (n : Fin 4) (ctrl : Bool) (v : Word)
  /-- KLOCK_BASIC_WRITE (R307). A write of KLOCK.BASIC is accepted or refused with SET_REFUSED. -/
  | klockBasicWrite (p : Path) (v : Word)
  /-- SEQ_GAP_TIMEOUT (R296). Too long a gap between presses abandons the unlock attempt. -/
  | seqGapTimeout
  /-- LOCKOUT_ENDED (R297). The lockout counter reaches 0 and LOCKOUT_ENDED is raised. -/
  | lockoutEnded
  /-- COMBO_FIRE (R302). An armed complete combination's timer reaches its hold time and fires. -/
  | comboFire
  /-- COMBO_ACTION (R303). 1,024 tck after firing the combination's PANEL, FABRIC or DEVICE action is taken. -/
  | comboAction
  /-- PANEL_PULSE_END (R303). The PANEL_RSTN pulse time ends and the pin is released. -/
  | panelPulseEnd
  /-- VSUP_SAMPLE (R316). The VSUP_SENSE ADC takes a sample every 1 µs and drives the supply state. -/
  | vsupSample (v : BitVec 12)
  /-- ZC_EDGE (R317). A MAINS_ZC edge is accepted as a zero crossing and may lock the mains tracker. -/
  | zcEdge (rising : Bool)
  /-- ZC_MISSING (R317). No crossing arrives by H plus slack; a missing half-cycle is raised. -/
  | zcMissing
  /-- RECOVERED (R318). The recovery timer reaches RECOVER × 10 ms and the supply state returns to NORMAL. -/
  | recovered
  /-- LEDGER_MON_WRITE (R328). A write of LEDGER.MON is accepted or refused with SET_REFUSED. -/
  | ledgerMonWrite (p : Path) (v : Word)
  /-- BASE_HEAT_WRITE (R324). A write of BASE_HEAT is guarded against the 6 W limit. -/
  | baseHeatWrite (p : Path) (v : BitVec 11)
  /-- CTR_CLEAR (R326). A write of CLEAR_SUP or CLEAR_HEAT sets an energy counter to 0. -/
  | ctrClear (p : Path) (sup : Bool) (heat : Bool)
  /-- LSW_SEND (R335). Each ON transmitter sends a link-state word every 1,920 tck. -/
  | lswSend (x : Port)
  /-- TIME_SEND (R335). Each ON transmitter sends a TIME set every 8,192 tck. -/
  | timeSend (x : Port) (sub : BitVec 8)
  /-- EPOCH_SEND (R335). A SOURCE or ALIGNED node sends an EPOCH set every 10 ms of hive time. -/
  | epochSend (x : Departure)
  /-- LSW_RECEIVE (R344). A receiver accepts a link-state word and updates link, usability and lineage. -/
  | lswReceive (x : Port) (w : HeardLsw)
  /-- LOSS_OF_SIGNAL (R345). Loss of signal or alignment for 384 tck takes the receive link DOWN. -/
  | lossOfSignal (x : Port)
  /-- LSW_TIMEOUT (R345). No accepted LSW for 5,760 tck takes the receive link DOWN. -/
  | lswTimeout (x : Port)
  /-- CODE_ERROR_LIMIT (R345). 16 code errors within 1,024 code groups take the receive link DOWN. -/
  | codeErrorLimit (x : Port) (n : BitVec 32)
  /-- WRAP_CHANGE (R348). The node's wrap state follows a change of its usable sides. -/
  | wrapChange
  /-- TIME_SET_RECEIVE (R360). A received TIME set yields a delay and offset sample for the port. -/
  | timeSetReceive (x : Port) (w : Word) (sub : BitVec 8)
  /-- EPOCH_RECEIVE (R362). A received EPOCH set gives the whole hive time and may align or step it. -/
  | epochReceive (x : Port) (w : Word)
  /-- HOLDOVER_END (R356). A recovered clock's 256 µs holdover ends without the link UP and it stops. -/
  | holdoverEnd (x : Port)
  /-- HIVE_SECONDS_WRITE (R365). A write of HIVE.SECONDS takes effect at the next tick 0, or is refused. -/
  | hiveSecondsWrite (p : Path) (v : BitVec 32)
  /-- CLEAR_ERR (R366). A write of CLEAR_ERR sets the port's four error counters to 0. -/
  | clearErr (p : Path) (x : Port)
  /-- PORT_ENABLE (R354). Ring port ENABLE written 1 powers the port or schedules its restart. -/
  | portEnable (p : Path) (x : Port)
  /-- PORT_DISABLE (R355). Ring port ENABLE written 0 begins a controlled close, or is refused for the time port. -/
  | portDisable (p : Path) (x : Port)
  /-- BYPASS_INSERT_WRITE (R352). A write of INSERT or AT_TICK requests an open or close of the bypass, checked under R352. -/
  | bypassInsertWrite (p : Path) (v : Word)
  /-- BYPASS_MOVE (R352). A scheduled or immediate bypass movement begins, opening or closing the switch. -/
  | bypassMove
  /-- BYPASS_SETTLED (R352). 7,680 tck after a movement the bypass reaches OPEN or CLOSED. -/
  | bypassSettled
  /-- QUEEN_EN_WRITE (R368). QUEEN_EN written 1 takes the queen role or is refused with a cause. -/
  | queenEnWrite (p : Path)
  /-- QUEEN_RELEASE (R372). QUEEN_EN written 0 releases the role, discarding census and store. -/
  | queenRelease (p : Path)
  /-- BEACON_SEND (R380). The queen sends a BEACON on each presence period tick. -/
  | beaconSend
  /-- BEACON_RECEIVE (R385). A node or queen acts on a BEACON: SIV recorded, EPOCH compared, rejoin or queen release. -/
  | beaconReceive
  /-- PRESENT_SEND (R380). A node sends PRESENT at 64 + ADDR × 2,048 tck after the beacon tick. -/
  | presentSend
  /-- PRESENT_RECEIVE (R381). The queen records a PRESENT answer in the census. -/
  | presentReceive
  /-- JOIN_SEND (R375). An unaddressed aligned node sends JOIN, repeating every 10 ms + ID[3:0] ms. -/
  | joinSend
  /-- JOIN_RECEIVE (R377). The queen answers a JOIN with an ASSIGN of an address or a refusal. -/
  | joinReceive
  /-- ASSIGN_RECEIVE (R378). A node accepts an ASSIGN matching its unit ID, taking address and EPOCH. -/
  | assignReceive
  /-- NODE_GONE (R381). GONE_N silent beacon periods mark a census entry GONE and drop its packets. -/
  | nodeGone (a : Fin 97)
  /-- LEAVE_WRITE (R386). A write of HIVE.ROLE.LEAVE sets LEAVING and stops ring pops. -/
  | leaveWrite (p : Path)
  /-- LEAVE_SEND (R386). A leaving node sends LEAVE once no events are IN_FLIGHT. -/
  | leaveSend
  /-- LEAVE_RECEIVE (R387). The queen marks the sender GONE and holds its own packets around AT_TICK. -/
  | leaveReceive
  /-- DISPLAY (R392). A DISPLAY packet accepted in sequence writes memory-layer words. -/
  | display
  /-- EVENTS (R389). The queen accepts an EVENTS packet in sequence into its receive ring or refuses it. -/
  | events
  /-- ACK (R390). A received ACK acknowledges packets and frees covered IN_FLIGHT events. -/
  | ack
  /-- ACK_SEND (R390). A receiver sends one ACK within 1,024 tck of accepting or discarding a duplicate. -/
  | ackSend
  /-- RETRANSMIT (R391). 200 µs without an advancing ACK resends every unacknowledged packet. -/
  | retransmit (a : Fin 97)
  /-- ARM (R395). An ARM waggle makes the node record its target and begin preparation. -/
  | arm
  /-- ARM_PREPARED (R394). Preparation succeeds or fails and the node answers ARMED with a result. -/
  | armPrepared
  /-- COMMIT (R395). A COMMIT waggle makes a lagging node prepare again. -/
  | commit
  /-- REVERT (R395). A REVERT waggle cancels an arming or arms the return mode. -/
  | revert
  /-- COMMIT_TICK_PASS (R395). The commit tick passes for an UNARMED node, which enters LAG. -/
  | commitTickPass
  /-- MODE_REPORT_SEND (R395). A node sends MODE_REPORT 64 + ADDR × 2,048 tck after its commit clock. -/
  | modeReportSend
  /-- ARMED_RECEIVE (R397). The queen records an ARMED or MODE_REPORT answer in census and MODE_CENSUS. -/
  | armedReceive
  /-- WAGGLE_SCHEDULE (R398). A BLINK, DIM, HIVE_RESET or ACTIVATE waggle becomes the pending one of its type. -/
  | waggleSchedule
  /-- WAGGLE_APPLY (R398). A pending BLINK or DIM is applied at its commit clock, HIVE_RESET at its tick. -/
  | waggleApply
  /-- TX_SUBMIT (R399). SUBMIT on the queen takes a packet from a tile, stamps it and queues it. -/
  | txSubmit (p : Path) (v : Word) (found : Option (BitVec 32))
  /-- CENSUS_WRITE (R379). A write of the census loads it, or unbinds an entry while the role is held. -/
  | censusWrite (n : Fin 388) (v : Word)
  /-- CLOCK_SRC_WRITE (R406). A write of CLOCK.BASIC.SRC requests a source switch, refused with a cause if not allowed. -/
  | clockSrcWrite (p : Path) (v : Word)
  /-- SWITCHED (R407). An accepted source switch completes within 64 tck. -/
  | switched
  /-- JUDGE_WINDOW_END (R402). A judgement window of a clock source ends, setting or clearing READY. -/
  | judgeWindowEnd (src : Fin 4) (count : Nat) (offset : Nat)
  /-- PLL_LOCK (R405). The PLL locks to a READY reference. -/
  | pllLock
  /-- GATE_WRITE (R412). A write of CLOCK.GATE turns gates off unless in use, which raises GATE_REFUSED. -/
  | gateWrite (p : Path) (v : Word)
  /-- POWER_REQ_WRITE (R424). A write of CLOCK.POWER.REQ changes or schedules a change of power state. -/
  | powerReqWrite (p : Path) (v : Word)
  /-- STANDBY_EXIT (R426). The exit commit clock returns the device from STANDBY to its RETURN state. -/
  | standbyExit (r : Readings)
  /-- POWER_ON (R415). A monitored supply below threshold or first power-up holds power-on reset. -/
  | powerOn
  /-- RESET_N (R415). RESET_N low for 1 µs or more resets the device. -/
  | resetN (ns : Nat)
  /-- WATCHDOG (R415). The management watchdog expires after 100 ms without service and resets the device. -/
  | watchdog
  /-- RESET_EXIT (R418). The last reset source ends and the device leaves reset, recording the cause. -/
  | resetExit (pins : ExitPins)
  /-- STARTUP_STEP (R421). The fabric start-up order runs its next step after its delay. -/
  | startupStep
  /-- STARTUP_SLOW (R423). A LOCK step waits 10 ms and STARTUP_SLOW is raised. -/
  | startupSlow
  /-- STARTUP_WRITE (R422). A write of CLOCK.STARTUP is accepted or refused with STARTUP_REFUSED. -/
  | startupWrite (p : Path) (v : Word)
  /-- RESET_COUNT_CLEAR (R428). A write of CLEAR sets the four reset counters to 0. -/
  | resetCountClear (p : Path)
  /-- MEM_WINDOW_OPEN (R441). A request opens a memory port window on a tile, starting its opening check. -/
  | memWindowOpen (w : Fin 32) (t : Fin 4096)
  /-- WINDOW_OPEN_DONE (R441). A window's opening passes to OPEN or fails to REFUSED. -/
  | windowOpenDone (w : Fin 32) (found : Option (BitVec 32))
  /-- WINDOW_CLOSE (R441). A close request makes a window CLOSED at once. -/
  | windowClose (w : Fin 32)
  /-- MEM_WINDOW_ACCESS (R431). A fabric read or write through an OPEN memory window. -/
  | memWindowAccess (w : Fin 32) (a : Fin 1024) (v : Option Word)
  /-- TILE_CLEAR (R436). A write of FABRIC.TILE_CTRL.CLEAR returns a FAILED tile to GOOD. -/
  | tileClear (p : Path) (v : Word)
  /-- DMA_DESCRIPTOR (R442). A DMA descriptor is tested against protected ranges and starts or is refused. -/
  | dmaDescriptor (srcExt : Bool) (src : BitVec 29) (dstExt : Bool) (dst : BitVec 29) (count : Fin 65536)
  /-- DMA_DONE (R442). A DMA descriptor completes or stops at the word reached. -/
  | dmaDone (found : List (Nat × BitVec 32))
  /-- PROT_WRITE (R444). A write of a protected range takes effect or is refused while FROZEN. -/
  | protWrite (p : Path) (n : Fin 8) (v : Word)
  /-- FREEZE (R444). A write of FREEZE sets FROZEN until a reset reaching the FABRIC page. -/
  | freeze (p : Path)
  /-- CTX_SWITCH (R446). A CONFIG.CTX_SWITCH GO requests an immediate or tied context switch. -/
  | ctxSwitch (p : Path) (v : Word)
  /-- FABRIC_RESET (R450). A FABRIC.CTRL.RESET write starts a fabric reset. -/
  | fabricReset (p : Path)
  /-- FABRIC_RESET_RELEASE (R450). 1,024 tck after a fabric reset, context 0 becomes active or is reloaded. -/
  | fabricResetRelease
  /-- LOAD_GO (R461). A CONFIG.LOAD_CTRL GO requests a configuration load, judged at once. -/
  | loadGo (p : Path) (v : Word)
  /-- LOAD_COPY_END (R463). The loader finishes copying the stream into staging and enters CHECK. -/
  | loadCopyEnd
  /-- LOAD_CHECK_END (R463). Tag and staging reopen end; causes 6 to 11 are judged. -/
  | loadCheckEnd (found : List (Nat × BitVec 32))
  /-- LOAD_WRITE_END (R465). The last frame is written and the verify detour is requested. -/
  | loadWriteEnd (flips : List (Nat × Nat))
  /-- LOAD_DONE (R466). The verify detour ends and the load completes. -/
  | loadDone
  /-- STAGE_WRITE (R460). A write of CONFIG.STAGE places the staging area, or is refused during a load. -/
  | stageWrite (p : Path) (v : Word)
  /-- SCRUB_SLOT (R470). The scrubber reads and decodes one frame slot and acts on the result. -/
  | scrubSlot (flips : List (Fin 3088))
  /-- MAP_SCRUB_DONE (R475). The map memory scrub of a pass completes. -/
  | mapScrubDone (found : List (Nat × Option Word))
  /-- SELF_UPSET (R477). A vote of the scrubber's triplicated state disagrees and is corrected or restarts the pass. -/
  | selfUpset (v : Vote)
  /-- SCRUB_BASIC_WRITE (R480). A write of SCRUB.BASIC is accepted for the next pass or refused. -/
  | scrubBasicWrite (p : Path) (v : Word)
  /-- PASSES_CLEAR (R480). A write of SCRUB.PASSES.CLEAR clears PASSES and COUNTS. -/
  | passesClear (p : Path) (v : Word)
  /-- PIECE_CTRL_GO (R485). A STORE.PIECE_CTRL GO reads or writes one piece of a logical sector. -/
  | pieceCtrlGo (p : Path) (v : Word)
  /-- PIECE_WRITE_DONE (R482). A store piece write completes, possibly after a sector move. -/
  | pieceWriteDone (ok : Bool)
  /-- PIECE (R491). A PIECE packet is judged and stored or refused. -/
  | piece
  /-- PIECE_GO (R490). UPDATE.CTRL.PIECE_GO submits the piece buffer as a piece. -/
  | pieceGo (p : Path)
  /-- PIECE_RESP (R491). A node answers a piece with PIECE_RESP or LAST_PIECE once stored or refused. -/
  | pieceResp
  /-- VERIFY_DONE (R494). Verification of a received image ends READY or REJECTED. -/
  | verifyDone
  /-- ABORT (R493). UPDATE.CTRL.ABORT empties the receive slot. -/
  | abort (p : Path)
  /-- ACTIVATE (R498). UPDATE.CTRL.ACTIVATE requests activation of a READY image. -/
  | activate (p : Path)
  /-- HIVE_ACTIVATION (R500). At tick 0 of the activation second a node maps a READY HIVE image and resets. -/
  | hiveActivation
  /-- ACCEPT (R499). UPDATE.CTRL.ACCEPT lets the post-activation check pass. -/
  | accept (p : Path)
  /-- CHECK_TIME_END (R499). CHECK_TIME ends without a pass and the device enters HOLD. -/
  | checkTimeEnd
  /-- POST_ACTIVATION_CHECK (R501). The hive-class post-activation check passes or enters HOLD within 1 s. -/
  | postActivationCheck (ok : Bool)
  /-- KEY_COMMIT (R497). UPDATE.CTRL.KEY_COMMIT installs the configuration key once. -/
  | keyCommit (p : Path)
  /-- BOOT_WRITE (R503). A write of UPDATE.BOOT sets the boot record or is refused. -/
  | bootWrite (p : Path) (v : Word)
  /-- MC_READY (R502). The microcode reload completes with digests matched, or enters HOLD. -/
  | mcReady (ok : Bool)
  /-- SVC_REG (R506). The SVC_REG instruction reads or writes a register in HOLD. -/
  | svcReg (write : Bool) (a : BitVec 14) (v : Word)
  /-- SVC_MEM (R506). The SVC_MEM instruction accesses a memory-layer or external word. -/
  | svcMem (write : Bool) (ext : Bool) (a : BitVec 29) (v : Word)
  /-- EXTEST (R505). The EXTEST instruction drives and captures the boundary register. -/
  | extest (captured : BitVec 324) (si : Option (BitVec 324))
  /-- SAMPLE_PRELOAD (R505). The SAMPLE/PRELOAD instruction samples or preloads the boundary register. -/
  | samplePreload (captured : BitVec 324) (si : Option (BitVec 324))
  /-- BYPASS (R505). The BYPASS instruction selects the 1-bit bypass register. -/
  | bypass (si : Option Bool)
  /-- XMEM_EN_WRITE (R512). A write of XMEM.BASIC.EN enables the port or is refused. -/
  | xmemEnWrite (p : Path) (v : Word)
  /-- XMEM_PLL_LOCK (R512). The xSPI port's multiplier locks and accesses may proceed. -/
  | xmemPllLock
  /-- XMEM_DEV_WRITE (R513). A write of XMEM.DEVn sets a memory's parameters or is refused. -/
  | xmemDevWrite (p : Path) (n : Fin 2) (v : Word)
  /-- XMEM_CMD_GO (R511). XMEM.CMD GO issues one command to a memory after the burst in progress. -/
  | xmemCmdGo (p : Path) (v : Word)
  /-- CMD_DONE (R511). An XMEM.CMD command completes. -/
  | cmdDone (data : BitVec 32)
  /-- XMEM_WINDOW_ACCESS (R595). A read or write through XMEM window table 0x01. -/
  | xmemWindowAccess (p : Path) (k : Fin 29) (w : Option Word)
  /-- STREAM_TIMEOUT (R521). 10 ms without a continuation closes a write stream, padding the region. -/
  | streamTimeout
  /-- REGION_CTRL_GO (R518). CRYPT.REGION_CTRL GO sets the mode of a run of regions or is refused. -/
  | regionCtrlGo (p : Path) (v : Word)
  /-- REKEY_BURST (R524). The rekey engine re-encrypts one 1,024-byte burst and advances POSITION. -/
  | rekeyBurst
  /-- TWI_START (R541). A start condition ends any transaction in progress and begins a new one. -/
  | twiStart (mid : Bool)
  /-- TWI_STOP (R541). A stop condition ends the transaction and leaves the port IDLE. -/
  | twiStop (mid : Bool)
  /-- TWI_ADDRESS_BYTE (R550). The address byte is acknowledged for the port's own address or ignored. -/
  | twiAddressByte (b : Byte)
  /-- TWI_INDEX_BYTE (R535). The index byte of a write transaction sets the index. -/
  | twiIndexByte (b : Byte)
  /-- TWI_WRITE_BYTE (R536). A data byte is taken; the sixth completes a register write to the arbiter. -/
  | twiWriteByte (b : Byte)
  /-- TWI_READ_ACK (R537). The controller acknowledges a read byte; the sixth completes the register with its side-effect. -/
  | twiReadAck
  /-- TWI_READ_NACK (R537). The controller does not acknowledge a read byte; SDA is released without side-effect. -/
  | twiReadNack
  /-- TWI_TIMEOUT (R544). A line held low by the port for (TIMEOUT + 1) ms is released and the port recovers. -/
  | twiTimeout
  /-- TWI_BUS_FREE (R545). In RECOVER, 10 µs of free bus returns the port to IDLE. -/
  | twiBusFree
  /-- TWI_SLEEP (R547). In STANDBY the port's clock is gated after 10 ms of a free bus. -/
  | twiSleep
  /-- TWI_BASIC_WRITE (R546). A write of TWI.BASIC takes effect when the bus is next free. -/
  | twiBasicWrite (p : Path) (v : Word)
  /-- SELFTEST_DONE (R556). A targeted self-test ends, classing the error and mapping out a LASTING part. -/
  | selftestDone (kind : Nat) (lasting : Bool)
  /-- SELFTEST_REQ (R565). SELFTEST.REQ GO runs a self-test on demand or is refused. -/
  | selftestReq (p : Path) (v : Word)
  /-- LINE_CLEAR (R559). FAULT.LINE_CTRL.CLEAR returns a disabled line to service at the next commit clock. -/
  | lineClear (p : Path) (v : Word)
  /-- LOG_CLEAR (R563). FAULT.LOG_CTRL clears the fault log or the counters. -/
  | logClear (p : Path) (v : Word)
  /-- DIE_SENSOR_UPDATE (R574). Every 1 ms the drive-layer sensors and NTC inputs are converted. -/
  | dieSensorUpdate (die : List Int) (ntc : List (BitVec 12))
  /-- SHUTDOWN (R575). A sensor at 140 °C for 192,000 tck stops every group, string and the bias generator. -/
  | shutdown
  /-- THERM_BASIC_WRITE (R576). A write of THERM.BASIC sets NTC parameters or is refused. -/
  | thermBasicWrite (p : Path) (v : Word)
  /-- ALIGNMENT_GAINED (R345). Signal appears on a ring receiver and K28.5 alignment is gained, taking the receive link from DOWN to TRAINING. -/
  | alignmentGained (x : Port)
  /-- SECOND_ROLLOVER (R365). HIVE.TICK wraps to 0, HIVE.SECONDS advances, and a pending write of HIVE.SECONDS takes effect. -/
  | secondRollover
  /-- CLOCK_MANAGER_LOCK (R421). A fabric clock manager reports lock, ending a LOCK step of the start-up order or a relock after a context switch. -/
  | clockManagerLock (r : Fin 8)
  /-- MEMORY_INIT_DONE (R589). After power-on reset the memory layer finishes zeroing every word, and the load of context 0 begins. -/
  | memoryInitDone
  /-- ACTIVATION_CHECKING (R499). 1,024 tck after an accepted station-class activation, the boot record is written, CHECKING begins and the STREAM loads start. -/
  | activationChecking
  /-- QUIET_WINDOW_END (R387). The queen's quiet window around a leaving node's AT_TICK ends and its waiting submissions may start. -/
  | quietWindowEnd
  /-- SERVICE_EN_CHANGE (R505). SERVICE_EN changes level, releasing the service port from Test-Logic-Reset or holding it there with TDO at high impedance. -/
  | serviceEnChange (on : Bool)
  deriving DecidableEq, Repr

end Sys2Proof
end

