-- ==== Sys2Proof/Decode.lean ====
section
/-! DEFINITION. The commands that words spell. The table of operations and events gives no row any bits: the block takes events and
register accesses, not instruction words. -/
namespace Sys2Proof

/-- The command that a word of `nbits` bits spells: none does. -/
def decodeTableWord (_nbits _w : Nat) : Option Instr := none

end Sys2Proof
end

