-- ==== Sys2Proof/Config.lean ====
section
/-! DEFINITION. What an implementation fixes and what the manual leaves open: the free values have no body, so nothing in Lean can
evaluate them or prove a value of them. -/
namespace Sys2Proof.Config

/-- A fresh value the manual leaves open, by the count of free values taken so far; the counter stands in State. -/
opaque freeValue : Nat → BitVec 48

/-- How far a page's operation has come at a local tck, in its own unit: the manual does not time its steps (R70). -/
opaque progress : Nat → Nat → Nat

/-- AES-256 of a 128-bit block under a 256-bit key (the standard of R11, used by R497 and R519). -/
opaque aes256 : BitVec 256 → BitVec 128 → BitVec 128

/-- SHA-256 of a byte string (used by R487 and R494). -/
opaque sha256 : List Byte → BitVec 256

/-- Whether a 512-bit ECDSA P-256 signature (r, s) of a digest verifies under a public key (Q.x, Q.y): key, digest, signature (R458, R489). -/
opaque ecdsaOk : BitVec 512 → BitVec 256 → BitVec 512 → Bool

/-- The vendor key, fixed in the device at manufacture (R489). -/
opaque vendorKey : BitVec 512

/-- The key of a region's generation, derived inside the engine from a master key (R516, R517): whether it is the NOR key, the number
of the power-on reset that drew the PSRAM key, the region and the generation. -/
opaque regionKey : Bool → Nat → Nat → Nat → BitVec 256

/-- The SYSTEM sector (0 to 15) that holds a record: 0 boot record, 1 configuration key, 2 transfer descriptor, 3 received-piece bitmap,
4 HOLD record, 5 microcode digests, 6 activation marker, 7 line record, 8 region table, 9 copy of a region in rekey. The manual does not say which (R481, R482). -/
opaque systemSector : Nat → Fin 16

/-- Which drive-layer sensor (0 to 7) a lamp string's and the bias generator's temperature source 0b00 names: the manual does not
say (R188, R213). -/
opaque stringSensor : Nat → Fin 8
opaque lcdbSensor : Nat → Fin 8

end Sys2Proof.Config
end

