-- ==== Sys2Proof/Machine/Bits.lean ====
section
/-! DEFINITION. Bit-field reads and writes of a word, two's complement readings and the saturating and rounding arithmetic
that the chapters share (R3, R4, R5). -/
namespace Sys2Proof.Machine

/-- A word with only the bits [lo + width − 1 : lo] set. -/
def fieldMask (lo width : Nat) : Word := (BitVec.ofNat 48 (2 ^ width - 1)) <<< lo

/-- The value of the bits [lo + width − 1 : lo] of `w` (R3). -/
def bitsOf (w : Word) (lo width : Nat) : Nat := w.toNat / 2 ^ lo % 2 ^ width

/-- `w` with the bits [lo + width − 1 : lo] replaced by the low bits of `v`. -/
def withBits (w : Word) (lo width v : Nat) : Word :=
  (w &&& ~~~(fieldMask lo width)) ||| ((BitVec.ofNat 48 v <<< lo) &&& fieldMask lo width)

/-- A word built from fields (low bit, width, value), zero elsewhere. -/
def packWord : List (Nat × Nat × Nat) → Word
  | [] => 0
  | (lo, width, v) :: r => withBits (packWord r) lo width v

/-- One bit of a word as a Boolean. -/
def bitAt (w : Word) (i : Nat) : Bool := w.getLsbD i

/-- 0 or 1 for a Boolean. -/
def b2n (b : Bool) : Nat := if b then 1 else 0

/-- The two's complement reading of a value of `width` bits. -/
def signedOf (width v : Nat) : Int := if v < 2 ^ (width - 1) then (v : Int) else (v : Int) - (2 ^ width : Nat)

/-- The `width`-bit two's complement code of an integer. -/
def ofSigned (width : Nat) (v : Int) : Nat := (v % ((2 ^ width : Nat) : Int)).toNat

/-- Addition that stops at the greatest value of `width` bits. -/
def satAdd (width a b : Nat) : Nat := min (a + b) (2 ^ width - 1)

/-- Division rounded up. -/
def ceilDiv (a b : Nat) : Nat := (a + b - 1) / b

/-- Floor division of an integer by a positive number (the manual's floor). -/
def floorDiv (a : Int) (b : Nat) : Int := Int.fdiv a (b : Int)

/-- `v` held between `lo` and `hi`. -/
def clampNat (lo hi v : Nat) : Nat := max lo (min hi v)

/-- `v` held between `lo` and `hi`. -/
def clampInt (lo hi v : Int) : Int := max lo (min hi v)

/-- The positions below `n` at which a Boolean predicate holds. -/
def indicesWhere (n : Nat) (p : Nat → Bool) : List Nat := (List.range n).filter p

/-- The six bytes of a word, most significant first (R5). -/
def wordBytes (w : Word) : List Byte :=
  (List.range 6).map fun k => BitVec.ofNat 8 (bitsOf w (40 - 8 * k) 8)

/-- The word whose six bytes, most significant first, are the first six of `bs` (absent bytes count 0) (R5). -/
def bytesWord (bs : List Byte) : Word :=
  BitVec.ofNat 48 ((List.range 6).foldl (fun a k => a * 256 + (bs.getD k 0).toNat) 0)

/-- `f s` when `c` holds, else `s`: the conditional effect used all over the meanings. -/
def onlyIf {α : Type} (c : Bool) (f : α → α) (s : α) : α := if c then f s else s

end Sys2Proof.Machine
end

