-- ==== Sys2Proof/Machine/Regs.lean ====
section
/-! DEFINITION. The register map of the part, from the register tables of the chapters: every register's page and index, its
fields with their places, access types and reset values (R3, R6, R8, R63 to R69), and one name for each field. Where a table gives
a reset value in words (per unit, from SYSTEM, boot source), the value here is the model's, as its assumption log says. -/
namespace Sys2Proof.Machine

/-- The access types of register fields (R6). -/
inductive Access where
  | ro | rw | w1c | wo | rwl | rwx
  deriving DecidableEq, Repr

/-- One field of a register: its lowest bit, its width, its access type and its reset value. -/
structure RegField where
  lo : Nat
  width : Nat
  access : Access
  reset : Nat
  deriving DecidableEq, Repr

/-- The place of a field in the register file: the register's address (page × 256 + index), its lowest bit and its width. -/
structure Field where
  reg : Nat
  lo : Nat
  width : Nat
  deriving DecidableEq, Repr

/-- `n` registers of one layout at consecutive indexes. -/
def dupReg (idx n : Nat) (fs : List RegField) : List (Nat × List RegField) := (List.range n).map fun k => (idx + k, fs)

namespace Reg

/-- DEVICE.COMMIT_CTRL (R29). -/
abbrev DEVICE_COMMIT_CTRL : Nat := 0x9
/-- DEVICE.COMMIT_STAT (R31). -/
abbrev DEVICE_COMMIT_STAT : Nat := 0xa
/-- DEVICE.CAPS (R38). -/
abbrev DEVICE_CAPS : Nat := 0x1
/-- GRP.LINE_USE (R49). -/
abbrev GRP_LINE_USE (g : Nat) : Nat := 0x808 + 256 * g
/-- GRP.LINE_DISABLED (R51). -/
abbrev GRP_LINE_DISABLED (g : Nat) : Nat := 0x809 + 256 * g
/-- DEVICE.EVENTS (R68). -/
abbrev DEVICE_EVENTS : Nat := 0x4
/-- DEVICE.EVENT_SUM0 (R69). -/
abbrev DEVICE_EVENT_SUM0 : Nat := 0xb
/-- DEVICE.EVENT_SUM1 (R69). -/
abbrev DEVICE_EVENT_SUM1 : Nat := 0xc
/-- COMB.CAPS (R125). -/
abbrev COMB_CAPS : Nat := 0x1001
/-- COMB.BASIC (R125). -/
abbrev COMB_BASIC : Nat := 0x1002
/-- COMB.STATUS (R125). -/
abbrev COMB_STATUS : Nat := 0x1003
/-- COMB.EVENTS (R125). -/
abbrev COMB_EVENTS : Nat := 0x1004
/-- COMB.BANK_CTRL (R125). -/
abbrev COMB_BANK_CTRL : Nat := 0x1008
/-- COMB.X_CTRL (R125). -/
abbrev COMB_X_CTRL : Nat := 0x1040
/-- COMB.X_PERIOD (R125). -/
abbrev COMB_X_PERIOD : Nat := 0x1041
/-- FRAME.BUF (R131). -/
abbrev FRAME_BUF (n : Nat) : Nat := 0x1108 + n
/-- FRAME.BLINK (R147). -/
abbrev FRAME_BLINK (n : Nat) : Nat := 0x1112 + n
/-- FRAME.OVR (R149). -/
abbrev FRAME_OVR : Nat := 0x1111
/-- CALIB.DERATE (R151). -/
abbrev CALIB_DERATE : Nat := 0x1208
/-- FRAME.PLANES (R156). -/
abbrev FRAME_PLANES : Nat := 0x1110
/-- FRAME.CAPS (R157). -/
abbrev FRAME_CAPS : Nat := 0x1101
/-- FRAME.STATUS (R157). -/
abbrev FRAME_STATUS : Nat := 0x1103
/-- FRAME.EVENTS (R157). -/
abbrev FRAME_EVENTS : Nat := 0x1104
/-- GRP.CAPS (R178). -/
abbrev GRP_CAPS (g : Nat) : Nat := 0x801 + 256 * g
/-- GRP.BASIC (R178). -/
abbrev GRP_BASIC (g : Nat) : Nat := 0x802 + 256 * g
/-- GRP.STATUS (R178). -/
abbrev GRP_STATUS (g : Nat) : Nat := 0x803 + 256 * g
/-- GRP.EVENTS (R178). -/
abbrev GRP_EVENTS (g : Nat) : Nat := 0x804 + 256 * g
/-- GRP.HEADROOM (R178). -/
abbrev GRP_HEADROOM (g : Nat) : Nat := 0x80a + 256 * g
/-- GRP.X_DRIVE (R178). -/
abbrev GRP_X_DRIVE (g : Nat) : Nat := 0x840 + 256 * g
/-- GRP.X_HEADROOM (R178). -/
abbrev GRP_X_HEADROOM (g : Nat) : Nat := 0x841 + 256 * g
/-- GRP.LCD (R184). -/
abbrev GRP_LCD (g : Nat) : Nat := 0x80b + 256 * g
/-- LCDB.CAPS (R201). -/
abbrev LCDB_CAPS : Nat := 0x1301
/-- LCDB.BASIC (R201). -/
abbrev LCDB_BASIC : Nat := 0x1302
/-- LCDB.STATUS (R201). -/
abbrev LCDB_STATUS : Nat := 0x1303
/-- LCDB.EVENTS (R201). -/
abbrev LCDB_EVENTS : Nat := 0x1304
/-- LCDB.X_COMP (R201). -/
abbrev LCDB_X_COMP : Nat := 0x1340
/-- GRP.LCD_DC (R202). -/
abbrev GRP_LCD_DC (g : Nat) : Nat := 0x80c + 256 * g
/-- STRING.CAPS (R225). -/
abbrev STRING_CAPS : Nat := 0x1401
/-- STRING.STATUS (R225). -/
abbrev STRING_STATUS : Nat := 0x1403
/-- STRING.EVENTS (R225). -/
abbrev STRING_EVENTS : Nat := 0x1404
/-- STRING.CTRL (R225). -/
abbrev STRING_CTRL (n : Nat) : Nat := 0x1408 + n
/-- STRING.DERATE (R225). -/
abbrev STRING_DERATE : Nat := 0x140c
/-- STRING.STAT (R225). -/
abbrev STRING_STAT (n : Nat) : Nat := 0x1410 + n
/-- STRING.MEAS (R225). -/
abbrev STRING_MEAS (n : Nat) : Nat := 0x1414 + n
/-- STRING.SUP (R225). -/
abbrev STRING_SUP (n : Nat) : Nat := 0x1418 + n
/-- STRING.X_SEQ (R225). -/
abbrev STRING_X_SEQ (n : Nat) : Nat := 0x1440 + n
/-- KEY.CAPS (R253). -/
abbrev KEY_CAPS : Nat := 0x1801
/-- KEY.BASIC (R253). -/
abbrev KEY_BASIC : Nat := 0x1802
/-- KEY.STATUS (R253). -/
abbrev KEY_STATUS : Nat := 0x1803
/-- KEY.EVENTS (R253). -/
abbrev KEY_EVENTS : Nat := 0x1804
/-- KEY.SENSE (R253). -/
abbrev KEY_SENSE (n : Nat) : Nat := 0x1808 + n
/-- KEY.PROFILE (R253). -/
abbrev KEY_PROFILE (n : Nat) : Nat := 0x1810 + n
/-- KEY.X_PROFILE (R253). -/
abbrev KEY_X_PROFILE (n : Nat) : Nat := 0x1840 + n
/-- GHOST.CAPS (R277). -/
abbrev GHOST_CAPS : Nat := 0x1901
/-- GHOST.BASIC (R277). -/
abbrev GHOST_BASIC : Nat := 0x1902
/-- GHOST.STATUS (R277). -/
abbrev GHOST_STATUS : Nat := 0x1903
/-- GHOST.EVENTS (R277). -/
abbrev GHOST_EVENTS : Nat := 0x1904
/-- GHOST.LAST_GHOST (R277). -/
abbrev GHOST_LAST_GHOST : Nat := 0x1908
/-- GHOST.LAST_HEALTH (R277). -/
abbrev GHOST_LAST_HEALTH : Nat := 0x1909
/-- GHOST.X_RESOLVE (R277). -/
abbrev GHOST_X_RESOLVE : Nat := 0x1940
/-- GHOST.X_HEALTH (R277). -/
abbrev GHOST_X_HEALTH : Nat := 0x1941
/-- EVENT.CAPS (R306). -/
abbrev EVENT_CAPS : Nat := 0x1a01
/-- EVENT.BASIC (R306). -/
abbrev EVENT_BASIC : Nat := 0x1a02
/-- EVENT.STATUS (R306). -/
abbrev EVENT_STATUS : Nat := 0x1a03
/-- EVENT.EVENTS (R306). -/
abbrev EVENT_EVENTS : Nat := 0x1a04
/-- EVENT.POP (R306). -/
abbrev EVENT_POP : Nat := 0x1a08
/-- EVENT.PEEK (R306). -/
abbrev EVENT_PEEK : Nat := 0x1a09
/-- EVENT.LAST_EXT (R306). -/
abbrev EVENT_LAST_EXT : Nat := 0x1a0a
/-- EVENT.PEEK_EXT (R306). -/
abbrev EVENT_PEEK_EXT : Nat := 0x1a0b
/-- KLOCK.CAPS (R307). -/
abbrev KLOCK_CAPS : Nat := 0x1b01
/-- KLOCK.BASIC (R307). -/
abbrev KLOCK_BASIC : Nat := 0x1b02
/-- KLOCK.STATUS (R307). -/
abbrev KLOCK_STATUS : Nat := 0x1b03
/-- KLOCK.EVENTS (R307). -/
abbrev KLOCK_EVENTS : Nat := 0x1b04
/-- KLOCK.CTRL (R307). -/
abbrev KLOCK_CTRL : Nat := 0x1b08
/-- KLOCK.SEQ_A (R307). -/
abbrev KLOCK_SEQ_A : Nat := 0x1b09
/-- KLOCK.SEQ_B (R307). -/
abbrev KLOCK_SEQ_B : Nat := 0x1b0a
/-- KLOCK.SEQ_LEN (R307). -/
abbrev KLOCK_SEQ_LEN : Nat := 0x1b0b
/-- KLOCK.COMBO_KEYS (R307). -/
abbrev KLOCK_COMBO_KEYS (n : Nat) : Nat := 0x1b10 + n
/-- KLOCK.COMBO_CTRL (R307). -/
abbrev KLOCK_COMBO_CTRL (n : Nat) : Nat := 0x1b14 + n
/-- LEDGER.CAPS (R327). -/
abbrev LEDGER_CAPS : Nat := 0x201
/-- LEDGER.BASIC (R327). -/
abbrev LEDGER_BASIC : Nat := 0x202
/-- LEDGER.STATUS (R327). -/
abbrev LEDGER_STATUS : Nat := 0x203
/-- LEDGER.EVENTS (R327). -/
abbrev LEDGER_EVENTS : Nat := 0x204
/-- LEDGER.LIMITS (R327). -/
abbrev LEDGER_LIMITS : Nat := 0x208
/-- LEDGER.MON (R327). -/
abbrev LEDGER_MON : Nat := 0x209
/-- LEDGER.DEMAND (R328). -/
abbrev LEDGER_DEMAND : Nat := 0x20a
/-- LEDGER.FACTORS (R328). -/
abbrev LEDGER_FACTORS : Nat := 0x20b
/-- LEDGER.ENERGY_SUP (R328). -/
abbrev LEDGER_ENERGY_SUP : Nat := 0x20c
/-- LEDGER.ENERGY_HEAT (R328). -/
abbrev LEDGER_ENERGY_HEAT : Nat := 0x20d
/-- LEDGER.CTR (R328). -/
abbrev LEDGER_CTR : Nat := 0x20e
/-- RINGx.CAPS (R366). -/
abbrev RING_CAPS (p : Nat) : Nat := 0x301 + 256 * p
/-- RINGx.BASIC (R366). -/
abbrev RING_BASIC (p : Nat) : Nat := 0x302 + 256 * p
/-- RINGx.STATUS (R366). -/
abbrev RING_STATUS (p : Nat) : Nat := 0x303 + 256 * p
/-- RINGx.EVENTS (R366). -/
abbrev RING_EVENTS (p : Nat) : Nat := 0x304 + 256 * p
/-- RINGx.ERRORS (R366). -/
abbrev RING_ERRORS (p : Nat) : Nat := 0x308 + 256 * p
/-- RINGx.LINK (R366). -/
abbrev RING_LINK (p : Nat) : Nat := 0x309 + 256 * p
/-- RINGx.X_PHY (R366). -/
abbrev RING_X_PHY (p : Nat) : Nat := 0x340 + 256 * p
/-- RINGA.BYPASS (R366). -/
abbrev RINGA_BYPASS : Nat := 0x30c
/-- HIVE.SECONDS (R367). -/
abbrev HIVE_SECONDS : Nat := 0x508
/-- HIVE.TICK (R367). -/
abbrev HIVE_TICK : Nat := 0x509
/-- HIVE.ALIGN (R367). -/
abbrev HIVE_ALIGN : Nat := 0x50a
/-- HIVE.EVENTS (R367). -/
abbrev HIVE_EVENTS : Nat := 0x504
/-- HIVE.STATUS (R401). -/
abbrev HIVE_STATUS : Nat := 0x503
/-- HIVE.ROLE (R401). -/
abbrev HIVE_ROLE : Nat := 0x50b
/-- HIVE.UNIT_ID (R401). -/
abbrev HIVE_UNIT_ID (n : Nat) : Nat := 0x50c + n
/-- HIVE.MODE (R401). -/
abbrev HIVE_MODE : Nat := 0x50f
/-- HIVE.MODE_CENSUS (R401). -/
abbrev HIVE_MODE_CENSUS : Nat := 0x510
/-- HIVE.TX_CTRL (R401). -/
abbrev HIVE_TX_CTRL : Nat := 0x511
/-- HIVE.TX_STAT (R401). -/
abbrev HIVE_TX_STAT : Nat := 0x512
/-- HIVE.RX (R401). -/
abbrev HIVE_RX : Nat := 0x513
/-- HIVE.GONE (R401). -/
abbrev HIVE_GONE : Nat := 0x514
/-- CLOCK.CAPS (R428). -/
abbrev CLOCK_CAPS : Nat := 0x101
/-- CLOCK.BASIC (R428). -/
abbrev CLOCK_BASIC : Nat := 0x102
/-- CLOCK.STATUS (R428). -/
abbrev CLOCK_STATUS : Nat := 0x103
/-- CLOCK.EVENTS (R428). -/
abbrev CLOCK_EVENTS : Nat := 0x104
/-- CLOCK.GATE (R428). -/
abbrev CLOCK_GATE : Nat := 0x108
/-- CLOCK.POWER (R428). -/
abbrev CLOCK_POWER : Nat := 0x109
/-- CLOCK.STARTUP (R429). -/
abbrev CLOCK_STARTUP : Nat := 0x10a
/-- CLOCK.RESET_CAUSE (R429). -/
abbrev CLOCK_RESET_CAUSE : Nat := 0x10b
/-- CLOCK.RESET_COUNT (R429). -/
abbrev CLOCK_RESET_COUNT : Nat := 0x10c
/-- CONFIG.CTX_STATE (R451). -/
abbrev CONFIG_CTX_STATE : Nat := 0x2808
/-- CONFIG.CTX_SWITCH (R451). -/
abbrev CONFIG_CTX_SWITCH : Nat := 0x2809
/-- CONFIG.TILE_OK (R451). -/
abbrev CONFIG_TILE_OK (n : Nat) : Nat := 0x2810 + n
/-- FABRIC.CAPS (R452). -/
abbrev FABRIC_CAPS : Nat := 0x3801
/-- FABRIC.STATUS (R452). -/
abbrev FABRIC_STATUS : Nat := 0x3803
/-- FABRIC.EVENTS (R452). -/
abbrev FABRIC_EVENTS : Nat := 0x3804
/-- FABRIC.CTRL (R452). -/
abbrev FABRIC_CTRL : Nat := 0x3808
/-- FABRIC.TILE_CTRL (R452). -/
abbrev FABRIC_TILE_CTRL : Nat := 0x3809
/-- FABRIC.TILE_STAT (R452). -/
abbrev FABRIC_TILE_STAT : Nat := 0x380a
/-- FABRIC.PROT (R452). -/
abbrev FABRIC_PROT (n : Nat) : Nat := 0x3810 + n
/-- FABRIC.PROT_CTRL (R452). -/
abbrev FABRIC_PROT_CTRL : Nat := 0x3818
/-- FABRIC.PROT_HIT (R452). -/
abbrev FABRIC_PROT_HIT : Nat := 0x3819
/-- CONFIG.CAPS (R479). -/
abbrev CONFIG_CAPS : Nat := 0x2801
/-- CONFIG.EVENTS (R479). -/
abbrev CONFIG_EVENTS : Nat := 0x2804
/-- CONFIG.LOAD_CTRL (R479). -/
abbrev CONFIG_LOAD_CTRL : Nat := 0x280a
/-- CONFIG.LOAD_STAT (R479). -/
abbrev CONFIG_LOAD_STAT : Nat := 0x280b
/-- CONFIG.STAGE (R479). -/
abbrev CONFIG_STAGE : Nat := 0x280c
/-- SCRUB.CAPS (R480). -/
abbrev SCRUB_CAPS : Nat := 0x2901
/-- SCRUB.BASIC (R480). -/
abbrev SCRUB_BASIC : Nat := 0x2902
/-- SCRUB.STATUS (R480). -/
abbrev SCRUB_STATUS : Nat := 0x2903
/-- SCRUB.EVENTS (R480). -/
abbrev SCRUB_EVENTS : Nat := 0x2904
/-- SCRUB.LAST_ERR (R480). -/
abbrev SCRUB_LAST_ERR : Nat := 0x2908
/-- SCRUB.COUNTS (R480). -/
abbrev SCRUB_COUNTS : Nat := 0x2909
/-- SCRUB.PASSES (R480). -/
abbrev SCRUB_PASSES : Nat := 0x290a
/-- STORE.CAPS (R507). -/
abbrev STORE_CAPS : Nat := 0x2a01
/-- STORE.STATUS (R507). -/
abbrev STORE_STATUS : Nat := 0x2a03
/-- STORE.EVENTS (R507). -/
abbrev STORE_EVENTS : Nat := 0x2a04
/-- STORE.PIECE_CTRL (R507). -/
abbrev STORE_PIECE_CTRL : Nat := 0x2a08
/-- UPDATE.CAPS (R508). -/
abbrev UPDATE_CAPS : Nat := 0x2b01
/-- UPDATE.BASIC (R508). -/
abbrev UPDATE_BASIC : Nat := 0x2b02
/-- UPDATE.STATUS (R508). -/
abbrev UPDATE_STATUS : Nat := 0x2b03
/-- UPDATE.EVENTS (R508). -/
abbrev UPDATE_EVENTS : Nat := 0x2b04
/-- UPDATE.IMAGE (R508). -/
abbrev UPDATE_IMAGE : Nat := 0x2b08
/-- UPDATE.RXCOUNT (R508). -/
abbrev UPDATE_RXCOUNT : Nat := 0x2b09
/-- UPDATE.CTRL (R508). -/
abbrev UPDATE_CTRL : Nat := 0x2b0a
/-- UPDATE.LAST_PIECE (R508). -/
abbrev UPDATE_LAST_PIECE : Nat := 0x2b0b
/-- UPDATE.HOLD (R508). -/
abbrev UPDATE_HOLD : Nat := 0x2b0d
/-- UPDATE.BOOT (R508). -/
abbrev UPDATE_BOOT : Nat := 0x2b0e
/-- XMEM.CAPS (R529). -/
abbrev XMEM_CAPS : Nat := 0x2d01
/-- XMEM.BASIC (R529). -/
abbrev XMEM_BASIC : Nat := 0x2d02
/-- XMEM.STATUS (R529). -/
abbrev XMEM_STATUS : Nat := 0x2d03
/-- XMEM.EVENTS (R529). -/
abbrev XMEM_EVENTS : Nat := 0x2d04
/-- XMEM.DEV (R529). -/
abbrev XMEM_DEV (n : Nat) : Nat := 0x2d08 + n
/-- XMEM.CMD (R529). -/
abbrev XMEM_CMD : Nat := 0x2d0a
/-- XMEM.CMD_ADDR (R529). -/
abbrev XMEM_CMD_ADDR : Nat := 0x2d0b
/-- XMEM.WIN_BASE (R529). -/
abbrev XMEM_WIN_BASE : Nat := 0x2d0c
/-- XMEM.PROT (R529). -/
abbrev XMEM_PROT (n : Nat) : Nat := 0x2d10 + n
/-- CRYPT.CAPS (R530). -/
abbrev CRYPT_CAPS : Nat := 0x2c01
/-- CRYPT.STATUS (R530). -/
abbrev CRYPT_STATUS : Nat := 0x2c03
/-- CRYPT.EVENTS (R530). -/
abbrev CRYPT_EVENTS : Nat := 0x2c04
/-- CRYPT.REGION_CTRL (R530). -/
abbrev CRYPT_REGION_CTRL : Nat := 0x2c08
/-- TWI.CAPS (R551). -/
abbrev TWI_CAPS : Nat := 0x601
/-- TWI.BASIC (R551). -/
abbrev TWI_BASIC : Nat := 0x602
/-- TWI.STATUS (R551). -/
abbrev TWI_STATUS : Nat := 0x603
/-- TWI.EVENTS (R551). -/
abbrev TWI_EVENTS : Nat := 0x604
/-- SELFTEST.BASIC (R565). -/
abbrev SELFTEST_BASIC : Nat := 0x3002
/-- SELFTEST.STATUS (R565). -/
abbrev SELFTEST_STATUS : Nat := 0x3003
/-- SELFTEST.EVENTS (R565). -/
abbrev SELFTEST_EVENTS : Nat := 0x3004
/-- SELFTEST.REQ (R565). -/
abbrev SELFTEST_REQ : Nat := 0x3008
/-- FAULT.STATUS (R566). -/
abbrev FAULT_STATUS : Nat := 0x3103
/-- FAULT.EVENTS (R566). -/
abbrev FAULT_EVENTS : Nat := 0x3104
/-- FAULT.LINE_CTRL (R566). -/
abbrev FAULT_LINE_CTRL : Nat := 0x3108
/-- FAULT.LOG_CTRL (R566). -/
abbrev FAULT_LOG_CTRL : Nat := 0x3109
/-- THERM.CAPS (R576). -/
abbrev THERM_CAPS : Nat := 0x1501
/-- THERM.BASIC (R576). -/
abbrev THERM_BASIC : Nat := 0x1502
/-- THERM.STATUS (R576). -/
abbrev THERM_STATUS : Nat := 0x1503
/-- THERM.EVENTS (R576). -/
abbrev THERM_EVENTS : Nat := 0x1504
/-- THERM.NTC (R576). -/
abbrev THERM_NTC : Nat := 0x1508
/-- THERM.DIE_LO (R576). -/
abbrev THERM_DIE_LO : Nat := 0x1509
/-- THERM.DIE_HI (R576). -/
abbrev THERM_DIE_HI : Nat := 0x150a

end Reg

namespace Fld

abbrev DEVICE_COMMIT_CTRL_CTX_EN : Field := ⟨Reg.DEVICE_COMMIT_CTRL, 40, 1⟩
abbrev DEVICE_COMMIT_CTRL_CTX : Field := ⟨Reg.DEVICE_COMMIT_CTRL, 37, 3⟩
abbrev DEVICE_COMMIT_CTRL_SWAP_EN : Field := ⟨Reg.DEVICE_COMMIT_CTRL, 36, 1⟩
abbrev DEVICE_COMMIT_CTRL_FLIP_MASK : Field := ⟨Reg.DEVICE_COMMIT_CTRL, 28, 8⟩
abbrev DEVICE_COMMIT_CTRL_SUBMIT : Field := ⟨Reg.DEVICE_COMMIT_CTRL, 0, 1⟩
abbrev DEVICE_COMMIT_STAT_SET_PENDING : Field := ⟨Reg.DEVICE_COMMIT_STAT, 47, 1⟩
abbrev DEVICE_COMMIT_STAT_LAST_HIVE : Field := ⟨Reg.DEVICE_COMMIT_STAT, 46, 1⟩
abbrev DEVICE_COMMIT_STAT_LAST_REFUSED : Field := ⟨Reg.DEVICE_COMMIT_STAT, 45, 1⟩
abbrev DEVICE_COMMIT_STAT_REFUSE_CAUSE : Field := ⟨Reg.DEVICE_COMMIT_STAT, 42, 3⟩
abbrev DEVICE_COMMIT_STAT_MEMBERS : Field := ⟨Reg.DEVICE_COMMIT_STAT, 39, 3⟩
abbrev DEVICE_COMMIT_STAT_FRAME_NO : Field := ⟨Reg.DEVICE_COMMIT_STAT, 0, 32⟩
abbrev DEVICE_CAPS_FAMILY : Field := ⟨Reg.DEVICE_CAPS, 40, 8⟩
abbrev DEVICE_CAPS_PART : Field := ⟨Reg.DEVICE_CAPS, 28, 12⟩
abbrev DEVICE_CAPS_GRADE : Field := ⟨Reg.DEVICE_CAPS, 24, 4⟩
abbrev DEVICE_CAPS_DRIVE_GROUPS : Field := ⟨Reg.DEVICE_CAPS, 20, 4⟩
abbrev DEVICE_CAPS_CONTEXTS : Field := ⟨Reg.DEVICE_CAPS, 16, 4⟩
abbrev DEVICE_CAPS_MEM_TILES_LOG2 : Field := ⟨Reg.DEVICE_CAPS, 12, 4⟩
abbrev DEVICE_CAPS_STORE_SECTORS_LOG2 : Field := ⟨Reg.DEVICE_CAPS, 8, 4⟩
abbrev DEVICE_CAPS_HIVE_MAX : Field := ⟨Reg.DEVICE_CAPS, 0, 8⟩
abbrev GRP_LINE_USE_USE (g : Nat) : Field := ⟨(Reg.GRP_LINE_USE g), 0, 48⟩
abbrev GRP_LINE_DISABLED_DIS (g : Nat) : Field := ⟨(Reg.GRP_LINE_DISABLED g), 0, 48⟩
abbrev DEVICE_EVENTS_RESERVED_PAGE : Field := ⟨Reg.DEVICE_EVENTS, 3, 1⟩
abbrev DEVICE_EVENTS_LOCAL_DEFERRED : Field := ⟨Reg.DEVICE_EVENTS, 2, 1⟩
abbrev DEVICE_EVENTS_COMMIT_BUSY : Field := ⟨Reg.DEVICE_EVENTS, 1, 1⟩
abbrev DEVICE_EVENTS_COMMIT_REFUSED : Field := ⟨Reg.DEVICE_EVENTS, 0, 1⟩
abbrev DEVICE_EVENT_SUM0_PAGES : Field := ⟨Reg.DEVICE_EVENT_SUM0, 0, 48⟩
abbrev DEVICE_EVENT_SUM1_PAGES : Field := ⟨Reg.DEVICE_EVENT_SUM1, 0, 16⟩
abbrev COMB_CAPS_CELLS : Field := ⟨Reg.COMB_CAPS, 36, 12⟩
abbrev COMB_CAPS_BANKS : Field := ⟨Reg.COMB_CAPS, 32, 4⟩
abbrev COMB_CAPS_TYPES : Field := ⟨Reg.COMB_CAPS, 28, 4⟩
abbrev COMB_CAPS_GROUPS : Field := ⟨Reg.COMB_CAPS, 24, 4⟩
abbrev COMB_BASIC_LOCK_HIVE : Field := ⟨Reg.COMB_BASIC, 1, 1⟩
abbrev COMB_BASIC_RUN : Field := ⟨Reg.COMB_BASIC, 0, 1⟩
abbrev COMB_STATUS_RUN_STATE : Field := ⟨Reg.COMB_STATUS, 30, 2⟩
abbrev COMB_STATUS_ACTIVE_BANK : Field := ⟨Reg.COMB_STATUS, 29, 1⟩
abbrev COMB_STATUS_SHADOW_STATE : Field := ⟨Reg.COMB_STATUS, 26, 3⟩
abbrev COMB_STATUS_CHECK_CAUSE : Field := ⟨Reg.COMB_STATUS, 22, 4⟩
abbrev COMB_STATUS_FAIL_CELL : Field := ⟨Reg.COMB_STATUS, 9, 9⟩
abbrev COMB_STATUS_CUR_CELL : Field := ⟨Reg.COMB_STATUS, 0, 9⟩
abbrev COMB_EVENTS_ACTIVE_WRITE : Field := ⟨Reg.COMB_EVENTS, 6, 1⟩
abbrev COMB_EVENTS_RESYNC : Field := ⟨Reg.COMB_EVENTS, 5, 1⟩
abbrev COMB_EVENTS_LOAD_FAILED : Field := ⟨Reg.COMB_EVENTS, 4, 1⟩
abbrev COMB_EVENTS_CHECK_FAILED : Field := ⟨Reg.COMB_EVENTS, 3, 1⟩
abbrev COMB_EVENTS_SWAP_DEFERRED : Field := ⟨Reg.COMB_EVENTS, 2, 1⟩
abbrev COMB_EVENTS_SWAPPED : Field := ⟨Reg.COMB_EVENTS, 1, 1⟩
abbrev COMB_EVENTS_LATE_WRITE : Field := ⟨Reg.COMB_EVENTS, 0, 1⟩
abbrev COMB_BANK_CTRL_SWAP_REQ : Field := ⟨Reg.COMB_BANK_CTRL, 13, 1⟩
abbrev COMB_BANK_CTRL_LOAD_REQ : Field := ⟨Reg.COMB_BANK_CTRL, 12, 1⟩
abbrev COMB_BANK_CTRL_LAYOUT_TILE : Field := ⟨Reg.COMB_BANK_CTRL, 0, 12⟩
abbrev COMB_X_CTRL_PORT_EN : Field := ⟨Reg.COMB_X_CTRL, 4, 1⟩
abbrev COMB_X_CTRL_COPY_REQ : Field := ⟨Reg.COMB_X_CTRL, 3, 1⟩
abbrev COMB_X_CTRL_CHECK_REQ : Field := ⟨Reg.COMB_X_CTRL, 2, 1⟩
abbrev COMB_X_CTRL_SWAP_REQ : Field := ⟨Reg.COMB_X_CTRL, 1, 1⟩
abbrev COMB_X_CTRL_RUN : Field := ⟨Reg.COMB_X_CTRL, 0, 1⟩
abbrev COMB_X_PERIOD_SHADOW_PERIOD : Field := ⟨Reg.COMB_X_PERIOD, 24, 24⟩
abbrev COMB_X_PERIOD_ACTIVE_PERIOD : Field := ⟨Reg.COMB_X_PERIOD, 0, 24⟩
abbrev FRAME_BUF_TILE_A (n : Nat) : Field := ⟨(Reg.FRAME_BUF n), 36, 12⟩
abbrev FRAME_BUF_SLOT_A (n : Nat) : Field := ⟨(Reg.FRAME_BUF n), 33, 3⟩
abbrev FRAME_BUF_TILE_B (n : Nat) : Field := ⟨(Reg.FRAME_BUF n), 21, 12⟩
abbrev FRAME_BUF_SLOT_B (n : Nat) : Field := ⟨(Reg.FRAME_BUF n), 18, 3⟩
abbrev FRAME_BUF_FRONT (n : Nat) : Field := ⟨(Reg.FRAME_BUF n), 2, 1⟩
abbrev FRAME_BUF_FETCH_EN (n : Nat) : Field := ⟨(Reg.FRAME_BUF n), 1, 1⟩
abbrev FRAME_BUF_FLIP_REQ (n : Nat) : Field := ⟨(Reg.FRAME_BUF n), 0, 1⟩
abbrev FRAME_BLINK_PERIOD (n : Nat) : Field := ⟨(Reg.FRAME_BLINK n), 39, 9⟩
abbrev FRAME_BLINK_ON (n : Nat) : Field := ⟨(Reg.FRAME_BLINK n), 30, 9⟩
abbrev FRAME_BLINK_OFFSET (n : Nat) : Field := ⟨(Reg.FRAME_BLINK n), 21, 9⟩
abbrev FRAME_BLINK_PHASE (n : Nat) : Field := ⟨(Reg.FRAME_BLINK n), 0, 1⟩
abbrev FRAME_OVR_GROUPS : Field := ⟨Reg.FRAME_OVR, 40, 8⟩
abbrev FRAME_OVR_MODE : Field := ⟨Reg.FRAME_OVR, 34, 2⟩
abbrev FRAME_OVR_LEVEL : Field := ⟨Reg.FRAME_OVR, 24, 10⟩
abbrev CALIB_DERATE_KNEE : Field := ⟨Reg.CALIB_DERATE, 40, 8⟩
abbrev CALIB_DERATE_SLOPE : Field := ⟨Reg.CALIB_DERATE, 32, 8⟩
abbrev CALIB_DERATE_MIN : Field := ⟨Reg.CALIB_DERATE, 23, 9⟩
abbrev CALIB_DERATE_SRC : Field := ⟨Reg.CALIB_DERATE, 21, 2⟩
abbrev FRAME_PLANES_PLANES : Field := ⟨Reg.FRAME_PLANES, 0, 32⟩
abbrev FRAME_CAPS_MAX_PLANES : Field := ⟨Reg.FRAME_CAPS, 40, 8⟩
abbrev FRAME_CAPS_BLINK_GENS : Field := ⟨Reg.FRAME_CAPS, 36, 4⟩
abbrev FRAME_CAPS_CLASSES : Field := ⟨Reg.FRAME_CAPS, 32, 4⟩
abbrev FRAME_CAPS_PAT_ENTRIES : Field := ⟨Reg.FRAME_CAPS, 16, 16⟩
abbrev FRAME_STATUS_HOLDING : Field := ⟨Reg.FRAME_STATUS, 24, 8⟩
abbrev FRAME_STATUS_FAIL_TILE : Field := ⟨Reg.FRAME_STATUS, 12, 12⟩
abbrev FRAME_STATUS_FRONT_B : Field := ⟨Reg.FRAME_STATUS, 0, 8⟩
abbrev FRAME_EVENTS_PLANES_RANGE : Field := ⟨Reg.FRAME_EVENTS, 4, 1⟩
abbrev FRAME_EVENTS_BLINK_RANGE : Field := ⟨Reg.FRAME_EVENTS, 3, 1⟩
abbrev FRAME_EVENTS_FLIPPED : Field := ⟨Reg.FRAME_EVENTS, 2, 1⟩
abbrev FRAME_EVENTS_FETCH_COLLISION : Field := ⟨Reg.FRAME_EVENTS, 1, 1⟩
abbrev FRAME_EVENTS_TILE_FAIL : Field := ⟨Reg.FRAME_EVENTS, 0, 1⟩
abbrev GRP_CAPS_LINES (g : Nat) : Field := ⟨(Reg.GRP_CAPS g), 40, 8⟩
abbrev GRP_CAPS_CLINES (g : Nat) : Field := ⟨(Reg.GRP_CAPS g), 32, 8⟩
abbrev GRP_CAPS_SLINES (g : Nat) : Field := ⟨(Reg.GRP_CAPS g), 24, 8⟩
abbrev GRP_CAPS_ISEG_MAX (g : Nat) : Field := ⟨(Reg.GRP_CAPS g), 16, 8⟩
abbrev GRP_CAPS_CLINE_LIMIT (g : Nat) : Field := ⟨(Reg.GRP_CAPS g), 8, 8⟩
abbrev GRP_BASIC_ENABLE (g : Nat) : Field := ⟨(Reg.GRP_BASIC g), 47, 1⟩
abbrev GRP_BASIC_KIND (g : Nat) : Field := ⟨(Reg.GRP_BASIC g), 46, 1⟩
abbrev GRP_BASIC_ISEG (g : Nat) : Field := ⟨(Reg.GRP_BASIC g), 38, 8⟩
abbrev GRP_BASIC_PC_LEVEL (g : Nat) : Field := ⟨(Reg.GRP_BASIC g), 32, 6⟩
abbrev GRP_BASIC_DROP (g : Nat) : Field := ⟨(Reg.GRP_BASIC g), 24, 8⟩
abbrev GRP_STATUS_STATE (g : Nat) : Field := ⟨(Reg.GRP_STATUS g), 30, 2⟩
abbrev GRP_STATUS_SAFE (g : Nat) : Field := ⟨(Reg.GRP_STATUS g), 29, 1⟩
abbrev GRP_STATUS_START_PENDING (g : Nat) : Field := ⟨(Reg.GRP_STATUS g), 28, 1⟩
abbrev GRP_STATUS_KIND_NOW (g : Nat) : Field := ⟨(Reg.GRP_STATUS g), 27, 1⟩
abbrev GRP_STATUS_VLED_OK (g : Nat) : Field := ⟨(Reg.GRP_STATUS g), 26, 1⟩
abbrev GRP_STATUS_DAC_NOW (g : Nat) : Field := ⟨(Reg.GRP_STATUS g), 18, 8⟩
abbrev GRP_STATUS_REFUSE_CAUSE (g : Nat) : Field := ⟨(Reg.GRP_STATUS g), 16, 2⟩
abbrev GRP_STATUS_PTR (g : Nat) : Field := ⟨(Reg.GRP_STATUS g), 12, 4⟩
abbrev GRP_STATUS_POL (g : Nat) : Field := ⟨(Reg.GRP_STATUS g), 11, 1⟩
abbrev GRP_STATUS_BIAS_WAIT (g : Nat) : Field := ⟨(Reg.GRP_STATUS g), 10, 1⟩
abbrev GRP_STATUS_DUTY_STALE (g : Nat) : Field := ⟨(Reg.GRP_STATUS g), 9, 1⟩
abbrev GRP_STATUS_COMP_ACTIVE (g : Nat) : Field := ⟨(Reg.GRP_STATUS g), 8, 1⟩
abbrev GRP_STATUS_ADV_LEFT (g : Nat) : Field := ⟨(Reg.GRP_STATUS g), 0, 5⟩
abbrev GRP_EVENTS_CLINE_CLAMP (g : Nat) : Field := ⟨(Reg.GRP_EVENTS g), 7, 1⟩
abbrev GRP_EVENTS_HEADROOM (g : Nat) : Field := ⟨(Reg.GRP_EVENTS g), 6, 1⟩
abbrev GRP_EVENTS_LIMIT_REFUSED (g : Nat) : Field := ⟨(Reg.GRP_EVENTS g), 5, 1⟩
abbrev GRP_EVENTS_KIND_REFUSED (g : Nat) : Field := ⟨(Reg.GRP_EVENTS g), 4, 1⟩
abbrev GRP_EVENTS_ENABLE_REFUSED (g : Nat) : Field := ⟨(Reg.GRP_EVENTS g), 3, 1⟩
abbrev GRP_EVENTS_VLED_LOW (g : Nat) : Field := ⟨(Reg.GRP_EVENTS g), 2, 1⟩
abbrev GRP_EVENTS_RESTARTED (g : Nat) : Field := ⟨(Reg.GRP_EVENTS g), 1, 1⟩
abbrev GRP_EVENTS_STOPPED (g : Nat) : Field := ⟨(Reg.GRP_EVENTS g), 0, 1⟩
abbrev GRP_EVENTS_LCD_REFUSED (g : Nat) : Field := ⟨(Reg.GRP_EVENTS g), 11, 1⟩
abbrev GRP_EVENTS_STALE_BANK (g : Nat) : Field := ⟨(Reg.GRP_EVENTS g), 10, 1⟩
abbrev GRP_EVENTS_DC_BACKLOG (g : Nat) : Field := ⟨(Reg.GRP_EVENTS g), 9, 1⟩
abbrev GRP_EVENTS_DC_SAT (g : Nat) : Field := ⟨(Reg.GRP_EVENTS g), 8, 1⟩
abbrev GRP_HEADROOM_LOW (g : Nat) : Field := ⟨(Reg.GRP_HEADROOM g), 16, 32⟩
abbrev GRP_HEADROOM_LAST_COMMON (g : Nat) : Field := ⟨(Reg.GRP_HEADROOM g), 0, 4⟩
abbrev GRP_X_DRIVE_ENABLE (g : Nat) : Field := ⟨(Reg.GRP_X_DRIVE g), 47, 1⟩
abbrev GRP_X_DRIVE_KIND (g : Nat) : Field := ⟨(Reg.GRP_X_DRIVE g), 46, 1⟩
abbrev GRP_X_DRIVE_ISEG (g : Nat) : Field := ⟨(Reg.GRP_X_DRIVE g), 38, 8⟩
abbrev GRP_X_DRIVE_PC_LEVEL (g : Nat) : Field := ⟨(Reg.GRP_X_DRIVE g), 32, 6⟩
abbrev GRP_X_DRIVE_DROP (g : Nat) : Field := ⟨(Reg.GRP_X_DRIVE g), 24, 8⟩
abbrev GRP_X_DRIVE_PC_DRIVE (g : Nat) : Field := ⟨(Reg.GRP_X_DRIVE g), 22, 2⟩
abbrev GRP_X_DRIVE_RAMP_STEP (g : Nat) : Field := ⟨(Reg.GRP_X_DRIVE g), 18, 4⟩
abbrev GRP_X_DRIVE_DISCHARGE (g : Nat) : Field := ⟨(Reg.GRP_X_DRIVE g), 10, 8⟩
abbrev GRP_X_HEADROOM_LOW (g : Nat) : Field := ⟨(Reg.GRP_X_HEADROOM g), 16, 32⟩
abbrev GRP_X_HEADROOM_LAST_COMMON (g : Nat) : Field := ⟨(Reg.GRP_X_HEADROOM g), 0, 4⟩
abbrev GRP_LCD_DUTY (g : Nat) : Field := ⟨(Reg.GRP_LCD g), 44, 4⟩
abbrev GRP_LCD_INV (g : Nat) : Field := ⟨(Reg.GRP_LCD g), 43, 1⟩
abbrev LCDB_CAPS_VLCD_MIN : Field := ⟨Reg.LCDB_CAPS, 40, 8⟩
abbrev LCDB_CAPS_VLCD_MAX : Field := ⟨Reg.LCDB_CAPS, 32, 8⟩
abbrev LCDB_CAPS_BIAS_MIN : Field := ⟨Reg.LCDB_CAPS, 28, 4⟩
abbrev LCDB_CAPS_BIAS_MAX : Field := ⟨Reg.LCDB_CAPS, 24, 4⟩
abbrev LCDB_CAPS_DUTY_MAX : Field := ⟨Reg.LCDB_CAPS, 16, 8⟩
abbrev LCDB_BASIC_ENABLE : Field := ⟨Reg.LCDB_BASIC, 47, 1⟩
abbrev LCDB_BASIC_BIAS : Field := ⟨Reg.LCDB_BASIC, 44, 3⟩
abbrev LCDB_BASIC_VSET : Field := ⟨Reg.LCDB_BASIC, 36, 8⟩
abbrev LCDB_BASIC_TCOMP : Field := ⟨Reg.LCDB_BASIC, 29, 7⟩
abbrev LCDB_BASIC_TSRC : Field := ⟨Reg.LCDB_BASIC, 27, 2⟩
abbrev LCDB_BASIC_KEY_LVL : Field := ⟨Reg.LCDB_BASIC, 23, 4⟩
abbrev LCDB_STATUS_STATE : Field := ⟨Reg.LCDB_STATUS, 29, 3⟩
abbrev LCDB_STATUS_SAFE : Field := ⟨Reg.LCDB_STATUS, 28, 1⟩
abbrev LCDB_STATUS_DISCHARGING : Field := ⟨Reg.LCDB_STATUS, 27, 1⟩
abbrev LCDB_STATUS_READY : Field := ⟨Reg.LCDB_STATUS, 26, 1⟩
abbrev LCDB_STATUS_ADV_LEFT : Field := ⟨Reg.LCDB_STATUS, 21, 5⟩
abbrev LCDB_STATUS_VLCD_NOW : Field := ⟨Reg.LCDB_STATUS, 11, 10⟩
abbrev LCDB_STATUS_VLCD_TGT : Field := ⟨Reg.LCDB_STATUS, 1, 10⟩
abbrev LCDB_EVENTS_SET_REFUSED : Field := ⟨Reg.LCDB_EVENTS, 5, 1⟩
abbrev LCDB_EVENTS_PUMP_OVERLOAD : Field := ⟨Reg.LCDB_EVENTS, 4, 1⟩
abbrev LCDB_EVENTS_PUMP_FAIL : Field := ⟨Reg.LCDB_EVENTS, 3, 1⟩
abbrev LCDB_EVENTS_READY : Field := ⟨Reg.LCDB_EVENTS, 2, 1⟩
abbrev LCDB_EVENTS_RESTARTED : Field := ⟨Reg.LCDB_EVENTS, 1, 1⟩
abbrev LCDB_EVENTS_STOPPED : Field := ⟨Reg.LCDB_EVENTS, 0, 1⟩
abbrev LCDB_X_COMP_COMP_EN : Field := ⟨Reg.LCDB_X_COMP, 47, 1⟩
abbrev LCDB_X_COMP_CMAX : Field := ⟨Reg.LCDB_X_COMP, 45, 2⟩
abbrev GRP_LCD_DC_LINE (g : Nat) : Field := ⟨(Reg.GRP_LCD_DC g), 40, 6⟩
abbrev GRP_LCD_DC_JMAX (g : Nat) : Field := ⟨(Reg.GRP_LCD_DC g), 0, 40⟩
abbrev STRING_CAPS_STRINGS : Field := ⟨Reg.STRING_CAPS, 44, 4⟩
abbrev STRING_CAPS_LAMPS : Field := ⟨Reg.STRING_CAPS, 36, 8⟩
abbrev STRING_CAPS_VMAX : Field := ⟨Reg.STRING_CAPS, 28, 8⟩
abbrev STRING_CAPS_IMAX : Field := ⟨Reg.STRING_CAPS, 20, 8⟩
abbrev STRING_CAPS_IMIN : Field := ⟨Reg.STRING_CAPS, 12, 8⟩
abbrev STRING_CAPS_HMAX : Field := ⟨Reg.STRING_CAPS, 4, 8⟩
abbrev STRING_STATUS_STATES : Field := ⟨Reg.STRING_STATUS, 0, 8⟩
abbrev STRING_EVENTS_STRING_OPEN (n : Nat) : Field := ⟨Reg.STRING_EVENTS, (7 + 8 * n), 1⟩
abbrev STRING_EVENTS_LAMP_SHORT (n : Nat) : Field := ⟨Reg.STRING_EVENTS, (6 + 8 * n), 1⟩
abbrev STRING_EVENTS_LAMP_OPEN (n : Nat) : Field := ⟨Reg.STRING_EVENTS, (5 + 8 * n), 1⟩
abbrev STRING_EVENTS_HEADROOM (n : Nat) : Field := ⟨Reg.STRING_EVENTS, (4 + 8 * n), 1⟩
abbrev STRING_EVENTS_SET_REFUSED (n : Nat) : Field := ⟨Reg.STRING_EVENTS, (3 + 8 * n), 1⟩
abbrev STRING_EVENTS_ENABLE_REFUSED (n : Nat) : Field := ⟨Reg.STRING_EVENTS, (2 + 8 * n), 1⟩
abbrev STRING_EVENTS_RESTARTED (n : Nat) : Field := ⟨Reg.STRING_EVENTS, (1 + 8 * n), 1⟩
abbrev STRING_EVENTS_STOPPED (n : Nat) : Field := ⟨Reg.STRING_EVENTS, (0 + 8 * n), 1⟩
abbrev STRING_CTRL_ENABLE (n : Nat) : Field := ⟨(Reg.STRING_CTRL n), 47, 1⟩
abbrev STRING_CTRL_IREF (n : Nat) : Field := ⟨(Reg.STRING_CTRL n), 39, 8⟩
abbrev STRING_CTRL_RSNS (n : Nat) : Field := ⟨(Reg.STRING_CTRL n), 30, 9⟩
abbrev STRING_CTRL_PLANES (n : Nat) : Field := ⟨(Reg.STRING_CTRL n), 26, 4⟩
abbrev STRING_CTRL_TSRC (n : Nat) : Field := ⟨(Reg.STRING_CTRL n), 24, 2⟩
abbrev STRING_DERATE_KNEE : Field := ⟨Reg.STRING_DERATE, 40, 8⟩
abbrev STRING_DERATE_SLOPE : Field := ⟨Reg.STRING_DERATE, 32, 8⟩
abbrev STRING_DERATE_MIN : Field := ⟨Reg.STRING_DERATE, 23, 9⟩
abbrev STRING_STAT_STATE (n : Nat) : Field := ⟨(Reg.STRING_STAT n), 46, 2⟩
abbrev STRING_STAT_SAFE (n : Nat) : Field := ⟨(Reg.STRING_STAT n), 45, 1⟩
abbrev STRING_STAT_START_PENDING (n : Nat) : Field := ⟨(Reg.STRING_STAT n), 44, 1⟩
abbrev STRING_STAT_RAMPING (n : Nat) : Field := ⟨(Reg.STRING_STAT n), 43, 1⟩
abbrev STRING_STAT_DARK (n : Nat) : Field := ⟨(Reg.STRING_STAT n), 42, 1⟩
abbrev STRING_STAT_REFUSE_CAUSE (n : Nat) : Field := ⟨(Reg.STRING_STAT n), 40, 2⟩
abbrev STRING_STAT_IREF_NOW (n : Nat) : Field := ⟨(Reg.STRING_STAT n), 32, 8⟩
abbrev STRING_STAT_IH_NOW (n : Nat) : Field := ⟨(Reg.STRING_STAT n), 24, 8⟩
abbrev STRING_STAT_TRIM (n : Nat) : Field := ⟨(Reg.STRING_STAT n), 18, 6⟩
abbrev STRING_STAT_FAILED (n : Nat) : Field := ⟨(Reg.STRING_STAT n), 0, 16⟩
abbrev STRING_MEAS_VTOP (n : Nat) : Field := ⟨(Reg.STRING_MEAS n), 38, 10⟩
abbrev STRING_MEAS_VL00_MIN (n : Nat) : Field := ⟨(Reg.STRING_MEAS n), 28, 10⟩
abbrev STRING_MEAS_VL00_MEAN (n : Nat) : Field := ⟨(Reg.STRING_MEAS n), 18, 10⟩
abbrev STRING_MEAS_SHORT (n : Nat) : Field := ⟨(Reg.STRING_MEAS n), 0, 16⟩
abbrev STRING_SUP_VLOW (n : Nat) : Field := ⟨(Reg.STRING_SUP n), 38, 10⟩
abbrev STRING_SUP_K (n : Nat) : Field := ⟨(Reg.STRING_SUP n), 28, 10⟩
abbrev STRING_SUP_HMAX (n : Nat) : Field := ⟨(Reg.STRING_SUP n), 20, 8⟩
abbrev STRING_X_SEQ_RAMP_STEP (n : Nat) : Field := ⟨(Reg.STRING_X_SEQ n), 44, 4⟩
abbrev STRING_X_SEQ_RELEASE_STEP (n : Nat) : Field := ⟨(Reg.STRING_X_SEQ n), 40, 4⟩
abbrev STRING_X_SEQ_LEAD (n : Nat) : Field := ⟨(Reg.STRING_X_SEQ n), 32, 8⟩
abbrev STRING_X_SEQ_HUP (n : Nat) : Field := ⟨(Reg.STRING_X_SEQ n), 28, 4⟩
abbrev STRING_X_SEQ_HDOWN (n : Nat) : Field := ⟨(Reg.STRING_X_SEQ n), 24, 4⟩
abbrev STRING_X_SEQ_HMARGIN (n : Nat) : Field := ⟨(Reg.STRING_X_SEQ n), 18, 6⟩
abbrev KEY_CAPS_KEYS : Field := ⟨Reg.KEY_CAPS, 32, 16⟩
abbrev KEY_CAPS_PROFILES : Field := ⟨Reg.KEY_CAPS, 28, 4⟩
abbrev KEY_CAPS_COUNT_MAX : Field := ⟨Reg.KEY_CAPS, 19, 9⟩
abbrev KEY_BASIC_SB_PRESS : Field := ⟨Reg.KEY_BASIC, 45, 3⟩
abbrev KEY_BASIC_SB_RELEASE : Field := ⟨Reg.KEY_BASIC, 42, 3⟩
abbrev KEY_STATUS_FROZEN : Field := ⟨Reg.KEY_STATUS, 24, 8⟩
abbrev KEY_STATUS_SAMPLED : Field := ⟨Reg.KEY_STATUS, 16, 8⟩
abbrev KEY_STATUS_ACTIVE : Field := ⟨Reg.KEY_STATUS, 0, 13⟩
abbrev KEY_EVENTS_SET_REFUSED : Field := ⟨Reg.KEY_EVENTS, 4, 1⟩
abbrev KEY_EVENTS_VTH_CAPPED : Field := ⟨Reg.KEY_EVENTS, 3, 1⟩
abbrev KEY_EVENTS_UNSCANNED : Field := ⟨Reg.KEY_EVENTS, 2, 1⟩
abbrev KEY_EVENTS_WAKE : Field := ⟨Reg.KEY_EVENTS, 1, 1⟩
abbrev KEY_EVENTS_KEYS_FROZEN : Field := ⟨Reg.KEY_EVENTS, 0, 1⟩
abbrev KEY_SENSE_PULL (n : Nat) : Field := ⟨(Reg.KEY_SENSE n), 42, 6⟩
abbrev KEY_SENSE_VCLAMP (n : Nat) : Field := ⟨(Reg.KEY_SENSE n), 38, 4⟩
abbrev KEY_SENSE_VTH (n : Nat) : Field := ⟨(Reg.KEY_SENSE n), 32, 6⟩
abbrev KEY_SENSE_FILTER (n : Nat) : Field := ⟨(Reg.KEY_SENSE n), 31, 1⟩
abbrev KEY_PROFILE_PRESS_MS (n : Nat) : Field := ⟨(Reg.KEY_PROFILE n), 40, 8⟩
abbrev KEY_PROFILE_RELEASE_MS (n : Nat) : Field := ⟨(Reg.KEY_PROFILE n), 32, 8⟩
abbrev KEY_PROFILE_MODE (n : Nat) : Field := ⟨(Reg.KEY_PROFILE n), 30, 2⟩
abbrev KEY_PROFILE_DELAY (n : Nat) : Field := ⟨(Reg.KEY_PROFILE n), 22, 8⟩
abbrev KEY_PROFILE_RATE (n : Nat) : Field := ⟨(Reg.KEY_PROFILE n), 16, 6⟩
abbrev KEY_PROFILE_LONG (n : Nat) : Field := ⟨(Reg.KEY_PROFILE n), 8, 8⟩
abbrev KEY_PROFILE_ACTIVE_OPEN (n : Nat) : Field := ⟨(Reg.KEY_PROFILE n), 7, 1⟩
abbrev KEY_PROFILE_WAKE (n : Nat) : Field := ⟨(Reg.KEY_PROFILE n), 6, 1⟩
abbrev KEY_X_PROFILE_PRESS_N (n : Nat) : Field := ⟨(Reg.KEY_X_PROFILE n), 39, 9⟩
abbrev KEY_X_PROFILE_RELEASE_N (n : Nat) : Field := ⟨(Reg.KEY_X_PROFILE n), 30, 9⟩
abbrev KEY_X_PROFILE_MODE (n : Nat) : Field := ⟨(Reg.KEY_X_PROFILE n), 28, 2⟩
abbrev KEY_X_PROFILE_DELAY (n : Nat) : Field := ⟨(Reg.KEY_X_PROFILE n), 20, 8⟩
abbrev KEY_X_PROFILE_RATE (n : Nat) : Field := ⟨(Reg.KEY_X_PROFILE n), 14, 6⟩
abbrev KEY_X_PROFILE_LONG (n : Nat) : Field := ⟨(Reg.KEY_X_PROFILE n), 6, 8⟩
abbrev KEY_X_PROFILE_ACTIVE_OPEN (n : Nat) : Field := ⟨(Reg.KEY_X_PROFILE n), 5, 1⟩
abbrev KEY_X_PROFILE_WAKE (n : Nat) : Field := ⟨(Reg.KEY_X_PROFILE n), 4, 1⟩
abbrev GHOST_CAPS_ENTRIES : Field := ⟨Reg.GHOST_CAPS, 32, 16⟩
abbrev GHOST_CAPS_FULL_SCALE : Field := ⟨Reg.GHOST_CAPS, 22, 10⟩
abbrev GHOST_CAPS_ADC_BITS : Field := ⟨Reg.GHOST_CAPS, 18, 4⟩
abbrev GHOST_BASIC_ISOLATED : Field := ⟨Reg.GHOST_BASIC, 40, 8⟩
abbrev GHOST_BASIC_DEG_ABS : Field := ⟨Reg.GHOST_BASIC, 30, 10⟩
abbrev GHOST_STATUS_HELD : Field := ⟨Reg.GHOST_STATUS, 19, 13⟩
abbrev GHOST_STATUS_DEGRADED : Field := ⟨Reg.GHOST_STATUS, 6, 13⟩
abbrev GHOST_EVENTS_UNRESOLVED : Field := ⟨Reg.GHOST_EVENTS, 3, 1⟩
abbrev GHOST_EVENTS_DEGRADED : Field := ⟨Reg.GHOST_EVENTS, 2, 1⟩
abbrev GHOST_EVENTS_CLEARED : Field := ⟨Reg.GHOST_EVENTS, 1, 1⟩
abbrev GHOST_EVENTS_GHOST : Field := ⟨Reg.GHOST_EVENTS, 0, 1⟩
abbrev GHOST_LAST_GHOST_VALID : Field := ⟨Reg.GHOST_LAST_GHOST, 47, 1⟩
abbrev GHOST_LAST_GHOST_SUSPECT : Field := ⟨Reg.GHOST_LAST_GHOST, 35, 12⟩
abbrev GHOST_LAST_GHOST_C_OTHER : Field := ⟨Reg.GHOST_LAST_GHOST, 31, 4⟩
abbrev GHOST_LAST_GHOST_S_OTHER : Field := ⟨Reg.GHOST_LAST_GHOST, 25, 6⟩
abbrev GHOST_LAST_GHOST_OUTCOME : Field := ⟨Reg.GHOST_LAST_GHOST, 23, 2⟩
abbrev GHOST_LAST_HEALTH_VALID : Field := ⟨Reg.GHOST_LAST_HEALTH, 47, 1⟩
abbrev GHOST_LAST_HEALTH_CROSSPOINT : Field := ⟨Reg.GHOST_LAST_HEALTH, 35, 12⟩
abbrev GHOST_LAST_HEALTH_BASELINE : Field := ⟨Reg.GHOST_LAST_HEALTH, 25, 10⟩
abbrev GHOST_LAST_HEALTH_HISTORY : Field := ⟨Reg.GHOST_LAST_HEALTH, 15, 10⟩
abbrev GHOST_LAST_HEALTH_FULL_SCALE : Field := ⟨Reg.GHOST_LAST_HEALTH, 14, 1⟩
abbrev GHOST_X_RESOLVE_MARGIN : Field := ⟨Reg.GHOST_X_RESOLVE, 42, 6⟩
abbrev GHOST_X_RESOLVE_LSEG : Field := ⟨Reg.GHOST_X_RESOLVE, 34, 8⟩
abbrev GHOST_X_HEALTH_TRACK : Field := ⟨Reg.GHOST_X_HEALTH, 44, 4⟩
abbrev GHOST_X_HEALTH_LEARN_N : Field := ⟨Reg.GHOST_X_HEALTH, 38, 6⟩
abbrev GHOST_X_HEALTH_DEG_REL : Field := ⟨Reg.GHOST_X_HEALTH, 32, 6⟩
abbrev EVENT_CAPS_SLOTS : Field := ⟨Reg.EVENT_CAPS, 36, 12⟩
abbrev EVENT_CAPS_TYPES : Field := ⟨Reg.EVENT_CAPS, 32, 4⟩
abbrev EVENT_BASIC_RING_EN : Field := ⟨Reg.EVENT_BASIC, 47, 1⟩
abbrev EVENT_BASIC_TYPE_MASK : Field := ⟨Reg.EVENT_BASIC, 39, 8⟩
abbrev EVENT_STATUS_QUEUED : Field := ⟨Reg.EVENT_STATUS, 23, 9⟩
abbrev EVENT_STATUS_IN_FLIGHT : Field := ⟨Reg.EVENT_STATUS, 14, 9⟩
abbrev EVENT_STATUS_LOST : Field := ⟨Reg.EVENT_STATUS, 0, 14⟩
abbrev EVENT_EVENTS_OVERFLOW : Field := ⟨Reg.EVENT_EVENTS, 1, 1⟩
abbrev EVENT_EVENTS_QUEUED : Field := ⟨Reg.EVENT_EVENTS, 0, 1⟩
abbrev EVENT_POP_EVENT : Field := ⟨Reg.EVENT_POP, 0, 48⟩
abbrev EVENT_PEEK_EVENT : Field := ⟨Reg.EVENT_PEEK, 0, 48⟩
abbrev EVENT_LAST_EXT_EXT : Field := ⟨Reg.EVENT_LAST_EXT, 0, 48⟩
abbrev EVENT_PEEK_EXT_EXT : Field := ⟨Reg.EVENT_PEEK_EXT, 0, 48⟩
abbrev KLOCK_CAPS_SEQ_MAX : Field := ⟨Reg.KLOCK_CAPS, 44, 4⟩
abbrev KLOCK_CAPS_COMBOS : Field := ⟨Reg.KLOCK_CAPS, 40, 4⟩
abbrev KLOCK_CAPS_COMBO_KEYS : Field := ⟨Reg.KLOCK_CAPS, 36, 4⟩
abbrev KLOCK_BASIC_EXEMPT : Field := ⟨Reg.KLOCK_BASIC, 40, 8⟩
abbrev KLOCK_BASIC_SEQ_PROFILES : Field := ⟨Reg.KLOCK_BASIC, 32, 8⟩
abbrev KLOCK_BASIC_LOCKOUT_BASE : Field := ⟨Reg.KLOCK_BASIC, 26, 6⟩
abbrev KLOCK_BASIC_LOCKOUT_MAX : Field := ⟨Reg.KLOCK_BASIC, 16, 10⟩
abbrev KLOCK_BASIC_GAP : Field := ⟨Reg.KLOCK_BASIC, 8, 8⟩
abbrev KLOCK_BASIC_PANEL_PULSE : Field := ⟨Reg.KLOCK_BASIC, 0, 8⟩
abbrev KLOCK_STATUS_LOCKED_NOW : Field := ⟨Reg.KLOCK_STATUS, 31, 1⟩
abbrev KLOCK_STATUS_LOCKOUT : Field := ⟨Reg.KLOCK_STATUS, 30, 1⟩
abbrev KLOCK_STATUS_SEQ_POS : Field := ⟨Reg.KLOCK_STATUS, 26, 4⟩
abbrev KLOCK_STATUS_FAILS : Field := ⟨Reg.KLOCK_STATUS, 22, 4⟩
abbrev KLOCK_STATUS_LOCKOUT_LEFT : Field := ⟨Reg.KLOCK_STATUS, 12, 10⟩
abbrev KLOCK_STATUS_ARMED : Field := ⟨Reg.KLOCK_STATUS, 8, 4⟩
abbrev KLOCK_STATUS_COMPLETE : Field := ⟨Reg.KLOCK_STATUS, 4, 4⟩
abbrev KLOCK_STATUS_SEALED : Field := ⟨Reg.KLOCK_STATUS, 3, 1⟩
abbrev KLOCK_EVENTS_SEALED_WRITE : Field := ⟨Reg.KLOCK_EVENTS, 4, 1⟩
abbrev KLOCK_EVENTS_SET_REFUSED : Field := ⟨Reg.KLOCK_EVENTS, 3, 1⟩
abbrev KLOCK_EVENTS_COMBO_FIRED : Field := ⟨Reg.KLOCK_EVENTS, 2, 1⟩
abbrev KLOCK_EVENTS_ATTEMPT_FAILED : Field := ⟨Reg.KLOCK_EVENTS, 1, 1⟩
abbrev KLOCK_EVENTS_LOCK_CHANGED : Field := ⟨Reg.KLOCK_EVENTS, 0, 1⟩
abbrev KLOCK_CTRL_LOCK : Field := ⟨Reg.KLOCK_CTRL, 47, 1⟩
abbrev KLOCK_CTRL_CLEAR_FAILS : Field := ⟨Reg.KLOCK_CTRL, 46, 1⟩
abbrev KLOCK_CTRL_SEAL : Field := ⟨Reg.KLOCK_CTRL, 45, 1⟩
abbrev KLOCK_SEQ_A_CODES : Field := ⟨Reg.KLOCK_SEQ_A, 0, 48⟩
abbrev KLOCK_SEQ_B_CODES : Field := ⟨Reg.KLOCK_SEQ_B, 0, 48⟩
abbrev KLOCK_SEQ_LEN_LEN : Field := ⟨Reg.KLOCK_SEQ_LEN, 0, 4⟩
abbrev KLOCK_COMBO_KEYS_KEYS (n : Nat) : Field := ⟨(Reg.KLOCK_COMBO_KEYS n), 0, 48⟩
abbrev KLOCK_COMBO_CTRL_EN (n : Nat) : Field := ⟨(Reg.KLOCK_COMBO_CTRL n), 47, 1⟩
abbrev KLOCK_COMBO_CTRL_LOCK_BYPASS (n : Nat) : Field := ⟨(Reg.KLOCK_COMBO_CTRL n), 46, 1⟩
abbrev KLOCK_COMBO_CTRL_N (n : Nat) : Field := ⟨(Reg.KLOCK_COMBO_CTRL n), 44, 2⟩
abbrev KLOCK_COMBO_CTRL_ACTION (n : Nat) : Field := ⟨(Reg.KLOCK_COMBO_CTRL n), 42, 2⟩
abbrev KLOCK_COMBO_CTRL_HOLD (n : Nat) : Field := ⟨(Reg.KLOCK_COMBO_CTRL n), 34, 8⟩
abbrev LEDGER_CAPS_HEAT_LIMIT : Field := ⟨Reg.LEDGER_CAPS, 34, 14⟩
abbrev LEDGER_CAPS_CLASSES : Field := ⟨Reg.LEDGER_CAPS, 30, 4⟩
abbrev LEDGER_CAPS_ACCOUNTS : Field := ⟨Reg.LEDGER_CAPS, 28, 2⟩
abbrev LEDGER_BASIC_SUPPLY_MW : Field := ⟨Reg.LEDGER_BASIC, 32, 16⟩
abbrev LEDGER_BASIC_SAG_MW : Field := ⟨Reg.LEDGER_BASIC, 16, 16⟩
abbrev LEDGER_BASIC_HEAT_MW : Field := ⟨Reg.LEDGER_BASIC, 0, 16⟩
abbrev LEDGER_STATUS_SUP_STATE : Field := ⟨Reg.LEDGER_STATUS, 30, 2⟩
abbrev LEDGER_STATUS_DIM : Field := ⟨Reg.LEDGER_STATUS, 29, 1⟩
abbrev LEDGER_STATUS_SAG_PLAN : Field := ⟨Reg.LEDGER_STATUS, 28, 1⟩
abbrev LEDGER_STATUS_ZC_LOCK : Field := ⟨Reg.LEDGER_STATUS, 27, 1⟩
abbrev LEDGER_STATUS_OVER : Field := ⟨Reg.LEDGER_STATUS, 26, 1⟩
abbrev LEDGER_STATUS_VSUP : Field := ⟨Reg.LEDGER_STATUS, 12, 12⟩
abbrev LEDGER_EVENTS_SET_REFUSED : Field := ⟨Reg.LEDGER_EVENTS, 5, 1⟩
abbrev LEDGER_EVENTS_OVER : Field := ⟨Reg.LEDGER_EVENTS, 4, 1⟩
abbrev LEDGER_EVENTS_ZC_LOST : Field := ⟨Reg.LEDGER_EVENTS, 3, 1⟩
abbrev LEDGER_EVENTS_ZC_MISSING : Field := ⟨Reg.LEDGER_EVENTS, 2, 1⟩
abbrev LEDGER_EVENTS_RECOVERED : Field := ⟨Reg.LEDGER_EVENTS, 1, 1⟩
abbrev LEDGER_EVENTS_SAG : Field := ⟨Reg.LEDGER_EVENTS, 0, 1⟩
abbrev LEDGER_LIMITS_DIM_MW : Field := ⟨Reg.LEDGER_LIMITS, 32, 16⟩
abbrev LEDGER_LIMITS_ALARM_FLOOR : Field := ⟨Reg.LEDGER_LIMITS, 23, 9⟩
abbrev LEDGER_LIMITS_BASE_HEAT : Field := ⟨Reg.LEDGER_LIMITS, 12, 11⟩
abbrev LEDGER_LIMITS_BASE_SUPPLY : Field := ⟨Reg.LEDGER_LIMITS, 1, 11⟩
abbrev LEDGER_MON_SAG_THR : Field := ⟨Reg.LEDGER_MON, 36, 12⟩
abbrev LEDGER_MON_RECOVER_THR : Field := ⟨Reg.LEDGER_MON, 24, 12⟩
abbrev LEDGER_MON_SAG_N : Field := ⟨Reg.LEDGER_MON, 20, 4⟩
abbrev LEDGER_MON_RECOVER : Field := ⟨Reg.LEDGER_MON, 12, 8⟩
abbrev LEDGER_MON_ZC_EN : Field := ⟨Reg.LEDGER_MON, 11, 1⟩
abbrev LEDGER_MON_ZC_POL : Field := ⟨Reg.LEDGER_MON, 10, 1⟩
abbrev LEDGER_MON_ZC_SLACK : Field := ⟨Reg.LEDGER_MON, 5, 5⟩
abbrev LEDGER_DEMAND_SUPPLY : Field := ⟨Reg.LEDGER_DEMAND, 24, 24⟩
abbrev LEDGER_DEMAND_HEAT : Field := ⟨Reg.LEDGER_DEMAND, 0, 24⟩
abbrev LEDGER_FACTORS_S0 : Field := ⟨Reg.LEDGER_FACTORS, 39, 9⟩
abbrev LEDGER_FACTORS_S1 : Field := ⟨Reg.LEDGER_FACTORS, 30, 9⟩
abbrev LEDGER_FACTORS_S2 : Field := ⟨Reg.LEDGER_FACTORS, 21, 9⟩
abbrev LEDGER_FACTORS_S3 : Field := ⟨Reg.LEDGER_FACTORS, 12, 9⟩
abbrev LEDGER_FACTORS_SAG : Field := ⟨Reg.LEDGER_FACTORS, 11, 1⟩
abbrev LEDGER_ENERGY_SUP_UJ : Field := ⟨Reg.LEDGER_ENERGY_SUP, 0, 48⟩
abbrev LEDGER_ENERGY_HEAT_UJ : Field := ⟨Reg.LEDGER_ENERGY_HEAT, 0, 48⟩
abbrev LEDGER_CTR_CLEAR_HEAT : Field := ⟨Reg.LEDGER_CTR, 1, 1⟩
abbrev LEDGER_CTR_CLEAR_SUP : Field := ⟨Reg.LEDGER_CTR, 0, 1⟩
abbrev RING_CAPS_MBAUD (p : Nat) : Field := ⟨(Reg.RING_CAPS p), 36, 12⟩
abbrev RING_CAPS_MAX_LEN (p : Nat) : Field := ⟨(Reg.RING_CAPS p), 24, 12⟩
abbrev RING_CAPS_BUDGET (p : Nat) : Field := ⟨(Reg.RING_CAPS p), 16, 8⟩
abbrev RING_CAPS_MAX_BYPASSED (p : Nat) : Field := ⟨(Reg.RING_CAPS p), 8, 8⟩
abbrev RING_BASIC_ENABLE (p : Nat) : Field := ⟨(Reg.RING_BASIC p), 47, 1⟩
abbrev RING_BASIC_CLEAR_ERR (p : Nat) : Field := ⟨(Reg.RING_BASIC p), 46, 1⟩
abbrev RING_STATUS_PORT_STATE (p : Nat) : Field := ⟨(Reg.RING_STATUS p), 30, 2⟩
abbrev RING_STATUS_LINK (p : Nat) : Field := ⟨(Reg.RING_STATUS p), 28, 2⟩
abbrev RING_STATUS_USABLE (p : Nat) : Field := ⟨(Reg.RING_STATUS p), 27, 1⟩
abbrev RING_STATUS_LIVE (p : Nat) : Field := ⟨(Reg.RING_STATUS p), 26, 1⟩
abbrev RING_STATUS_PEER_RX_UP (p : Nat) : Field := ⟨(Reg.RING_STATUS p), 25, 1⟩
abbrev RING_STATUS_PEER_REF_VIA (p : Nat) : Field := ⟨(Reg.RING_STATUS p), 24, 1⟩
abbrev RING_STATUS_PEER_HOLD (p : Nat) : Field := ⟨(Reg.RING_STATUS p), 23, 1⟩
abbrev RING_STATUS_PEER_HOPS (p : Nat) : Field := ⟨(Reg.RING_STATUS p), 16, 7⟩
abbrev RING_STATUS_PEER_ADDR (p : Nat) : Field := ⟨(Reg.RING_STATUS p), 9, 7⟩
abbrev RING_STATUS_PEER_QUEEN (p : Nat) : Field := ⟨(Reg.RING_STATUS p), 8, 1⟩
abbrev RING_STATUS_RCLK_HOLDOVER (p : Nat) : Field := ⟨(Reg.RING_STATUS p), 7, 1⟩
abbrev RING_STATUS_MISWIRED (p : Nat) : Field := ⟨(Reg.RING_STATUS p), 6, 1⟩
abbrev RING_STATUS_NODE_WRAP (p : Nat) : Field := ⟨(Reg.RING_STATUS p), 3, 3⟩
abbrev RING_EVENTS_BYPASS_REFUSED (p : Nat) : Field := ⟨(Reg.RING_EVENTS p), 10, 1⟩
abbrev RING_EVENTS_BYPASS_CHANGED (p : Nat) : Field := ⟨(Reg.RING_EVENTS p), 9, 1⟩
abbrev RING_EVENTS_ENABLE_REFUSED (p : Nat) : Field := ⟨(Reg.RING_EVENTS p), 8, 1⟩
abbrev RING_EVENTS_QUEUE_FULL (p : Nat) : Field := ⟨(Reg.RING_EVENTS p), 7, 1⟩
abbrev RING_EVENTS_MISWIRED (p : Nat) : Field := ⟨(Reg.RING_EVENTS p), 6, 1⟩
abbrev RING_EVENTS_ERRORS (p : Nat) : Field := ⟨(Reg.RING_EVENTS p), 5, 1⟩
abbrev RING_EVENTS_LINK_DOWN (p : Nat) : Field := ⟨(Reg.RING_EVENTS p), 4, 1⟩
abbrev RING_EVENTS_LINK_UP (p : Nat) : Field := ⟨(Reg.RING_EVENTS p), 3, 1⟩
abbrev RING_EVENTS_HOLDOVER (p : Nat) : Field := ⟨(Reg.RING_EVENTS p), 2, 1⟩
abbrev RING_EVENTS_RESTARTED (p : Nat) : Field := ⟨(Reg.RING_EVENTS p), 1, 1⟩
abbrev RING_EVENTS_STOPPED (p : Nat) : Field := ⟨(Reg.RING_EVENTS p), 0, 1⟩
abbrev RING_ERRORS_CODE (p : Nat) : Field := ⟨(Reg.RING_ERRORS p), 36, 12⟩
abbrev RING_ERRORS_CRC (p : Nat) : Field := ⟨(Reg.RING_ERRORS p), 24, 12⟩
abbrev RING_ERRORS_TRUNC (p : Nat) : Field := ⟨(Reg.RING_ERRORS p), 12, 12⟩
abbrev RING_ERRORS_DISCARD (p : Nat) : Field := ⟨(Reg.RING_ERRORS p), 0, 12⟩
abbrev RING_LINK_DELAY (p : Nat) : Field := ⟨(Reg.RING_LINK p), 24, 24⟩
abbrev RING_LINK_MEASURED (p : Nat) : Field := ⟨(Reg.RING_LINK p), 23, 1⟩
abbrev RING_LINK_FRAC (p : Nat) : Field := ⟨(Reg.RING_LINK p), 0, 20⟩
abbrev RING_X_PHY_SWING (p : Nat) : Field := ⟨(Reg.RING_X_PHY p), 46, 2⟩
abbrev RING_X_PHY_PREEMPH (p : Nat) : Field := ⟨(Reg.RING_X_PHY p), 44, 2⟩
abbrev RING_X_PHY_EQ (p : Nat) : Field := ⟨(Reg.RING_X_PHY p), 40, 4⟩
abbrev RINGA_BYPASS_STATE : Field := ⟨Reg.RINGA_BYPASS, 46, 2⟩
abbrev RINGA_BYPASS_INSERT : Field := ⟨Reg.RINGA_BYPASS, 45, 1⟩
abbrev RINGA_BYPASS_AT_EN : Field := ⟨Reg.RINGA_BYPASS, 44, 1⟩
abbrev RINGA_BYPASS_REFUSE_CAUSE : Field := ⟨Reg.RINGA_BYPASS, 42, 2⟩
abbrev RINGA_BYPASS_AT_TICK : Field := ⟨Reg.RINGA_BYPASS, 0, 28⟩
abbrev HIVE_SECONDS_SECONDS : Field := ⟨Reg.HIVE_SECONDS, 16, 32⟩
abbrev HIVE_TICK_SEC_LOW : Field := ⟨Reg.HIVE_TICK, 28, 20⟩
abbrev HIVE_TICK_TICK : Field := ⟨Reg.HIVE_TICK, 0, 28⟩
abbrev HIVE_ALIGN_STATE : Field := ⟨Reg.HIVE_ALIGN, 45, 3⟩
abbrev HIVE_ALIGN_PORT_VALID : Field := ⟨Reg.HIVE_ALIGN, 44, 1⟩
abbrev HIVE_ALIGN_TIME_PORT : Field := ⟨Reg.HIVE_ALIGN, 43, 1⟩
abbrev HIVE_ALIGN_FOLLOW : Field := ⟨Reg.HIVE_ALIGN, 42, 1⟩
abbrev HIVE_ALIGN_HOPS : Field := ⟨Reg.HIVE_ALIGN, 35, 7⟩
abbrev HIVE_ALIGN_FRAC : Field := ⟨Reg.HIVE_ALIGN, 25, 10⟩
abbrev HIVE_ALIGN_STEPS : Field := ⟨Reg.HIVE_ALIGN, 13, 12⟩
abbrev HIVE_EVENTS_SECONDS_REFUSED : Field := ⟨Reg.HIVE_EVENTS, 3, 1⟩
abbrev HIVE_EVENTS_COASTING : Field := ⟨Reg.HIVE_EVENTS, 2, 1⟩
abbrev HIVE_EVENTS_TIME_STEP : Field := ⟨Reg.HIVE_EVENTS, 1, 1⟩
abbrev HIVE_EVENTS_ALIGNED : Field := ⟨Reg.HIVE_EVENTS, 0, 1⟩
abbrev HIVE_EVENTS_QUEEN_REFUSED : Field := ⟨Reg.HIVE_EVENTS, 17, 1⟩
abbrev HIVE_EVENTS_QUEEN_LOST : Field := ⟨Reg.HIVE_EVENTS, 16, 1⟩
abbrev HIVE_EVENTS_WAGGLE_LATE : Field := ⟨Reg.HIVE_EVENTS, 15, 1⟩
abbrev HIVE_EVENTS_ARM_REFUSED : Field := ⟨Reg.HIVE_EVENTS, 14, 1⟩
abbrev HIVE_EVENTS_MODE_APPLIED : Field := ⟨Reg.HIVE_EVENTS, 13, 1⟩
abbrev HIVE_EVENTS_MODE_LAG : Field := ⟨Reg.HIVE_EVENTS, 12, 1⟩
abbrev HIVE_EVENTS_JOIN_PENDING : Field := ⟨Reg.HIVE_EVENTS, 11, 1⟩
abbrev HIVE_EVENTS_CENSUS_FULL : Field := ⟨Reg.HIVE_EVENTS, 10, 1⟩
abbrev HIVE_EVENTS_EVENTS_LOST : Field := ⟨Reg.HIVE_EVENTS, 9, 1⟩
abbrev HIVE_EVENTS_NODE_BACK : Field := ⟨Reg.HIVE_EVENTS, 8, 1⟩
abbrev HIVE_EVENTS_NODE_GONE : Field := ⟨Reg.HIVE_EVENTS, 7, 1⟩
abbrev HIVE_EVENTS_NODE_JOINED : Field := ⟨Reg.HIVE_EVENTS, 6, 1⟩
abbrev HIVE_EVENTS_JOINED : Field := ⟨Reg.HIVE_EVENTS, 5, 1⟩
abbrev HIVE_STATUS_EPOCH : Field := ⟨Reg.HIVE_STATUS, 16, 16⟩
abbrev HIVE_STATUS_QUEEN : Field := ⟨Reg.HIVE_STATUS, 15, 1⟩
abbrev HIVE_STATUS_QUEEN_REFUSE : Field := ⟨Reg.HIVE_STATUS, 13, 2⟩
abbrev HIVE_STATUS_PENDING : Field := ⟨Reg.HIVE_STATUS, 9, 4⟩
abbrev HIVE_STATUS_LEAVING : Field := ⟨Reg.HIVE_STATUS, 8, 1⟩
abbrev HIVE_STATUS_PRESENT : Field := ⟨Reg.HIVE_STATUS, 0, 7⟩
abbrev HIVE_ROLE_QUEEN_EN : Field := ⟨Reg.HIVE_ROLE, 47, 1⟩
abbrev HIVE_ROLE_ADMIT : Field := ⟨Reg.HIVE_ROLE, 46, 1⟩
abbrev HIVE_ROLE_LEAVE : Field := ⟨Reg.HIVE_ROLE, 45, 1⟩
abbrev HIVE_ROLE_ADDR : Field := ⟨Reg.HIVE_ROLE, 38, 7⟩
abbrev HIVE_ROLE_QUEEN_ADDR : Field := ⟨Reg.HIVE_ROLE, 31, 7⟩
abbrev HIVE_ROLE_PRESENCE : Field := ⟨Reg.HIVE_ROLE, 23, 8⟩
abbrev HIVE_ROLE_GONE_N : Field := ⟨Reg.HIVE_ROLE, 20, 3⟩
abbrev HIVE_ROLE_SIV : Field := ⟨Reg.HIVE_ROLE, 4, 16⟩
abbrev HIVE_UNIT_ID_ID (n : Nat) : Field := ⟨(Reg.HIVE_UNIT_ID n), 0, 48⟩
abbrev HIVE_MODE_CUR : Field := ⟨Reg.HIVE_MODE, 44, 4⟩
abbrev HIVE_MODE_PREV : Field := ⟨Reg.HIVE_MODE, 40, 4⟩
abbrev HIVE_MODE_ARM_STATE : Field := ⟨Reg.HIVE_MODE, 37, 3⟩
abbrev HIVE_MODE_CAUSE : Field := ⟨Reg.HIVE_MODE, 33, 4⟩
abbrev HIVE_MODE_TARGET : Field := ⟨Reg.HIVE_MODE, 29, 4⟩
abbrev HIVE_MODE_TXN : Field := ⟨Reg.HIVE_MODE, 17, 12⟩
abbrev HIVE_MODE_HIVE_SIV : Field := ⟨Reg.HIVE_MODE, 1, 16⟩
abbrev HIVE_MODE_CENSUS_TXN : Field := ⟨Reg.HIVE_MODE_CENSUS, 36, 12⟩
abbrev HIVE_MODE_CENSUS_TARGET : Field := ⟨Reg.HIVE_MODE_CENSUS, 32, 4⟩
abbrev HIVE_MODE_CENSUS_ARMED : Field := ⟨Reg.HIVE_MODE_CENSUS, 24, 8⟩
abbrev HIVE_MODE_CENSUS_APPLIED : Field := ⟨Reg.HIVE_MODE_CENSUS, 16, 8⟩
abbrev HIVE_MODE_CENSUS_LAG : Field := ⟨Reg.HIVE_MODE_CENSUS, 8, 8⟩
abbrev HIVE_MODE_CENSUS_SILENT : Field := ⟨Reg.HIVE_MODE_CENSUS, 0, 8⟩
abbrev HIVE_TX_CTRL_TILE : Field := ⟨Reg.HIVE_TX_CTRL, 36, 12⟩
abbrev HIVE_TX_CTRL_OFFSET : Field := ⟨Reg.HIVE_TX_CTRL, 26, 10⟩
abbrev HIVE_TX_CTRL_SUBMIT : Field := ⟨Reg.HIVE_TX_CTRL, 0, 1⟩
abbrev HIVE_TX_STAT_BUSY : Field := ⟨Reg.HIVE_TX_STAT, 47, 1⟩
abbrev HIVE_TX_STAT_RESULT : Field := ⟨Reg.HIVE_TX_STAT, 44, 3⟩
abbrev HIVE_TX_STAT_SEQ : Field := ⟨Reg.HIVE_TX_STAT, 32, 12⟩
abbrev HIVE_RX_HEAD : Field := ⟨Reg.HIVE_RX, 34, 14⟩
abbrev HIVE_RX_TAIL : Field := ⟨Reg.HIVE_RX, 20, 14⟩
abbrev HIVE_GONE_LAST_ADDR : Field := ⟨Reg.HIVE_GONE, 41, 7⟩
abbrev HIVE_GONE_DROPPED : Field := ⟨Reg.HIVE_GONE, 29, 12⟩
abbrev CLOCK_CAPS_REF_MHZ : Field := ⟨Reg.CLOCK_CAPS, 40, 8⟩
abbrev CLOCK_CAPS_MULT : Field := ⟨Reg.CLOCK_CAPS, 36, 4⟩
abbrev CLOCK_CAPS_SOURCES : Field := ⟨Reg.CLOCK_CAPS, 32, 4⟩
abbrev CLOCK_CAPS_GATES : Field := ⟨Reg.CLOCK_CAPS, 24, 8⟩
abbrev CLOCK_CAPS_RESETS : Field := ⟨Reg.CLOCK_CAPS, 20, 4⟩
abbrev CLOCK_BASIC_SRC : Field := ⟨Reg.CLOCK_BASIC, 46, 2⟩
abbrev CLOCK_STATUS_CUR_SRC : Field := ⟨Reg.CLOCK_STATUS, 30, 2⟩
abbrev CLOCK_STATUS_XTAL_READY : Field := ⟨Reg.CLOCK_STATUS, 29, 1⟩
abbrev CLOCK_STATUS_REFIN_READY : Field := ⟨Reg.CLOCK_STATUS, 28, 1⟩
abbrev CLOCK_STATUS_RINGA_READY : Field := ⟨Reg.CLOCK_STATUS, 27, 1⟩
abbrev CLOCK_STATUS_RINGB_READY : Field := ⟨Reg.CLOCK_STATUS, 26, 1⟩
abbrev CLOCK_STATUS_PLL_LOCK : Field := ⟨Reg.CLOCK_STATUS, 25, 1⟩
abbrev CLOCK_STATUS_SW_CAUSE : Field := ⟨Reg.CLOCK_STATUS, 22, 3⟩
abbrev CLOCK_STATUS_STARTUP_POS : Field := ⟨Reg.CLOCK_STATUS, 19, 3⟩
abbrev CLOCK_STATUS_STARTUP_WAIT : Field := ⟨Reg.CLOCK_STATUS, 18, 1⟩
abbrev CLOCK_EVENTS_STARTUP_REFUSED : Field := ⟨Reg.CLOCK_EVENTS, 8, 1⟩
abbrev CLOCK_EVENTS_STARTUP_SLOW : Field := ⟨Reg.CLOCK_EVENTS, 7, 1⟩
abbrev CLOCK_EVENTS_POWER_REFUSED : Field := ⟨Reg.CLOCK_EVENTS, 6, 1⟩
abbrev CLOCK_EVENTS_POWER_CHANGED : Field := ⟨Reg.CLOCK_EVENTS, 5, 1⟩
abbrev CLOCK_EVENTS_GATE_AUTO : Field := ⟨Reg.CLOCK_EVENTS, 4, 1⟩
abbrev CLOCK_EVENTS_GATE_REFUSED : Field := ⟨Reg.CLOCK_EVENTS, 3, 1⟩
abbrev CLOCK_EVENTS_READY_LOST : Field := ⟨Reg.CLOCK_EVENTS, 2, 1⟩
abbrev CLOCK_EVENTS_SWITCH_REFUSED : Field := ⟨Reg.CLOCK_EVENTS, 1, 1⟩
abbrev CLOCK_EVENTS_SWITCHED : Field := ⟨Reg.CLOCK_EVENTS, 0, 1⟩
abbrev CLOCK_GATE_DRIVE : Field := ⟨Reg.CLOCK_GATE, 47, 1⟩
abbrev CLOCK_GATE_GRP : Field := ⟨Reg.CLOCK_GATE, 39, 8⟩
abbrev CLOCK_GATE_LCDB : Field := ⟨Reg.CLOCK_GATE, 38, 1⟩
abbrev CLOCK_GATE_STRINGS : Field := ⟨Reg.CLOCK_GATE, 37, 1⟩
abbrev CLOCK_GATE_KEYENG : Field := ⟨Reg.CLOCK_GATE, 36, 1⟩
abbrev CLOCK_GATE_RINGA : Field := ⟨Reg.CLOCK_GATE, 35, 1⟩
abbrev CLOCK_GATE_RINGB : Field := ⟨Reg.CLOCK_GATE, 34, 1⟩
abbrev CLOCK_GATE_XSPI : Field := ⟨Reg.CLOCK_GATE, 33, 1⟩
abbrev CLOCK_GATE_CRYPT : Field := ⟨Reg.CLOCK_GATE, 32, 1⟩
abbrev CLOCK_GATE_FABRIC : Field := ⟨Reg.CLOCK_GATE, 31, 1⟩
abbrev CLOCK_GATE_FREG : Field := ⟨Reg.CLOCK_GATE, 23, 8⟩
abbrev CLOCK_POWER_STATE : Field := ⟨Reg.CLOCK_POWER, 46, 2⟩
abbrev CLOCK_POWER_REQ : Field := ⟨Reg.CLOCK_POWER, 44, 2⟩
abbrev CLOCK_POWER_RETURN : Field := ⟨Reg.CLOCK_POWER, 42, 2⟩
abbrev CLOCK_POWER_LEAVING : Field := ⟨Reg.CLOCK_POWER, 41, 1⟩
abbrev CLOCK_POWER_WAKE_BY : Field := ⟨Reg.CLOCK_POWER, 39, 2⟩
abbrev CLOCK_STARTUP_STEP0 : Field := ⟨Reg.CLOCK_STARTUP, 46, 2⟩
abbrev CLOCK_STARTUP_STEP1 : Field := ⟨Reg.CLOCK_STARTUP, 44, 2⟩
abbrev CLOCK_STARTUP_STEP2 : Field := ⟨Reg.CLOCK_STARTUP, 42, 2⟩
abbrev CLOCK_STARTUP_STEP3 : Field := ⟨Reg.CLOCK_STARTUP, 40, 2⟩
abbrev CLOCK_STARTUP_DLY0 : Field := ⟨Reg.CLOCK_STARTUP, 32, 8⟩
abbrev CLOCK_STARTUP_DLY1 : Field := ⟨Reg.CLOCK_STARTUP, 24, 8⟩
abbrev CLOCK_STARTUP_DLY2 : Field := ⟨Reg.CLOCK_STARTUP, 16, 8⟩
abbrev CLOCK_RESET_CAUSE_LAST : Field := ⟨Reg.CLOCK_RESET_CAUSE, 45, 3⟩
abbrev CLOCK_RESET_CAUSE_COMBO : Field := ⟨Reg.CLOCK_RESET_CAUSE, 43, 2⟩
abbrev CLOCK_RESET_CAUSE_CLOCK_LOST : Field := ⟨Reg.CLOCK_RESET_CAUSE, 42, 1⟩
abbrev CLOCK_RESET_CAUSE_IN_HOLD : Field := ⟨Reg.CLOCK_RESET_CAUSE, 41, 1⟩
abbrev CLOCK_RESET_COUNT_RESET_N : Field := ⟨Reg.CLOCK_RESET_COUNT, 40, 8⟩
abbrev CLOCK_RESET_COUNT_HIVE : Field := ⟨Reg.CLOCK_RESET_COUNT, 32, 8⟩
abbrev CLOCK_RESET_COUNT_COMBO : Field := ⟨Reg.CLOCK_RESET_COUNT, 24, 8⟩
abbrev CLOCK_RESET_COUNT_WATCHDOG : Field := ⟨Reg.CLOCK_RESET_COUNT, 16, 8⟩
abbrev CLOCK_RESET_COUNT_CLEAR : Field := ⟨Reg.CLOCK_RESET_COUNT, 0, 1⟩
abbrev CONFIG_CTX_STATE_STATES : Field := ⟨Reg.CONFIG_CTX_STATE, 32, 16⟩
abbrev CONFIG_CTX_STATE_ACTIVE : Field := ⟨Reg.CONFIG_CTX_STATE, 29, 3⟩
abbrev CONFIG_CTX_STATE_PENDING : Field := ⟨Reg.CONFIG_CTX_STATE, 28, 1⟩
abbrev CONFIG_CTX_STATE_PEND_CTX : Field := ⟨Reg.CONFIG_CTX_STATE, 25, 3⟩
abbrev CONFIG_CTX_STATE_REFUSE_CAUSE : Field := ⟨Reg.CONFIG_CTX_STATE, 22, 3⟩
abbrev CONFIG_CTX_SWITCH_CTX : Field := ⟨Reg.CONFIG_CTX_SWITCH, 45, 3⟩
abbrev CONFIG_CTX_SWITCH_TIED : Field := ⟨Reg.CONFIG_CTX_SWITCH, 44, 1⟩
abbrev CONFIG_CTX_SWITCH_GO : Field := ⟨Reg.CONFIG_CTX_SWITCH, 0, 1⟩
abbrev CONFIG_TILE_OK_OK (n : Nat) : Field := ⟨(Reg.CONFIG_TILE_OK n), 0, 48⟩
abbrev FABRIC_CAPS_LES : Field := ⟨Reg.FABRIC_CAPS, 30, 18⟩
abbrev FABRIC_CAPS_AUS : Field := ⟨Reg.FABRIC_CAPS, 22, 8⟩
abbrev FABRIC_CAPS_UIO : Field := ⟨Reg.FABRIC_CAPS, 15, 7⟩
abbrev FABRIC_CAPS_WINDOWS : Field := ⟨Reg.FABRIC_CAPS, 8, 7⟩
abbrev FABRIC_CAPS_SPARES : Field := ⟨Reg.FABRIC_CAPS, 0, 8⟩
abbrev FABRIC_STATUS_FSTATE : Field := ⟨Reg.FABRIC_STATUS, 30, 2⟩
abbrev FABRIC_STATUS_CM_LOCK : Field := ⟨Reg.FABRIC_STATUS, 22, 8⟩
abbrev FABRIC_STATUS_OPEN : Field := ⟨Reg.FABRIC_STATUS, 16, 6⟩
abbrev FABRIC_STATUS_SPARES_LEFT : Field := ⟨Reg.FABRIC_STATUS, 10, 6⟩
abbrev FABRIC_EVENTS_FABRIC_RESET : Field := ⟨Reg.FABRIC_EVENTS, 5, 1⟩
abbrev FABRIC_EVENTS_TEST_WRITE : Field := ⟨Reg.FABRIC_EVENTS, 4, 1⟩
abbrev FABRIC_EVENTS_DMA_STOPPED : Field := ⟨Reg.FABRIC_EVENTS, 3, 1⟩
abbrev FABRIC_EVENTS_PROT_REFUSED : Field := ⟨Reg.FABRIC_EVENTS, 2, 1⟩
abbrev FABRIC_EVENTS_WINDOW_REFUSED : Field := ⟨Reg.FABRIC_EVENTS, 1, 1⟩
abbrev FABRIC_EVENTS_TILE_FAIL : Field := ⟨Reg.FABRIC_EVENTS, 0, 1⟩
abbrev FABRIC_CTRL_RESET : Field := ⟨Reg.FABRIC_CTRL, 0, 1⟩
abbrev FABRIC_TILE_CTRL_TILE : Field := ⟨Reg.FABRIC_TILE_CTRL, 36, 12⟩
abbrev FABRIC_TILE_CTRL_CLEAR : Field := ⟨Reg.FABRIC_TILE_CTRL, 0, 1⟩
abbrev FABRIC_TILE_STAT_VALID : Field := ⟨Reg.FABRIC_TILE_STAT, 47, 1⟩
abbrev FABRIC_TILE_STAT_TILE : Field := ⟨Reg.FABRIC_TILE_STAT, 35, 12⟩
abbrev FABRIC_TILE_STAT_OPENER : Field := ⟨Reg.FABRIC_TILE_STAT, 32, 3⟩
abbrev FABRIC_TILE_STAT_FOUND : Field := ⟨Reg.FABRIC_TILE_STAT, 0, 32⟩
abbrev FABRIC_PROT_EN (n : Nat) : Field := ⟨(Reg.FABRIC_PROT n), 47, 1⟩
abbrev FABRIC_PROT_FIRST (n : Nat) : Field := ⟨(Reg.FABRIC_PROT n), 35, 12⟩
abbrev FABRIC_PROT_LAST (n : Nat) : Field := ⟨(Reg.FABRIC_PROT n), 23, 12⟩
abbrev FABRIC_PROT_CTRL_FROZEN : Field := ⟨Reg.FABRIC_PROT_CTRL, 47, 1⟩
abbrev FABRIC_PROT_CTRL_FREEZE : Field := ⟨Reg.FABRIC_PROT_CTRL, 0, 1⟩
abbrev FABRIC_PROT_HIT_VALID : Field := ⟨Reg.FABRIC_PROT_HIT, 47, 1⟩
abbrev FABRIC_PROT_HIT_PATH : Field := ⟨Reg.FABRIC_PROT_HIT, 46, 1⟩
abbrev FABRIC_PROT_HIT_SPACE : Field := ⟨Reg.FABRIC_PROT_HIT, 45, 1⟩
abbrev FABRIC_PROT_HIT_ADDRESS : Field := ⟨Reg.FABRIC_PROT_HIT, 0, 29⟩
abbrev CONFIG_CAPS_CONTEXTS : Field := ⟨Reg.CONFIG_CAPS, 44, 4⟩
abbrev CONFIG_CAPS_TILES : Field := ⟨Reg.CONFIG_CAPS, 38, 6⟩
abbrev CONFIG_CAPS_FRAMES : Field := ⟨Reg.CONFIG_CAPS, 29, 9⟩
abbrev CONFIG_CAPS_FRAME_BITS : Field := ⟨Reg.CONFIG_CAPS, 17, 12⟩
abbrev CONFIG_CAPS_CHECK_BITS : Field := ⟨Reg.CONFIG_CAPS, 13, 4⟩
abbrev CONFIG_EVENTS_BOOT_FAILED : Field := ⟨Reg.CONFIG_EVENTS, 5, 1⟩
abbrev CONFIG_EVENTS_STAGE_WRITE : Field := ⟨Reg.CONFIG_EVENTS, 4, 1⟩
abbrev CONFIG_EVENTS_REGION_VIOLATION : Field := ⟨Reg.CONFIG_EVENTS, 3, 1⟩
abbrev CONFIG_EVENTS_LOAD_FAILED : Field := ⟨Reg.CONFIG_EVENTS, 2, 1⟩
abbrev CONFIG_EVENTS_LOAD_DONE : Field := ⟨Reg.CONFIG_EVENTS, 1, 1⟩
abbrev CONFIG_EVENTS_CTX_REFUSED : Field := ⟨Reg.CONFIG_EVENTS, 0, 1⟩
abbrev CONFIG_LOAD_CTRL_SECTOR : Field := ⟨Reg.CONFIG_LOAD_CTRL, 37, 11⟩
abbrev CONFIG_LOAD_CTRL_CTX : Field := ⟨Reg.CONFIG_LOAD_CTRL, 34, 3⟩
abbrev CONFIG_LOAD_CTRL_GO : Field := ⟨Reg.CONFIG_LOAD_CTRL, 0, 1⟩
abbrev CONFIG_LOAD_STAT_STATE : Field := ⟨Reg.CONFIG_LOAD_STAT, 44, 4⟩
abbrev CONFIG_LOAD_STAT_CAUSE : Field := ⟨Reg.CONFIG_LOAD_STAT, 40, 4⟩
abbrev CONFIG_LOAD_STAT_CTX : Field := ⟨Reg.CONFIG_LOAD_STAT, 37, 3⟩
abbrev CONFIG_LOAD_STAT_PARTIAL : Field := ⟨Reg.CONFIG_LOAD_STAT, 36, 1⟩
abbrev CONFIG_LOAD_STAT_FA : Field := ⟨Reg.CONFIG_LOAD_STAT, 22, 14⟩
abbrev CONFIG_STAGE_FIRST : Field := ⟨Reg.CONFIG_STAGE, 36, 12⟩
abbrev CONFIG_STAGE_COUNT : Field := ⟨Reg.CONFIG_STAGE, 24, 12⟩
abbrev SCRUB_CAPS_SLOTS : Field := ⟨Reg.SCRUB_CAPS, 31, 17⟩
abbrev SCRUB_CAPS_SLOT_TCK : Field := ⟨Reg.SCRUB_CAPS, 23, 8⟩
abbrev SCRUB_BASIC_DIV : Field := ⟨Reg.SCRUB_BASIC, 45, 3⟩
abbrev SCRUB_BASIC_ESS_ACTION : Field := ⟨Reg.SCRUB_BASIC, 43, 2⟩
abbrev SCRUB_BASIC_FALLBACK : Field := ⟨Reg.SCRUB_BASIC, 40, 3⟩
abbrev SCRUB_BASIC_ON_CORRECT : Field := ⟨Reg.SCRUB_BASIC, 39, 1⟩
abbrev SCRUB_BASIC_ON_RELOAD : Field := ⟨Reg.SCRUB_BASIC, 38, 1⟩
abbrev SCRUB_BASIC_ON_LOST : Field := ⟨Reg.SCRUB_BASIC, 37, 1⟩
abbrev SCRUB_STATUS_MAP_DONE : Field := ⟨Reg.SCRUB_STATUS, 31, 1⟩
abbrev SCRUB_STATUS_DETOUR : Field := ⟨Reg.SCRUB_STATUS, 30, 1⟩
abbrev SCRUB_STATUS_CTX : Field := ⟨Reg.SCRUB_STATUS, 27, 3⟩
abbrev SCRUB_STATUS_TILE : Field := ⟨Reg.SCRUB_STATUS, 21, 6⟩
abbrev SCRUB_STATUS_FRAME : Field := ⟨Reg.SCRUB_STATUS, 13, 8⟩
abbrev SCRUB_EVENTS_MAP_LOST : Field := ⟨Reg.SCRUB_EVENTS, 8, 1⟩
abbrev SCRUB_EVENTS_PASS_RESTART : Field := ⟨Reg.SCRUB_EVENTS, 7, 1⟩
abbrev SCRUB_EVENTS_SELF_UPSET : Field := ⟨Reg.SCRUB_EVENTS, 6, 1⟩
abbrev SCRUB_EVENTS_ESSENTIAL : Field := ⟨Reg.SCRUB_EVENTS, 5, 1⟩
abbrev SCRUB_EVENTS_TILE_LOST : Field := ⟨Reg.SCRUB_EVENTS, 4, 1⟩
abbrev SCRUB_EVENTS_TILE_CRC : Field := ⟨Reg.SCRUB_EVENTS, 3, 1⟩
abbrev SCRUB_EVENTS_RELOAD_FAILED : Field := ⟨Reg.SCRUB_EVENTS, 2, 1⟩
abbrev SCRUB_EVENTS_RELOADED : Field := ⟨Reg.SCRUB_EVENTS, 1, 1⟩
abbrev SCRUB_EVENTS_CORRECTED : Field := ⟨Reg.SCRUB_EVENTS, 0, 1⟩
abbrev SCRUB_LAST_ERR_VALID : Field := ⟨Reg.SCRUB_LAST_ERR, 47, 1⟩
abbrev SCRUB_LAST_ERR_KIND : Field := ⟨Reg.SCRUB_LAST_ERR, 44, 3⟩
abbrev SCRUB_LAST_ERR_ESSENTIAL : Field := ⟨Reg.SCRUB_LAST_ERR, 43, 1⟩
abbrev SCRUB_LAST_ERR_ACTIVE : Field := ⟨Reg.SCRUB_LAST_ERR, 42, 1⟩
abbrev SCRUB_LAST_ERR_CTX : Field := ⟨Reg.SCRUB_LAST_ERR, 39, 3⟩
abbrev SCRUB_LAST_ERR_FA : Field := ⟨Reg.SCRUB_LAST_ERR, 25, 14⟩
abbrev SCRUB_LAST_ERR_BIT : Field := ⟨Reg.SCRUB_LAST_ERR, 13, 12⟩
abbrev SCRUB_COUNTS_CORRECTED : Field := ⟨Reg.SCRUB_COUNTS, 32, 16⟩
abbrev SCRUB_COUNTS_RELOADED : Field := ⟨Reg.SCRUB_COUNTS, 16, 16⟩
abbrev SCRUB_COUNTS_TILE_LOST : Field := ⟨Reg.SCRUB_COUNTS, 8, 8⟩
abbrev SCRUB_COUNTS_SELF_UPSETS : Field := ⟨Reg.SCRUB_COUNTS, 0, 8⟩
abbrev SCRUB_PASSES_PASSES : Field := ⟨Reg.SCRUB_PASSES, 16, 32⟩
abbrev SCRUB_PASSES_CLEAR : Field := ⟨Reg.SCRUB_PASSES, 0, 1⟩
abbrev STORE_CAPS_SECTORS : Field := ⟨Reg.STORE_CAPS, 36, 12⟩
abbrev STORE_CAPS_LOGICAL : Field := ⟨Reg.STORE_CAPS, 24, 12⟩
abbrev STORE_CAPS_ENDURANCE : Field := ⟨Reg.STORE_CAPS, 7, 17⟩
abbrev STORE_STATUS_POOL_FREE : Field := ⟨Reg.STORE_STATUS, 21, 11⟩
abbrev STORE_STATUS_RESERVED : Field := ⟨Reg.STORE_STATUS, 10, 11⟩
abbrev STORE_STATUS_RETIRED : Field := ⟨Reg.STORE_STATUS, 0, 10⟩
abbrev STORE_EVENTS_AREA_REFUSED : Field := ⟨Reg.STORE_EVENTS, 4, 1⟩
abbrev STORE_EVENTS_WORN : Field := ⟨Reg.STORE_EVENTS, 3, 1⟩
abbrev STORE_EVENTS_SPARE_USED : Field := ⟨Reg.STORE_EVENTS, 2, 1⟩
abbrev STORE_EVENTS_READ_ONLY : Field := ⟨Reg.STORE_EVENTS, 1, 1⟩
abbrev STORE_EVENTS_DONE : Field := ⟨Reg.STORE_EVENTS, 0, 1⟩
abbrev STORE_PIECE_CTRL_SECTOR : Field := ⟨Reg.STORE_PIECE_CTRL, 37, 11⟩
abbrev STORE_PIECE_CTRL_PIECE : Field := ⟨Reg.STORE_PIECE_CTRL, 33, 4⟩
abbrev STORE_PIECE_CTRL_WRITE : Field := ⟨Reg.STORE_PIECE_CTRL, 32, 1⟩
abbrev STORE_PIECE_CTRL_GO : Field := ⟨Reg.STORE_PIECE_CTRL, 0, 1⟩
abbrev UPDATE_CAPS_MAX_PIECES : Field := ⟨Reg.UPDATE_CAPS, 35, 13⟩
abbrev UPDATE_CAPS_MAX_SECTIONS : Field := ⟨Reg.UPDATE_CAPS, 30, 5⟩
abbrev UPDATE_BASIC_RX_EN : Field := ⟨Reg.UPDATE_BASIC, 47, 1⟩
abbrev UPDATE_STATUS_SLOT : Field := ⟨Reg.UPDATE_STATUS, 29, 3⟩
abbrev UPDATE_STATUS_CAUSE : Field := ⟨Reg.UPDATE_STATUS, 25, 4⟩
abbrev UPDATE_STATUS_CLASS : Field := ⟨Reg.UPDATE_STATUS, 23, 2⟩
abbrev UPDATE_STATUS_MC_READY : Field := ⟨Reg.UPDATE_STATUS, 22, 1⟩
abbrev UPDATE_STATUS_ACTIVATED : Field := ⟨Reg.UPDATE_STATUS, 21, 1⟩
abbrev UPDATE_STATUS_KEY_PRESENT : Field := ⟨Reg.UPDATE_STATUS, 20, 1⟩
abbrev UPDATE_EVENTS_KEY_REFUSED : Field := ⟨Reg.UPDATE_EVENTS, 6, 1⟩
abbrev UPDATE_EVENTS_ACT_MISSED : Field := ⟨Reg.UPDATE_EVENTS, 5, 1⟩
abbrev UPDATE_EVENTS_ACTIVATED : Field := ⟨Reg.UPDATE_EVENTS, 4, 1⟩
abbrev UPDATE_EVENTS_REJECTED : Field := ⟨Reg.UPDATE_EVENTS, 3, 1⟩
abbrev UPDATE_EVENTS_READY : Field := ⟨Reg.UPDATE_EVENTS, 2, 1⟩
abbrev UPDATE_EVENTS_OPENED : Field := ⟨Reg.UPDATE_EVENTS, 1, 1⟩
abbrev UPDATE_EVENTS_PIECE_REFUSED : Field := ⟨Reg.UPDATE_EVENTS, 0, 1⟩
abbrev UPDATE_IMAGE_IMAGE_ID : Field := ⟨Reg.UPDATE_IMAGE, 16, 32⟩
abbrev UPDATE_IMAGE_PIECES : Field := ⟨Reg.UPDATE_IMAGE, 0, 13⟩
abbrev UPDATE_RXCOUNT_RECEIVED : Field := ⟨Reg.UPDATE_RXCOUNT, 35, 13⟩
abbrev UPDATE_RXCOUNT_COMMITTED : Field := ⟨Reg.UPDATE_RXCOUNT, 22, 13⟩
abbrev UPDATE_RXCOUNT_FIRST_MISSING : Field := ⟨Reg.UPDATE_RXCOUNT, 9, 13⟩
abbrev UPDATE_CTRL_PIECE_GO : Field := ⟨Reg.UPDATE_CTRL, 4, 1⟩
abbrev UPDATE_CTRL_KEY_COMMIT : Field := ⟨Reg.UPDATE_CTRL, 3, 1⟩
abbrev UPDATE_CTRL_ACCEPT : Field := ⟨Reg.UPDATE_CTRL, 2, 1⟩
abbrev UPDATE_CTRL_ABORT : Field := ⟨Reg.UPDATE_CTRL, 1, 1⟩
abbrev UPDATE_CTRL_ACTIVATE : Field := ⟨Reg.UPDATE_CTRL, 0, 1⟩
abbrev UPDATE_LAST_PIECE_STATUS : Field := ⟨Reg.UPDATE_LAST_PIECE, 44, 4⟩
abbrev UPDATE_LAST_PIECE_INDEX : Field := ⟨Reg.UPDATE_LAST_PIECE, 28, 16⟩
abbrev UPDATE_HOLD_VALID : Field := ⟨Reg.UPDATE_HOLD, 47, 1⟩
abbrev UPDATE_HOLD_ACTIVE : Field := ⟨Reg.UPDATE_HOLD, 46, 1⟩
abbrev UPDATE_HOLD_CAUSE : Field := ⟨Reg.UPDATE_HOLD, 43, 3⟩
abbrev UPDATE_HOLD_IMAGE_ID : Field := ⟨Reg.UPDATE_HOLD, 11, 32⟩
abbrev UPDATE_BOOT_VALID : Field := ⟨Reg.UPDATE_BOOT, 47, 1⟩
abbrev UPDATE_BOOT_SECTOR : Field := ⟨Reg.UPDATE_BOOT, 36, 11⟩
abbrev XMEM_CAPS_MAX_MHZ : Field := ⟨Reg.XMEM_CAPS, 40, 8⟩
abbrev XMEM_CAPS_MAX_LOG2 : Field := ⟨Reg.XMEM_CAPS, 35, 5⟩
abbrev XMEM_CAPS_DEVICES : Field := ⟨Reg.XMEM_CAPS, 32, 3⟩
abbrev XMEM_BASIC_EN : Field := ⟨Reg.XMEM_BASIC, 47, 1⟩
abbrev XMEM_BASIC_CLK : Field := ⟨Reg.XMEM_BASIC, 45, 2⟩
abbrev XMEM_STATUS_ABSENT : Field := ⟨Reg.XMEM_STATUS, 31, 1⟩
abbrev XMEM_STATUS_PLL_LOCK : Field := ⟨Reg.XMEM_STATUS, 30, 1⟩
abbrev XMEM_STATUS_STREAM : Field := ⟨Reg.XMEM_STATUS, 29, 1⟩
abbrev XMEM_STATUS_STREAM_REGION : Field := ⟨Reg.XMEM_STATUS, 16, 13⟩
abbrev XMEM_STATUS_LAST_CAUSE : Field := ⟨Reg.XMEM_STATUS, 12, 4⟩
abbrev XMEM_EVENTS_PROT_REFUSED : Field := ⟨Reg.XMEM_EVENTS, 4, 1⟩
abbrev XMEM_EVENTS_ACCESS_REFUSED : Field := ⟨Reg.XMEM_EVENTS, 3, 1⟩
abbrev XMEM_EVENTS_STREAM_PADDED : Field := ⟨Reg.XMEM_EVENTS, 2, 1⟩
abbrev XMEM_EVENTS_ENABLE_REFUSED : Field := ⟨Reg.XMEM_EVENTS, 1, 1⟩
abbrev XMEM_EVENTS_CMD_DONE : Field := ⟨Reg.XMEM_EVENTS, 0, 1⟩
abbrev XMEM_DEV_PRESENT (n : Nat) : Field := ⟨(Reg.XMEM_DEV n), 47, 1⟩
abbrev XMEM_DEV_TYPE (n : Nat) : Field := ⟨(Reg.XMEM_DEV n), 46, 1⟩
abbrev XMEM_DEV_SIZE_LOG2 (n : Nat) : Field := ⟨(Reg.XMEM_DEV n), 41, 5⟩
abbrev XMEM_DEV_READ_OP (n : Nat) : Field := ⟨(Reg.XMEM_DEV n), 33, 8⟩
abbrev XMEM_DEV_PROG_OP (n : Nat) : Field := ⟨(Reg.XMEM_DEV n), 25, 8⟩
abbrev XMEM_DEV_ERASE_OP (n : Nat) : Field := ⟨(Reg.XMEM_DEV n), 17, 8⟩
abbrev XMEM_DEV_DUMMY (n : Nat) : Field := ⟨(Reg.XMEM_DEV n), 12, 5⟩
abbrev XMEM_CMD_OPCODE : Field := ⟨Reg.XMEM_CMD, 40, 8⟩
abbrev XMEM_CMD_CS : Field := ⟨Reg.XMEM_CMD, 39, 1⟩
abbrev XMEM_CMD_OCTAL : Field := ⟨Reg.XMEM_CMD, 38, 1⟩
abbrev XMEM_CMD_READ : Field := ⟨Reg.XMEM_CMD, 37, 1⟩
abbrev XMEM_CMD_NBYTES : Field := ⟨Reg.XMEM_CMD, 34, 3⟩
abbrev XMEM_CMD_DATA : Field := ⟨Reg.XMEM_CMD, 2, 32⟩
abbrev XMEM_CMD_BUSY : Field := ⟨Reg.XMEM_CMD, 1, 1⟩
abbrev XMEM_CMD_GO : Field := ⟨Reg.XMEM_CMD, 0, 1⟩
abbrev XMEM_CMD_ADDR_ADDR_EN : Field := ⟨Reg.XMEM_CMD_ADDR, 47, 1⟩
abbrev XMEM_CMD_ADDR_ADDR : Field := ⟨Reg.XMEM_CMD_ADDR, 0, 32⟩
abbrev XMEM_WIN_BASE_BYTE : Field := ⟨Reg.XMEM_WIN_BASE, 0, 29⟩
abbrev XMEM_PROT_EN (n : Nat) : Field := ⟨(Reg.XMEM_PROT n), 47, 1⟩
abbrev XMEM_PROT_FIRST (n : Nat) : Field := ⟨(Reg.XMEM_PROT n), 34, 13⟩
abbrev XMEM_PROT_LAST (n : Nat) : Field := ⟨(Reg.XMEM_PROT n), 21, 13⟩
abbrev CRYPT_CAPS_REGIONS : Field := ⟨Reg.CRYPT_CAPS, 34, 14⟩
abbrev CRYPT_CAPS_REGION_LOG2 : Field := ⟨Reg.CRYPT_CAPS, 30, 4⟩
abbrev CRYPT_CAPS_GEN_MAX : Field := ⟨Reg.CRYPT_CAPS, 16, 14⟩
abbrev CRYPT_STATUS_REKEYING : Field := ⟨Reg.CRYPT_STATUS, 31, 1⟩
abbrev CRYPT_STATUS_REKEY_REGION : Field := ⟨Reg.CRYPT_STATUS, 18, 13⟩
abbrev CRYPT_STATUS_EXHAUSTED : Field := ⟨Reg.CRYPT_STATUS, 4, 14⟩
abbrev CRYPT_EVENTS_MODE_REFUSED : Field := ⟨Reg.CRYPT_EVENTS, 3, 1⟩
abbrev CRYPT_EVENTS_EXHAUSTED : Field := ⟨Reg.CRYPT_EVENTS, 2, 1⟩
abbrev CRYPT_EVENTS_REKEY_DONE : Field := ⟨Reg.CRYPT_EVENTS, 1, 1⟩
abbrev CRYPT_EVENTS_REKEY_STARTED : Field := ⟨Reg.CRYPT_EVENTS, 0, 1⟩
abbrev CRYPT_REGION_CTRL_FIRST : Field := ⟨Reg.CRYPT_REGION_CTRL, 35, 13⟩
abbrev CRYPT_REGION_CTRL_LAST : Field := ⟨Reg.CRYPT_REGION_CTRL, 22, 13⟩
abbrev CRYPT_REGION_CTRL_ENCRYPT : Field := ⟨Reg.CRYPT_REGION_CTRL, 21, 1⟩
abbrev CRYPT_REGION_CTRL_GO : Field := ⟨Reg.CRYPT_REGION_CTRL, 0, 1⟩
abbrev TWI_CAPS_MAX_KHZ : Field := ⟨Reg.TWI_CAPS, 38, 10⟩
abbrev TWI_CAPS_FILTER_MAX : Field := ⟨Reg.TWI_CAPS, 34, 4⟩
abbrev TWI_CAPS_TIMEOUT_MAX : Field := ⟨Reg.TWI_CAPS, 28, 6⟩
abbrev TWI_CAPS_ADDR_BASE : Field := ⟨Reg.TWI_CAPS, 21, 7⟩
abbrev TWI_BASIC_FILTER : Field := ⟨Reg.TWI_BASIC, 44, 4⟩
abbrev TWI_BASIC_TIMEOUT : Field := ⟨Reg.TWI_BASIC, 38, 6⟩
abbrev TWI_BASIC_REPEAT_IDX : Field := ⟨Reg.TWI_BASIC, 37, 1⟩
abbrev TWI_STATUS_STATE : Field := ⟨Reg.TWI_STATUS, 29, 3⟩
abbrev TWI_STATUS_ADDR_PINS : Field := ⟨Reg.TWI_STATUS, 25, 4⟩
abbrev TWI_STATUS_PAGE : Field := ⟨Reg.TWI_STATUS, 19, 6⟩
abbrev TWI_STATUS_INDEX : Field := ⟨Reg.TWI_STATUS, 11, 8⟩
abbrev TWI_STATUS_BYTE : Field := ⟨Reg.TWI_STATUS, 8, 3⟩
abbrev TWI_STATUS_AWAKE : Field := ⟨Reg.TWI_STATUS, 7, 1⟩
abbrev TWI_EVENTS_PAGE_REFUSED : Field := ⟨Reg.TWI_EVENTS, 5, 1⟩
abbrev TWI_EVENTS_TIMEOUT : Field := ⟨Reg.TWI_EVENTS, 4, 1⟩
abbrev TWI_EVENTS_NACKED : Field := ⟨Reg.TWI_EVENTS, 3, 1⟩
abbrev TWI_EVENTS_PARTIAL_WRITE : Field := ⟨Reg.TWI_EVENTS, 2, 1⟩
abbrev TWI_EVENTS_WAKE : Field := ⟨Reg.TWI_EVENTS, 1, 1⟩
abbrev TWI_EVENTS_BUS_ERROR : Field := ⟨Reg.TWI_EVENTS, 0, 1⟩
abbrev SELFTEST_BASIC_MAP_LINES : Field := ⟨Reg.SELFTEST_BASIC, 47, 1⟩
abbrev SELFTEST_STATUS_BUSY : Field := ⟨Reg.SELFTEST_STATUS, 23, 9⟩
abbrev SELFTEST_EVENTS_REQ_REFUSED : Field := ⟨Reg.SELFTEST_EVENTS, 3, 1⟩
abbrev SELFTEST_EVENTS_UNTESTED : Field := ⟨Reg.SELFTEST_EVENTS, 2, 1⟩
abbrev SELFTEST_EVENTS_LASTING : Field := ⟨Reg.SELFTEST_EVENTS, 1, 1⟩
abbrev SELFTEST_EVENTS_TRANSIENT : Field := ⟨Reg.SELFTEST_EVENTS, 0, 1⟩
abbrev SELFTEST_REQ_KIND : Field := ⟨Reg.SELFTEST_REQ, 43, 5⟩
abbrev SELFTEST_REQ_OBJECT : Field := ⟨Reg.SELFTEST_REQ, 16, 24⟩
abbrev SELFTEST_REQ_GO : Field := ⟨Reg.SELFTEST_REQ, 0, 1⟩
abbrev FAULT_STATUS_ENTRIES : Field := ⟨Reg.FAULT_STATUS, 25, 7⟩
abbrev FAULT_STATUS_LINES : Field := ⟨Reg.FAULT_STATUS, 18, 7⟩
abbrev FAULT_EVENTS_RECORD_FULL : Field := ⟨Reg.FAULT_EVENTS, 3, 1⟩
abbrev FAULT_EVENTS_LOG_WRAPPED : Field := ⟨Reg.FAULT_EVENTS, 2, 1⟩
abbrev FAULT_EVENTS_MAPPED : Field := ⟨Reg.FAULT_EVENTS, 1, 1⟩
abbrev FAULT_EVENTS_NEW_FAULT : Field := ⟨Reg.FAULT_EVENTS, 0, 1⟩
abbrev FAULT_LINE_CTRL_GROUP : Field := ⟨Reg.FAULT_LINE_CTRL, 45, 3⟩
abbrev FAULT_LINE_CTRL_LINE : Field := ⟨Reg.FAULT_LINE_CTRL, 39, 6⟩
abbrev FAULT_LINE_CTRL_CLEAR : Field := ⟨Reg.FAULT_LINE_CTRL, 0, 1⟩
abbrev FAULT_LOG_CTRL_CLEAR_COUNTS : Field := ⟨Reg.FAULT_LOG_CTRL, 1, 1⟩
abbrev FAULT_LOG_CTRL_CLEAR : Field := ⟨Reg.FAULT_LOG_CTRL, 0, 1⟩
abbrev THERM_CAPS_DIE_SENSORS : Field := ⟨Reg.THERM_CAPS, 44, 4⟩
abbrev THERM_CAPS_NTC_INPUTS : Field := ⟨Reg.THERM_CAPS, 40, 4⟩
abbrev THERM_CAPS_SHUTDOWN_C : Field := ⟨Reg.THERM_CAPS, 32, 8⟩
abbrev THERM_BASIC_BETA0 : Field := ⟨Reg.THERM_BASIC, 36, 12⟩
abbrev THERM_BASIC_RNOM0 : Field := ⟨Reg.THERM_BASIC, 28, 8⟩
abbrev THERM_BASIC_BETA1 : Field := ⟨Reg.THERM_BASIC, 16, 12⟩
abbrev THERM_BASIC_RNOM1 : Field := ⟨Reg.THERM_BASIC, 8, 8⟩
abbrev THERM_STATUS_NTC0_STATE : Field := ⟨Reg.THERM_STATUS, 30, 2⟩
abbrev THERM_STATUS_NTC1_STATE : Field := ⟨Reg.THERM_STATUS, 28, 2⟩
abbrev THERM_STATUS_HOT : Field := ⟨Reg.THERM_STATUS, 20, 8⟩
abbrev THERM_EVENTS_SHUTDOWN : Field := ⟨Reg.THERM_EVENTS, 3, 1⟩
abbrev THERM_EVENTS_HOT : Field := ⟨Reg.THERM_EVENTS, 2, 1⟩
abbrev THERM_EVENTS_NTC1_FAULT : Field := ⟨Reg.THERM_EVENTS, 1, 1⟩
abbrev THERM_EVENTS_NTC0_FAULT : Field := ⟨Reg.THERM_EVENTS, 0, 1⟩
abbrev THERM_NTC_T0 : Field := ⟨Reg.THERM_NTC, 40, 8⟩
abbrev THERM_NTC_T1 : Field := ⟨Reg.THERM_NTC, 32, 8⟩
abbrev THERM_NTC_V0 : Field := ⟨Reg.THERM_NTC, 20, 12⟩
abbrev THERM_NTC_V1 : Field := ⟨Reg.THERM_NTC, 8, 12⟩
abbrev THERM_DIE_LO_T : Field := ⟨Reg.THERM_DIE_LO, 16, 32⟩
abbrev THERM_DIE_HI_T : Field := ⟨Reg.THERM_DIE_HI, 16, 32⟩

end Fld

/-- The registers of the DEVICE page, index and fields. -/
def deviceRegs : List (Nat × List RegField) :=
  [(0x01, [⟨40, 8, .ro, 29⟩, ⟨28, 12, .ro, 2198⟩, ⟨24, 4, .ro, 1⟩, ⟨20, 4, .ro, 8⟩, ⟨16, 4, .ro, 8⟩, ⟨12, 4, .ro, 12⟩, ⟨8, 4, .ro, 11⟩, ⟨0, 8, .ro, 96⟩])] ++
  [(0x04, [⟨3, 1, .w1c, 0⟩, ⟨2, 1, .w1c, 0⟩, ⟨1, 1, .w1c, 0⟩, ⟨0, 1, .w1c, 0⟩])] ++
  [(0x09, [⟨40, 1, .rw, 0⟩, ⟨37, 3, .rw, 0⟩, ⟨36, 1, .rw, 0⟩, ⟨28, 8, .rw, 0⟩, ⟨0, 1, .wo, 0⟩])] ++
  [(0x0a, [⟨47, 1, .ro, 0⟩, ⟨46, 1, .ro, 0⟩, ⟨45, 1, .ro, 0⟩, ⟨42, 3, .ro, 0⟩, ⟨39, 3, .ro, 0⟩, ⟨0, 32, .ro, 0⟩])] ++
  [(0x0b, [⟨0, 48, .ro, 0⟩])] ++
  [(0x0c, [⟨0, 16, .ro, 0⟩])]

/-- The registers of the GRP page, index and fields. -/
def groupRegs : List (Nat × List RegField) :=
  [(0x01, [⟨40, 8, .ro, 48⟩, ⟨32, 8, .ro, 16⟩, ⟨24, 8, .ro, 32⟩, ⟨16, 8, .ro, 255⟩, ⟨8, 8, .ro, 80⟩])] ++
  [(0x02, [⟨47, 1, .rwl, 0⟩, ⟨46, 1, .rwl, 0⟩, ⟨38, 8, .rwl, 0⟩, ⟨32, 6, .rwl, 12⟩, ⟨24, 8, .rwl, 240⟩])] ++
  [(0x03, [⟨30, 2, .ro, 0⟩, ⟨29, 1, .ro, 1⟩, ⟨28, 1, .ro, 0⟩, ⟨27, 1, .ro, 0⟩, ⟨26, 1, .ro, 0⟩, ⟨18, 8, .ro, 0⟩, ⟨16, 2, .ro, 0⟩, ⟨12, 4, .ro, 0⟩, ⟨11, 1, .ro, 0⟩, ⟨10, 1, .ro, 0⟩, ⟨9, 1, .ro, 0⟩, ⟨8, 1, .ro, 0⟩, ⟨0, 5, .ro, 0⟩])] ++
  [(0x04, [⟨7, 1, .w1c, 0⟩, ⟨6, 1, .w1c, 0⟩, ⟨5, 1, .w1c, 0⟩, ⟨4, 1, .w1c, 0⟩, ⟨3, 1, .w1c, 0⟩, ⟨2, 1, .w1c, 0⟩, ⟨1, 1, .w1c, 0⟩, ⟨0, 1, .w1c, 0⟩, ⟨11, 1, .w1c, 0⟩, ⟨10, 1, .w1c, 0⟩, ⟨9, 1, .w1c, 0⟩, ⟨8, 1, .w1c, 0⟩])] ++
  [(0x08, [⟨0, 48, .rwl, 0⟩])] ++
  [(0x09, [⟨0, 48, .ro, 0⟩])] ++
  [(0x0a, [⟨16, 32, .w1c, 0⟩, ⟨0, 4, .ro, 0⟩])] ++
  [(0x0b, [⟨44, 4, .rwl, 0⟩, ⟨43, 1, .rwl, 0⟩])] ++
  [(0x0c, [⟨40, 6, .ro, 0⟩, ⟨0, 40, .ro, 0⟩])] ++
  [(0x40, [⟨47, 1, .rwx, 0⟩, ⟨46, 1, .rwx, 0⟩, ⟨38, 8, .rwx, 0⟩, ⟨32, 6, .rwx, 12⟩, ⟨24, 8, .rwx, 240⟩, ⟨22, 2, .rwx, 1⟩, ⟨18, 4, .rwx, 4⟩, ⟨10, 8, .rwx, 8⟩])] ++
  [(0x41, [⟨16, 32, .w1c, 0⟩, ⟨0, 4, .ro, 0⟩])]

/-- The registers of the COMB page, index and fields. -/
def combRegs : List (Nat × List RegField) :=
  [(0x01, [⟨36, 12, .ro, 384⟩, ⟨32, 4, .ro, 2⟩, ⟨28, 4, .ro, 8⟩, ⟨24, 4, .ro, 8⟩])] ++
  [(0x02, [⟨1, 1, .rwl, 0⟩, ⟨0, 1, .rwl, 0⟩])] ++
  [(0x03, [⟨30, 2, .ro, 0⟩, ⟨29, 1, .ro, 0⟩, ⟨26, 3, .ro, 0⟩, ⟨22, 4, .ro, 0⟩, ⟨9, 9, .ro, 0⟩, ⟨0, 9, .ro, 0⟩])] ++
  [(0x04, [⟨6, 1, .w1c, 0⟩, ⟨5, 1, .w1c, 0⟩, ⟨4, 1, .w1c, 0⟩, ⟨3, 1, .w1c, 0⟩, ⟨2, 1, .w1c, 0⟩, ⟨1, 1, .w1c, 0⟩, ⟨0, 1, .w1c, 0⟩])] ++
  [(0x08, [⟨13, 1, .wo, 0⟩, ⟨12, 1, .wo, 0⟩, ⟨0, 12, .rwl, 0⟩])] ++
  [(0x40, [⟨4, 1, .rwx, 0⟩, ⟨3, 1, .wo, 0⟩, ⟨2, 1, .wo, 0⟩, ⟨1, 1, .wo, 0⟩, ⟨0, 1, .rwx, 0⟩])] ++
  [(0x41, [⟨24, 24, .rwx, 0⟩, ⟨0, 24, .ro, 0⟩])]

/-- The registers of the FRAME page, index and fields. -/
def frameRegs : List (Nat × List RegField) :=
  [(0x01, [⟨40, 8, .ro, 10⟩, ⟨36, 4, .ro, 4⟩, ⟨32, 4, .ro, 4⟩, ⟨16, 16, .ro, 4096⟩])] ++
  [(0x03, [⟨24, 8, .ro, 0⟩, ⟨12, 12, .ro, 0⟩, ⟨0, 8, .ro, 0⟩])] ++
  [(0x04, [⟨4, 1, .w1c, 0⟩, ⟨3, 1, .w1c, 0⟩, ⟨2, 1, .w1c, 0⟩, ⟨1, 1, .w1c, 0⟩, ⟨0, 1, .w1c, 0⟩])] ++
  dupReg 0x08 8 [⟨36, 12, .rwl, 0⟩, ⟨33, 3, .rwl, 0⟩, ⟨21, 12, .rwl, 0⟩, ⟨18, 3, .rwl, 0⟩, ⟨2, 1, .ro, 0⟩, ⟨1, 1, .rwl, 0⟩, ⟨0, 1, .wo, 0⟩] ++
  [(0x10, [⟨0, 32, .rwl, 2290649224⟩])] ++
  [(0x11, [⟨40, 8, .rwl, 0⟩, ⟨34, 2, .rwl, 0⟩, ⟨24, 10, .rwl, 0⟩])] ++
  dupReg 0x12 4 [⟨39, 9, .rw, 100⟩, ⟨30, 9, .rw, 50⟩, ⟨21, 9, .rw, 0⟩, ⟨0, 1, .ro, 0⟩]

/-- The registers of the CALIB page, index and fields. -/
def calibRegs : List (Nat × List RegField) :=
  [(0x08, [⟨40, 8, .rwl, 85⟩, ⟨32, 8, .rwl, 0⟩, ⟨23, 9, .rwl, 256⟩, ⟨21, 2, .rwl, 0⟩])]

/-- The registers of the LCDB page, index and fields. -/
def lcdbRegs : List (Nat × List RegField) :=
  [(0x01, [⟨40, 8, .ro, 50⟩, ⟨32, 8, .ro, 240⟩, ⟨28, 4, .ro, 2⟩, ⟨24, 4, .ro, 5⟩, ⟨16, 8, .ro, 16⟩])] ++
  [(0x02, [⟨47, 1, .rwl, 0⟩, ⟨44, 3, .rwl, 4⟩, ⟨36, 8, .rwl, 100⟩, ⟨29, 7, .rwl, 0⟩, ⟨27, 2, .rwl, 0⟩, ⟨23, 4, .rwl, 7⟩])] ++
  [(0x03, [⟨29, 3, .ro, 0⟩, ⟨28, 1, .ro, 1⟩, ⟨27, 1, .ro, 0⟩, ⟨26, 1, .ro, 0⟩, ⟨21, 5, .ro, 0⟩, ⟨11, 10, .ro, 0⟩, ⟨1, 10, .ro, 0⟩])] ++
  [(0x04, [⟨5, 1, .w1c, 0⟩, ⟨4, 1, .w1c, 0⟩, ⟨3, 1, .w1c, 0⟩, ⟨2, 1, .w1c, 0⟩, ⟨1, 1, .w1c, 0⟩, ⟨0, 1, .w1c, 0⟩])] ++
  [(0x40, [⟨47, 1, .rwx, 1⟩, ⟨45, 2, .rwx, 2⟩])]

/-- The registers of the STRING page, index and fields. -/
def stringRegs : List (Nat × List RegField) :=
  [(0x01, [⟨44, 4, .ro, 4⟩, ⟨36, 8, .ro, 16⟩, ⟨28, 8, .ro, 60⟩, ⟨20, 8, .ro, 175⟩, ⟨12, 8, .ro, 5⟩, ⟨4, 8, .ro, 200⟩])] ++
  [(0x03, [⟨0, 8, .ro, 0⟩])] ++
  [(0x04, [⟨7, 1, .w1c, 0⟩, ⟨6, 1, .w1c, 0⟩, ⟨5, 1, .w1c, 0⟩, ⟨4, 1, .w1c, 0⟩, ⟨3, 1, .w1c, 0⟩, ⟨2, 1, .w1c, 0⟩, ⟨1, 1, .w1c, 0⟩, ⟨0, 1, .w1c, 0⟩, ⟨15, 1, .w1c, 0⟩, ⟨14, 1, .w1c, 0⟩, ⟨13, 1, .w1c, 0⟩, ⟨12, 1, .w1c, 0⟩, ⟨11, 1, .w1c, 0⟩, ⟨10, 1, .w1c, 0⟩, ⟨9, 1, .w1c, 0⟩, ⟨8, 1, .w1c, 0⟩, ⟨23, 1, .w1c, 0⟩, ⟨22, 1, .w1c, 0⟩, ⟨21, 1, .w1c, 0⟩, ⟨20, 1, .w1c, 0⟩, ⟨19, 1, .w1c, 0⟩, ⟨18, 1, .w1c, 0⟩, ⟨17, 1, .w1c, 0⟩, ⟨16, 1, .w1c, 0⟩, ⟨31, 1, .w1c, 0⟩, ⟨30, 1, .w1c, 0⟩, ⟨29, 1, .w1c, 0⟩, ⟨28, 1, .w1c, 0⟩, ⟨27, 1, .w1c, 0⟩, ⟨26, 1, .w1c, 0⟩, ⟨25, 1, .w1c, 0⟩, ⟨24, 1, .w1c, 0⟩])] ++
  dupReg 0x08 4 [⟨47, 1, .rwl, 0⟩, ⟨39, 8, .rwl, 0⟩, ⟨30, 9, .rwl, 100⟩, ⟨26, 4, .rwl, 8⟩, ⟨24, 2, .rwl, 3⟩] ++
  [(0x0c, [⟨40, 8, .rwl, 85⟩, ⟨32, 8, .rwl, 0⟩, ⟨23, 9, .rwl, 256⟩])] ++
  dupReg 0x10 4 [⟨46, 2, .ro, 0⟩, ⟨45, 1, .ro, 1⟩, ⟨44, 1, .ro, 0⟩, ⟨43, 1, .ro, 0⟩, ⟨42, 1, .ro, 0⟩, ⟨40, 2, .ro, 0⟩, ⟨32, 8, .ro, 0⟩, ⟨24, 8, .ro, 0⟩, ⟨18, 6, .ro, 0⟩, ⟨0, 16, .w1c, 0⟩] ++
  dupReg 0x14 4 [⟨38, 10, .ro, 0⟩, ⟨28, 10, .ro, 1023⟩, ⟨18, 10, .ro, 0⟩, ⟨0, 16, .w1c, 0⟩] ++
  dupReg 0x18 4 [⟨38, 10, .rwl, 0⟩, ⟨28, 10, .rwl, 0⟩, ⟨20, 8, .rwl, 0⟩] ++
  dupReg 0x40 4 [⟨44, 4, .rwx, 4⟩, ⟨40, 4, .rwx, 8⟩, ⟨32, 8, .rwx, 64⟩, ⟨28, 4, .rwx, 4⟩, ⟨24, 4, .rwx, 1⟩, ⟨18, 6, .rwx, 20⟩]

/-- The registers of the KEY page, index and fields. -/
def keyRegs : List (Nat × List RegField) :=
  [(0x01, [⟨32, 16, .ro, 4096⟩, ⟨28, 4, .ro, 8⟩, ⟨19, 9, .ro, 511⟩])] ++
  [(0x02, [⟨45, 3, .rwl, 2⟩, ⟨42, 3, .rwl, 2⟩])] ++
  [(0x03, [⟨24, 8, .ro, 0⟩, ⟨16, 8, .ro, 0⟩, ⟨0, 13, .ro, 0⟩])] ++
  [(0x04, [⟨4, 1, .w1c, 0⟩, ⟨3, 1, .w1c, 0⟩, ⟨2, 1, .w1c, 0⟩, ⟨1, 1, .w1c, 0⟩, ⟨0, 1, .w1c, 0⟩])] ++
  dupReg 0x08 8 [⟨42, 6, .rwl, 8⟩, ⟨38, 4, .rwl, 7⟩, ⟨32, 6, .rwl, 24⟩, ⟨31, 1, .rwl, 0⟩] ++
  dupReg 0x10 8 [⟨40, 8, .rwl, 20⟩, ⟨32, 8, .rwl, 40⟩, ⟨30, 2, .rwl, 0⟩, ⟨22, 8, .rwl, 50⟩, ⟨16, 6, .rwl, 10⟩, ⟨8, 8, .rwl, 20⟩, ⟨7, 1, .rwl, 0⟩, ⟨6, 1, .rwl, 1⟩] ++
  dupReg 0x40 8 [⟨39, 9, .rwx, 10⟩, ⟨30, 9, .rwx, 20⟩, ⟨28, 2, .rwx, 0⟩, ⟨20, 8, .rwx, 50⟩, ⟨14, 6, .rwx, 10⟩, ⟨6, 8, .rwx, 20⟩, ⟨5, 1, .rwx, 0⟩, ⟨4, 1, .rwx, 1⟩]

/-- The registers of the GHOST page, index and fields. -/
def ghostRegs : List (Nat × List RegField) :=
  [(0x01, [⟨32, 16, .ro, 4096⟩, ⟨22, 10, .ro, 1000⟩, ⟨18, 4, .ro, 10⟩])] ++
  [(0x02, [⟨40, 8, .rwl, 0⟩, ⟨30, 10, .rwl, 250⟩])] ++
  [(0x03, [⟨19, 13, .ro, 0⟩, ⟨6, 13, .ro, 0⟩])] ++
  [(0x04, [⟨3, 1, .w1c, 0⟩, ⟨2, 1, .w1c, 0⟩, ⟨1, 1, .w1c, 0⟩, ⟨0, 1, .w1c, 0⟩])] ++
  [(0x08, [⟨47, 1, .ro, 0⟩, ⟨35, 12, .ro, 0⟩, ⟨31, 4, .ro, 0⟩, ⟨25, 6, .ro, 0⟩, ⟨23, 2, .ro, 0⟩])] ++
  [(0x09, [⟨47, 1, .ro, 0⟩, ⟨35, 12, .ro, 0⟩, ⟨25, 10, .ro, 1023⟩, ⟨15, 10, .ro, 1023⟩, ⟨14, 1, .ro, 0⟩])] ++
  [(0x40, [⟨42, 6, .rwx, 32⟩, ⟨34, 8, .rwx, 0⟩])] ++
  [(0x41, [⟨44, 4, .rwx, 12⟩, ⟨38, 6, .rwx, 8⟩, ⟨32, 6, .rwx, 16⟩])]

/-- The registers of the EVENT page, index and fields. -/
def eventRegs : List (Nat × List RegField) :=
  [(0x01, [⟨36, 12, .ro, 256⟩, ⟨32, 4, .ro, 8⟩])] ++
  [(0x02, [⟨47, 1, .rwl, 1⟩, ⟨39, 8, .rwl, 255⟩])] ++
  [(0x03, [⟨23, 9, .ro, 0⟩, ⟨14, 9, .ro, 0⟩, ⟨0, 14, .ro, 0⟩])] ++
  [(0x04, [⟨1, 1, .w1c, 0⟩, ⟨0, 1, .w1c, 0⟩])] ++
  [(0x08, [⟨0, 48, .ro, 0⟩])] ++
  [(0x09, [⟨0, 48, .ro, 0⟩])] ++
  [(0x0a, [⟨0, 48, .ro, 0⟩])] ++
  [(0x0b, [⟨0, 48, .ro, 0⟩])]

/-- The registers of the KLOCK page, index and fields. -/
def klockRegs : List (Nat × List RegField) :=
  [(0x01, [⟨44, 4, .ro, 8⟩, ⟨40, 4, .ro, 4⟩, ⟨36, 4, .ro, 4⟩])] ++
  [(0x02, [⟨40, 8, .rwl, 0⟩, ⟨32, 8, .rwl, 255⟩, ⟨26, 6, .rwl, 5⟩, ⟨16, 10, .rwl, 600⟩, ⟨8, 8, .rwl, 50⟩, ⟨0, 8, .rwl, 100⟩])] ++
  [(0x03, [⟨31, 1, .ro, 0⟩, ⟨30, 1, .ro, 0⟩, ⟨26, 4, .ro, 0⟩, ⟨22, 4, .ro, 0⟩, ⟨12, 10, .ro, 0⟩, ⟨8, 4, .ro, 0⟩, ⟨4, 4, .ro, 0⟩, ⟨3, 1, .ro, 0⟩])] ++
  [(0x04, [⟨4, 1, .w1c, 0⟩, ⟨3, 1, .w1c, 0⟩, ⟨2, 1, .w1c, 0⟩, ⟨1, 1, .w1c, 0⟩, ⟨0, 1, .w1c, 0⟩])] ++
  [(0x08, [⟨47, 1, .rwl, 0⟩, ⟨46, 1, .wo, 0⟩, ⟨45, 1, .wo, 0⟩])] ++
  [(0x09, [⟨0, 48, .wo, 0⟩])] ++
  [(0x0a, [⟨0, 48, .wo, 0⟩])] ++
  [(0x0b, [⟨0, 4, .wo, 0⟩])] ++
  dupReg 0x10 4 [⟨0, 48, .rwl, 0⟩] ++
  dupReg 0x14 4 [⟨47, 1, .rwl, 0⟩, ⟨46, 1, .rwl, 1⟩, ⟨44, 2, .rwl, 0⟩, ⟨42, 2, .rwl, 0⟩, ⟨34, 8, .rwl, 10⟩]

/-- The registers of the LEDGER page, index and fields. -/
def ledgerRegs : List (Nat × List RegField) :=
  [(0x01, [⟨34, 14, .ro, 6000⟩, ⟨30, 4, .ro, 4⟩, ⟨28, 2, .ro, 2⟩])] ++
  [(0x02, [⟨32, 16, .rwl, 65535⟩, ⟨16, 16, .rwl, 65535⟩, ⟨0, 16, .rwl, 6000⟩])] ++
  [(0x03, [⟨30, 2, .ro, 0⟩, ⟨29, 1, .ro, 0⟩, ⟨28, 1, .ro, 0⟩, ⟨27, 1, .ro, 0⟩, ⟨26, 1, .ro, 0⟩, ⟨12, 12, .ro, 0⟩])] ++
  [(0x04, [⟨5, 1, .w1c, 0⟩, ⟨4, 1, .w1c, 0⟩, ⟨3, 1, .w1c, 0⟩, ⟨2, 1, .w1c, 0⟩, ⟨1, 1, .w1c, 0⟩, ⟨0, 1, .w1c, 0⟩])] ++
  [(0x08, [⟨32, 16, .rwl, 65535⟩, ⟨23, 9, .rwl, 256⟩, ⟨12, 11, .rwl, 750⟩, ⟨1, 11, .rwl, 0⟩])] ++
  [(0x09, [⟨36, 12, .rwl, 2560⟩, ⟨24, 12, .rwl, 2816⟩, ⟨20, 4, .rwl, 8⟩, ⟨12, 8, .rwl, 20⟩, ⟨11, 1, .rwl, 0⟩, ⟨10, 1, .rwl, 0⟩, ⟨5, 5, .rwl, 10⟩])] ++
  [(0x0a, [⟨24, 24, .ro, 0⟩, ⟨0, 24, .ro, 0⟩])] ++
  [(0x0b, [⟨39, 9, .ro, 256⟩, ⟨30, 9, .ro, 256⟩, ⟨21, 9, .ro, 256⟩, ⟨12, 9, .ro, 256⟩, ⟨11, 1, .ro, 0⟩])] ++
  [(0x0c, [⟨0, 48, .ro, 0⟩])] ++
  [(0x0d, [⟨0, 48, .ro, 0⟩])] ++
  [(0x0e, [⟨1, 1, .wo, 0⟩, ⟨0, 1, .wo, 0⟩])]

/-- The registers of either ring page, index and fields. -/
def ringRegs : List (Nat × List RegField) :=
  [(0x01, [⟨36, 12, .ro, 960⟩, ⟨24, 12, .ro, 768⟩, ⟨16, 8, .ro, 120⟩, ⟨8, 8, .ro, 3⟩])] ++
  [(0x02, [⟨47, 1, .rwl, 0⟩, ⟨46, 1, .wo, 0⟩])] ++
  [(0x03, [⟨30, 2, .ro, 0⟩, ⟨28, 2, .ro, 0⟩, ⟨27, 1, .ro, 0⟩, ⟨26, 1, .ro, 0⟩, ⟨25, 1, .ro, 0⟩, ⟨24, 1, .ro, 0⟩, ⟨23, 1, .ro, 0⟩, ⟨16, 7, .ro, 127⟩, ⟨9, 7, .ro, 0⟩, ⟨8, 1, .ro, 0⟩, ⟨7, 1, .ro, 0⟩, ⟨6, 1, .ro, 0⟩, ⟨3, 3, .ro, 0⟩])] ++
  [(0x04, [⟨10, 1, .w1c, 0⟩, ⟨9, 1, .w1c, 0⟩, ⟨8, 1, .w1c, 0⟩, ⟨7, 1, .w1c, 0⟩, ⟨6, 1, .w1c, 0⟩, ⟨5, 1, .w1c, 0⟩, ⟨4, 1, .w1c, 0⟩, ⟨3, 1, .w1c, 0⟩, ⟨2, 1, .w1c, 0⟩, ⟨1, 1, .w1c, 0⟩, ⟨0, 1, .w1c, 0⟩])] ++
  [(0x08, [⟨36, 12, .ro, 0⟩, ⟨24, 12, .ro, 0⟩, ⟨12, 12, .ro, 0⟩, ⟨0, 12, .ro, 0⟩])] ++
  [(0x09, [⟨24, 24, .ro, 0⟩, ⟨23, 1, .ro, 0⟩, ⟨0, 20, .ro, 0⟩])] ++
  [(0x40, [⟨46, 2, .rwx, 1⟩, ⟨44, 2, .rwx, 1⟩, ⟨40, 4, .rwx, 0⟩])]

/-- The registers of the RINGA page, index and fields. -/
def ringBypassRegs : List (Nat × List RegField) :=
  [(0x0c, [⟨46, 2, .ro, 0⟩, ⟨45, 1, .rwl, 0⟩, ⟨44, 1, .rwl, 0⟩, ⟨42, 2, .ro, 0⟩, ⟨0, 28, .rwl, 0⟩])]

/-- The registers of the HIVE page, index and fields. -/
def hiveRegs : List (Nat × List RegField) :=
  [(0x03, [⟨16, 16, .ro, 0⟩, ⟨15, 1, .ro, 0⟩, ⟨13, 2, .ro, 0⟩, ⟨9, 4, .ro, 0⟩, ⟨8, 1, .ro, 0⟩, ⟨0, 7, .ro, 0⟩])] ++
  [(0x04, [⟨3, 1, .w1c, 0⟩, ⟨2, 1, .w1c, 0⟩, ⟨1, 1, .w1c, 0⟩, ⟨0, 1, .w1c, 0⟩, ⟨17, 1, .w1c, 0⟩, ⟨16, 1, .w1c, 0⟩, ⟨15, 1, .w1c, 0⟩, ⟨14, 1, .w1c, 0⟩, ⟨13, 1, .w1c, 0⟩, ⟨12, 1, .w1c, 0⟩, ⟨11, 1, .w1c, 0⟩, ⟨10, 1, .w1c, 0⟩, ⟨9, 1, .w1c, 0⟩, ⟨8, 1, .w1c, 0⟩, ⟨7, 1, .w1c, 0⟩, ⟨6, 1, .w1c, 0⟩, ⟨5, 1, .w1c, 0⟩])] ++
  [(0x08, [⟨16, 32, .rwl, 0⟩])] ++
  [(0x09, [⟨28, 20, .ro, 0⟩, ⟨0, 28, .ro, 0⟩])] ++
  [(0x0a, [⟨45, 3, .ro, 0⟩, ⟨44, 1, .ro, 0⟩, ⟨43, 1, .ro, 0⟩, ⟨42, 1, .rwl, 1⟩, ⟨35, 7, .ro, 127⟩, ⟨25, 10, .ro, 0⟩, ⟨13, 12, .ro, 0⟩])] ++
  [(0x0b, [⟨47, 1, .rwl, 0⟩, ⟨46, 1, .rwl, 0⟩, ⟨45, 1, .wo, 0⟩, ⟨38, 7, .ro, 0⟩, ⟨31, 7, .rwl, 1⟩, ⟨23, 8, .rwl, 10⟩, ⟨20, 3, .rwl, 3⟩, ⟨4, 16, .rwl, 0⟩])] ++
  dupReg 0x0c 3 [⟨0, 48, .ro, 0⟩] ++
  [(0x0f, [⟨44, 4, .ro, 0⟩, ⟨40, 4, .ro, 0⟩, ⟨37, 3, .ro, 0⟩, ⟨33, 4, .ro, 0⟩, ⟨29, 4, .ro, 0⟩, ⟨17, 12, .ro, 0⟩, ⟨1, 16, .ro, 0⟩])] ++
  [(0x10, [⟨36, 12, .ro, 0⟩, ⟨32, 4, .ro, 0⟩, ⟨24, 8, .ro, 0⟩, ⟨16, 8, .ro, 0⟩, ⟨8, 8, .ro, 0⟩, ⟨0, 8, .ro, 0⟩])] ++
  [(0x11, [⟨36, 12, .rw, 0⟩, ⟨26, 10, .rw, 0⟩, ⟨0, 1, .wo, 0⟩])] ++
  [(0x12, [⟨47, 1, .ro, 0⟩, ⟨44, 3, .ro, 0⟩, ⟨32, 12, .ro, 0⟩])] ++
  [(0x13, [⟨34, 14, .ro, 0⟩, ⟨20, 14, .rw, 0⟩])] ++
  [(0x14, [⟨41, 7, .ro, 0⟩, ⟨29, 12, .ro, 0⟩])]

/-- The registers of the CLOCK page, index and fields. -/
def clockRegs : List (Nat × List RegField) :=
  [(0x01, [⟨40, 8, .ro, 24⟩, ⟨36, 4, .ro, 8⟩, ⟨32, 4, .ro, 4⟩, ⟨24, 8, .ro, 25⟩, ⟨20, 4, .ro, 5⟩])] ++
  [(0x02, [⟨46, 2, .rwl, 0⟩])] ++
  [(0x03, [⟨30, 2, .ro, 0⟩, ⟨29, 1, .ro, 0⟩, ⟨28, 1, .ro, 0⟩, ⟨27, 1, .ro, 0⟩, ⟨26, 1, .ro, 0⟩, ⟨25, 1, .ro, 1⟩, ⟨22, 3, .ro, 0⟩, ⟨19, 3, .ro, 7⟩, ⟨18, 1, .ro, 0⟩])] ++
  [(0x04, [⟨8, 1, .w1c, 0⟩, ⟨7, 1, .w1c, 0⟩, ⟨6, 1, .w1c, 0⟩, ⟨5, 1, .w1c, 0⟩, ⟨4, 1, .w1c, 0⟩, ⟨3, 1, .w1c, 0⟩, ⟨2, 1, .w1c, 0⟩, ⟨1, 1, .w1c, 0⟩, ⟨0, 1, .w1c, 0⟩])] ++
  [(0x08, [⟨47, 1, .rwl, 1⟩, ⟨39, 8, .rwl, 255⟩, ⟨38, 1, .rwl, 1⟩, ⟨37, 1, .rwl, 1⟩, ⟨36, 1, .rwl, 1⟩, ⟨35, 1, .rwl, 1⟩, ⟨34, 1, .rwl, 1⟩, ⟨33, 1, .rwl, 1⟩, ⟨32, 1, .rwl, 1⟩, ⟨31, 1, .rwl, 1⟩, ⟨23, 8, .rwl, 255⟩])] ++
  [(0x09, [⟨46, 2, .ro, 0⟩, ⟨44, 2, .rwl, 0⟩, ⟨42, 2, .ro, 0⟩, ⟨41, 1, .ro, 0⟩, ⟨39, 2, .ro, 0⟩])] ++
  [(0x0a, [⟨46, 2, .rwl, 0⟩, ⟨44, 2, .rwl, 1⟩, ⟨42, 2, .rwl, 2⟩, ⟨40, 2, .rwl, 3⟩, ⟨32, 8, .rwl, 1⟩, ⟨24, 8, .rwl, 1⟩, ⟨16, 8, .rwl, 1⟩])] ++
  [(0x0b, [⟨45, 3, .ro, 0⟩, ⟨43, 2, .ro, 0⟩, ⟨42, 1, .ro, 0⟩, ⟨41, 1, .ro, 0⟩])] ++
  [(0x0c, [⟨40, 8, .ro, 0⟩, ⟨32, 8, .ro, 0⟩, ⟨24, 8, .ro, 0⟩, ⟨16, 8, .ro, 0⟩, ⟨0, 1, .wo, 0⟩])]

/-- The registers of the CONFIG page, index and fields. -/
def configRegs : List (Nat × List RegField) :=
  [(0x01, [⟨44, 4, .ro, 8⟩, ⟨38, 6, .ro, 48⟩, ⟨29, 9, .ro, 256⟩, ⟨17, 12, .ro, 3072⟩, ⟨13, 4, .ro, 13⟩])] ++
  [(0x04, [⟨5, 1, .w1c, 0⟩, ⟨4, 1, .w1c, 0⟩, ⟨3, 1, .w1c, 0⟩, ⟨2, 1, .w1c, 0⟩, ⟨1, 1, .w1c, 0⟩, ⟨0, 1, .w1c, 0⟩])] ++
  [(0x08, [⟨32, 16, .ro, 0⟩, ⟨29, 3, .ro, 0⟩, ⟨28, 1, .ro, 0⟩, ⟨25, 3, .ro, 0⟩, ⟨22, 3, .ro, 0⟩])] ++
  [(0x09, [⟨45, 3, .rwl, 0⟩, ⟨44, 1, .rwl, 0⟩, ⟨0, 1, .wo, 0⟩])] ++
  [(0x0a, [⟨37, 11, .rwl, 0⟩, ⟨34, 3, .rwl, 0⟩, ⟨0, 1, .wo, 0⟩])] ++
  [(0x0b, [⟨44, 4, .ro, 0⟩, ⟨40, 4, .ro, 0⟩, ⟨37, 3, .ro, 0⟩, ⟨36, 1, .ro, 0⟩, ⟨22, 14, .ro, 0⟩])] ++
  [(0x0c, [⟨36, 12, .rwl, 3216⟩, ⟨24, 12, .rwl, 800⟩])] ++
  dupReg 0x10 8 [⟨0, 48, .ro, 0⟩]

/-- The registers of the FABRIC page, index and fields. -/
def fabricRegs : List (Nat × List RegField) :=
  [(0x01, [⟨30, 18, .ro, 147456⟩, ⟨22, 8, .ro, 192⟩, ⟨15, 7, .ro, 96⟩, ⟨8, 7, .ro, 32⟩, ⟨0, 8, .ro, 32⟩])] ++
  [(0x03, [⟨30, 2, .ro, 1⟩, ⟨22, 8, .ro, 0⟩, ⟨16, 6, .ro, 0⟩, ⟨10, 6, .ro, 32⟩])] ++
  [(0x04, [⟨5, 1, .w1c, 0⟩, ⟨4, 1, .w1c, 0⟩, ⟨3, 1, .w1c, 0⟩, ⟨2, 1, .w1c, 0⟩, ⟨1, 1, .w1c, 0⟩, ⟨0, 1, .w1c, 0⟩])] ++
  [(0x08, [⟨0, 1, .wo, 0⟩])] ++
  [(0x09, [⟨36, 12, .rwl, 0⟩, ⟨0, 1, .wo, 0⟩])] ++
  [(0x0a, [⟨47, 1, .ro, 0⟩, ⟨35, 12, .ro, 0⟩, ⟨32, 3, .ro, 0⟩, ⟨0, 32, .ro, 0⟩])] ++
  [(0x10, [⟨47, 1, .rwl, 1⟩, ⟨35, 12, .rwl, 0⟩, ⟨23, 12, .rwl, 4095⟩])] ++ dupReg 0x11 7 [⟨47, 1, .rwl, 0⟩, ⟨35, 12, .rwl, 0⟩, ⟨23, 12, .rwl, 0⟩] ++
  [(0x18, [⟨47, 1, .ro, 0⟩, ⟨0, 1, .wo, 0⟩])] ++
  [(0x19, [⟨47, 1, .ro, 0⟩, ⟨46, 1, .ro, 0⟩, ⟨45, 1, .ro, 0⟩, ⟨0, 29, .ro, 0⟩])]

/-- The registers of the SCRUB page, index and fields. -/
def scrubRegs : List (Nat × List RegField) :=
  [(0x01, [⟨31, 17, .ro, 98304⟩, ⟨23, 8, .ro, 80⟩])] ++
  [(0x02, [⟨45, 3, .rwl, 0⟩, ⟨43, 2, .rwl, 0⟩, ⟨40, 3, .rwl, 0⟩, ⟨39, 1, .rwl, 0⟩, ⟨38, 1, .rwl, 0⟩, ⟨37, 1, .rwl, 0⟩])] ++
  [(0x03, [⟨31, 1, .ro, 0⟩, ⟨30, 1, .ro, 0⟩, ⟨27, 3, .ro, 0⟩, ⟨21, 6, .ro, 0⟩, ⟨13, 8, .ro, 0⟩])] ++
  [(0x04, [⟨8, 1, .w1c, 0⟩, ⟨7, 1, .w1c, 0⟩, ⟨6, 1, .w1c, 0⟩, ⟨5, 1, .w1c, 0⟩, ⟨4, 1, .w1c, 0⟩, ⟨3, 1, .w1c, 0⟩, ⟨2, 1, .w1c, 0⟩, ⟨1, 1, .w1c, 0⟩, ⟨0, 1, .w1c, 0⟩])] ++
  [(0x08, [⟨47, 1, .ro, 0⟩, ⟨44, 3, .ro, 0⟩, ⟨43, 1, .ro, 0⟩, ⟨42, 1, .ro, 0⟩, ⟨39, 3, .ro, 0⟩, ⟨25, 14, .ro, 0⟩, ⟨13, 12, .ro, 0⟩])] ++
  [(0x09, [⟨32, 16, .ro, 0⟩, ⟨16, 16, .ro, 0⟩, ⟨8, 8, .ro, 0⟩, ⟨0, 8, .ro, 0⟩])] ++
  [(0x0a, [⟨16, 32, .ro, 0⟩, ⟨0, 1, .wo, 0⟩])]

/-- The registers of the STORE page, index and fields. -/
def storeRegs : List (Nat × List RegField) :=
  [(0x01, [⟨36, 12, .ro, 2048⟩, ⟨24, 12, .ro, 1792⟩, ⟨7, 17, .ro, 100000⟩])] ++
  [(0x03, [⟨21, 11, .ro, 0⟩, ⟨10, 11, .ro, 0⟩, ⟨0, 10, .ro, 0⟩])] ++
  [(0x04, [⟨4, 1, .w1c, 0⟩, ⟨3, 1, .w1c, 0⟩, ⟨2, 1, .w1c, 0⟩, ⟨1, 1, .w1c, 0⟩, ⟨0, 1, .w1c, 0⟩])] ++
  [(0x08, [⟨37, 11, .rwl, 0⟩, ⟨33, 4, .rwl, 0⟩, ⟨32, 1, .rwl, 0⟩, ⟨0, 1, .wo, 0⟩])]

/-- The registers of the UPDATE page, index and fields. -/
def updateRegs : List (Nat × List RegField) :=
  [(0x01, [⟨35, 13, .ro, 4096⟩, ⟨30, 5, .ro, 16⟩])] ++
  [(0x02, [⟨47, 1, .rwl, 0⟩])] ++
  [(0x03, [⟨29, 3, .ro, 0⟩, ⟨25, 4, .ro, 0⟩, ⟨23, 2, .ro, 0⟩, ⟨22, 1, .ro, 0⟩, ⟨21, 1, .ro, 0⟩, ⟨20, 1, .ro, 0⟩])] ++
  [(0x04, [⟨6, 1, .w1c, 0⟩, ⟨5, 1, .w1c, 0⟩, ⟨4, 1, .w1c, 0⟩, ⟨3, 1, .w1c, 0⟩, ⟨2, 1, .w1c, 0⟩, ⟨1, 1, .w1c, 0⟩, ⟨0, 1, .w1c, 0⟩])] ++
  [(0x08, [⟨16, 32, .ro, 0⟩, ⟨0, 13, .ro, 0⟩])] ++
  [(0x09, [⟨35, 13, .ro, 0⟩, ⟨22, 13, .ro, 0⟩, ⟨9, 13, .ro, 0⟩])] ++
  [(0x0a, [⟨4, 1, .wo, 0⟩, ⟨3, 1, .wo, 0⟩, ⟨2, 1, .wo, 0⟩, ⟨1, 1, .wo, 0⟩, ⟨0, 1, .wo, 0⟩])] ++
  [(0x0b, [⟨44, 4, .ro, 0⟩, ⟨28, 16, .ro, 0⟩])] ++
  [(0x0d, [⟨47, 1, .ro, 0⟩, ⟨46, 1, .ro, 0⟩, ⟨43, 3, .ro, 0⟩, ⟨11, 32, .ro, 0⟩])] ++
  [(0x0e, [⟨47, 1, .rwl, 0⟩, ⟨36, 11, .rwl, 0⟩])]

/-- The registers of the XMEM page, index and fields. -/
def xmemRegs : List (Nat × List RegField) :=
  [(0x01, [⟨40, 8, .ro, 200⟩, ⟨35, 5, .ro, 29⟩, ⟨32, 3, .ro, 2⟩])] ++
  [(0x02, [⟨47, 1, .rwl, 0⟩, ⟨45, 2, .rwl, 0⟩])] ++
  [(0x03, [⟨31, 1, .ro, 0⟩, ⟨30, 1, .ro, 0⟩, ⟨29, 1, .ro, 0⟩, ⟨16, 13, .ro, 0⟩, ⟨12, 4, .ro, 0⟩])] ++
  [(0x04, [⟨4, 1, .w1c, 0⟩, ⟨3, 1, .w1c, 0⟩, ⟨2, 1, .w1c, 0⟩, ⟨1, 1, .w1c, 0⟩, ⟨0, 1, .w1c, 0⟩])] ++
  dupReg 0x08 2 [⟨47, 1, .rwl, 0⟩, ⟨46, 1, .rwl, 0⟩, ⟨41, 5, .rwl, 20⟩, ⟨33, 8, .rwl, 238⟩, ⟨25, 8, .rwl, 18⟩, ⟨17, 8, .rwl, 220⟩, ⟨12, 5, .rwl, 20⟩] ++
  [(0x0a, [⟨40, 8, .rwl, 0⟩, ⟨39, 1, .rwl, 0⟩, ⟨38, 1, .rwl, 0⟩, ⟨37, 1, .rwl, 0⟩, ⟨34, 3, .rwl, 0⟩, ⟨2, 32, .rw, 0⟩, ⟨1, 1, .ro, 0⟩, ⟨0, 1, .wo, 0⟩])] ++
  [(0x0b, [⟨47, 1, .rwl, 0⟩, ⟨0, 32, .rwl, 0⟩])] ++
  [(0x0c, [⟨0, 29, .rwl, 0⟩])] ++
  [(0x10, [⟨47, 1, .rwl, 1⟩, ⟨34, 13, .rwl, 0⟩, ⟨21, 13, .rwl, 8191⟩])] ++ dupReg 0x11 7 [⟨47, 1, .rwl, 0⟩, ⟨34, 13, .rwl, 0⟩, ⟨21, 13, .rwl, 0⟩]

/-- The registers of the CRYPT page, index and fields. -/
def cryptRegs : List (Nat × List RegField) :=
  [(0x01, [⟨34, 14, .ro, 8192⟩, ⟨30, 4, .ro, 0⟩, ⟨16, 14, .ro, 16383⟩])] ++
  [(0x03, [⟨31, 1, .ro, 0⟩, ⟨18, 13, .ro, 0⟩, ⟨4, 14, .ro, 0⟩])] ++
  [(0x04, [⟨3, 1, .w1c, 0⟩, ⟨2, 1, .w1c, 0⟩, ⟨1, 1, .w1c, 0⟩, ⟨0, 1, .w1c, 0⟩])] ++
  [(0x08, [⟨35, 13, .rwl, 0⟩, ⟨22, 13, .rwl, 0⟩, ⟨21, 1, .rwl, 0⟩, ⟨0, 1, .wo, 0⟩])]

/-- The registers of the TWI page, index and fields. -/
def twiRegs : List (Nat × List RegField) :=
  [(0x01, [⟨38, 10, .ro, 1000⟩, ⟨34, 4, .ro, 15⟩, ⟨28, 6, .ro, 63⟩, ⟨21, 7, .ro, 48⟩])] ++
  [(0x02, [⟨44, 4, .rwl, 10⟩, ⟨38, 6, .rwl, 24⟩, ⟨37, 1, .rwl, 0⟩])] ++
  [(0x03, [⟨29, 3, .ro, 7⟩, ⟨25, 4, .ro, 0⟩, ⟨19, 6, .ro, 0⟩, ⟨11, 8, .ro, 0⟩, ⟨8, 3, .ro, 0⟩, ⟨7, 1, .ro, 1⟩])] ++
  [(0x04, [⟨5, 1, .w1c, 0⟩, ⟨4, 1, .w1c, 0⟩, ⟨3, 1, .w1c, 0⟩, ⟨2, 1, .w1c, 0⟩, ⟨1, 1, .w1c, 0⟩, ⟨0, 1, .w1c, 0⟩])]

/-- The registers of the SELFTEST page, index and fields. -/
def selftestRegs : List (Nat × List RegField) :=
  [(0x02, [⟨47, 1, .rwl, 1⟩])] ++
  [(0x03, [⟨23, 9, .ro, 0⟩])] ++
  [(0x04, [⟨3, 1, .w1c, 0⟩, ⟨2, 1, .w1c, 0⟩, ⟨1, 1, .w1c, 0⟩, ⟨0, 1, .w1c, 0⟩])] ++
  [(0x08, [⟨43, 5, .rwl, 0⟩, ⟨16, 24, .rwl, 0⟩, ⟨0, 1, .wo, 0⟩])]

/-- The registers of the FAULT page, index and fields. -/
def faultRegs : List (Nat × List RegField) :=
  [(0x03, [⟨25, 7, .ro, 0⟩, ⟨18, 7, .ro, 0⟩])] ++
  [(0x04, [⟨3, 1, .w1c, 0⟩, ⟨2, 1, .w1c, 0⟩, ⟨1, 1, .w1c, 0⟩, ⟨0, 1, .w1c, 0⟩])] ++
  [(0x08, [⟨45, 3, .rwl, 0⟩, ⟨39, 6, .rwl, 0⟩, ⟨0, 1, .wo, 0⟩])] ++
  [(0x09, [⟨1, 1, .wo, 0⟩, ⟨0, 1, .wo, 0⟩])]

/-- The registers of the THERM page, index and fields. -/
def thermRegs : List (Nat × List RegField) :=
  [(0x01, [⟨44, 4, .ro, 8⟩, ⟨40, 4, .ro, 2⟩, ⟨32, 8, .ro, 140⟩])] ++
  [(0x02, [⟨36, 12, .rwl, 3435⟩, ⟨28, 8, .rwl, 40⟩, ⟨16, 12, .rwl, 3435⟩, ⟨8, 8, .rwl, 40⟩])] ++
  [(0x03, [⟨30, 2, .ro, 0⟩, ⟨28, 2, .ro, 0⟩, ⟨20, 8, .ro, 0⟩])] ++
  [(0x04, [⟨3, 1, .w1c, 0⟩, ⟨2, 1, .w1c, 0⟩, ⟨1, 1, .w1c, 0⟩, ⟨0, 1, .w1c, 0⟩])] ++
  [(0x08, [⟨40, 8, .ro, 0⟩, ⟨32, 8, .ro, 0⟩, ⟨20, 12, .ro, 0⟩, ⟨8, 12, .ro, 0⟩])] ++
  [(0x09, [⟨16, 32, .ro, 0⟩])] ++
  [(0x0a, [⟨16, 32, .ro, 0⟩])]

/-- The fields that every page's register at one of the common indexes has (R65, R69 to R75, R83): PAGE_ID's constants stand in
`pageId`, PAGE_SEL is a view of the two-wire port's page, the window is served apart. -/
def commonFields : Nat → List RegField
  | 0x03 => [⟨47, 1, .ro, 0⟩, ⟨46, 1, .ro, 0⟩, ⟨45, 1, .ro, 0⟩, ⟨44, 1, .ro, 0⟩]
  | 0x04 => [⟨47, 1, .w1c, 0⟩, ⟨46, 1, .w1c, 0⟩, ⟨45, 1, .w1c, 0⟩, ⟨44, 1, .w1c, 0⟩, ⟨43, 1, .w1c, 0⟩]
  | 0x05 => [⟨40, 8, .ro, 0xFF⟩, ⟨32, 8, .ro, 0⟩, ⟨0, 32, .ro, 0⟩]
  | 0x06 => [⟨47, 1, .ro, 0⟩, ⟨2, 1, .rwl, 0⟩, ⟨1, 1, .rwl, 0⟩, ⟨0, 1, .rwl, 0⟩]
  | 0x07 => [⟨0, 1, .rwl, 0⟩]
  | _ => []

/-- The block's own registers of a page; none where the page is reserved (R63). -/
def pageRegs : Nat → Option (List (Nat × List RegField))
  | 0x00 => some deviceRegs
  | 0x01 => some clockRegs
  | 0x02 => some ledgerRegs
  | 0x03 => some (ringRegs ++ ringBypassRegs)
  | 0x04 => some ringRegs
  | 0x05 => some hiveRegs
  | 0x06 => some twiRegs
  | 0x08 => some groupRegs
  | 0x09 => some groupRegs
  | 0x0A => some groupRegs
  | 0x0B => some groupRegs
  | 0x0C => some groupRegs
  | 0x0D => some groupRegs
  | 0x0E => some groupRegs
  | 0x0F => some groupRegs
  | 0x10 => some combRegs
  | 0x11 => some frameRegs
  | 0x12 => some calibRegs
  | 0x13 => some lcdbRegs
  | 0x14 => some stringRegs
  | 0x15 => some thermRegs
  | 0x18 => some keyRegs
  | 0x19 => some ghostRegs
  | 0x1A => some eventRegs
  | 0x1B => some klockRegs
  | 0x28 => some configRegs
  | 0x29 => some scrubRegs
  | 0x2A => some storeRegs
  | 0x2B => some updateRegs
  | 0x2C => some cryptRegs
  | 0x2D => some xmemRegs
  | 0x30 => some selftestRegs
  | 0x31 => some faultRegs
  | 0x38 => some fabricRegs
  | _ => none

/-- The block's fields at an index of a page's list; none where the list has no such index. -/
def findReg : List (Nat × List RegField) → Nat → Option (List RegField)
  | [], _ => none
  | (i, fs) :: r, k => if k = i then some fs else findReg r k

/-- The fields of the register at an address, the common ones with the block's; none at a reserved index or page (R65). The
indexes 0x00 to 0x07 exist on every page that is not reserved. DESIGN CHOICE: so do CAPS and BASIC on a page whose chapter lays down none, where
a write raises no INDEX_INVALID. -/
def regFields (a : Nat) : Option (List RegField) :=
  match pageRegs (a / 256) with
  | none => none
  | some rs =>
    match findReg rs (a % 256) with
    | some fs => some (commonFields (a % 256) ++ fs)
    | none => if a % 256 ≤ 7 then some (commonFields (a % 256)) else none

/-- The bits of a register's fields whose access type satisfies `p`. -/
def accessMask (p : Access → Bool) : List RegField → Word
  | [] => 0
  | f :: r => (if p f.access then fieldMask f.lo f.width else 0) ||| accessMask p r

/-- The word that a list of fields holds at reset. -/
def fieldsReset : List RegField → Word
  | [] => 0
  | f :: r => (fieldMask f.lo f.width &&& (BitVec.ofNat 48 f.reset <<< f.lo)) ||| fieldsReset r

/-- What the register file holds at an address after power-on reset (R8). -/
def regReset (a : Nat) : Word :=
  match regFields a with
  | none => 0
  | some fs => fieldsReset fs

/-- Whether a page has expert registers (R594). -/
def hasExpert (page : Nat) : Bool :=
  decide (page ∈ [0x03, 0x04, 0x08, 0x09, 0x0A, 0x0B, 0x0C, 0x0D, 0x0E, 0x0F, 0x10, 0x13, 0x14, 0x18, 0x19])

/-- Whether a page has a table behind its window (R594). -/
def hasWindow (page : Nat) : Bool :=
  decide (page ∈ [0x02, 0x05, 0x10, 0x11, 0x12, 0x13, 0x14, 0x18, 0x19, 0x28, 0x2A, 0x2B, 0x2C, 0x2D, 0x30, 0x31, 0x38])

/-- The four-character code of a page in ASCII (R594). -/
def pageName : Nat → Nat
  | 0x00 => 0x44455649
  | 0x01 => 0x434C4F43
  | 0x02 => 0x4C454447
  | 0x03 => 0x524E4741
  | 0x04 => 0x524E4742
  | 0x05 => 0x48495645
  | 0x06 => 0x54574920
  | 0x08 => 0x47525030
  | 0x09 => 0x47525031
  | 0x0A => 0x47525032
  | 0x0B => 0x47525033
  | 0x0C => 0x47525034
  | 0x0D => 0x47525035
  | 0x0E => 0x47525036
  | 0x0F => 0x47525037
  | 0x10 => 0x434F4D42
  | 0x11 => 0x4652414D
  | 0x12 => 0x43414C49
  | 0x13 => 0x4C434442
  | 0x14 => 0x53545249
  | 0x15 => 0x54484552
  | 0x18 => 0x4B455920
  | 0x19 => 0x47484F53
  | 0x1A => 0x4556454E
  | 0x1B => 0x4B4C4F43
  | 0x28 => 0x434F4E46
  | 0x29 => 0x53435255
  | 0x2A => 0x53544F52
  | 0x2B => 0x55504441
  | 0x2C => 0x43525950
  | 0x2D => 0x584D454D
  | 0x30 => 0x53454C46
  | 0x31 => 0x4641554C
  | 0x38 => 0x46414252
  | _ => 0

/-- Whether a page is reserved (R63). -/
def reservedPage (page : Nat) : Bool := (pageRegs page).isNone

/-- PAGE_ID of a page (R67, R594); 0 on a reserved page (R64). -/
def pageId (page : Nat) : Word :=
  if reservedPage page then 0
  else packWord [(40, 8, page), (36, 4, 1), (35, 1, b2n (hasExpert page)), (34, 1, b2n (hasWindow page)), (0, 32, pageName page)]

end Sys2Proof.Machine
end

