-- ==== Sys2Proof/Machine/Table.lean ====
section
/-! DEFINITION. A sparse table of words or records in one canonical form: keys strictly rising, and no entry equal to what an
unlisted key reads as. The register file, the memory layer, the external memory and every large table of the part are held so. -/
namespace Sys2Proof.Machine

/-- A sparse table: (key, value) pairs. What an unlisted key reads as is the default `d` given to each operation. -/
abbrev Table (α : Type) := List (Nat × α)

/-- The value at key `k`. -/
def Table.get {α : Type} (d : Nat → α) (t : Table α) (k : Nat) : α :=
  match t.find? fun e => e.1 == k with
  | some e => e.2
  | none => d k

/-- The entries of the keys that pass a test. -/
def Table.keys {α : Type} (p : Nat → Bool) (t : Table α) : Table α := t.filter fun e => p e.1

/-- The table with `v` at key `k`, in canonical form: a value that an unlisted key reads as is not listed. -/
def Table.put {α : Type} [DecidableEq α] (d : Nat → α) (t : Table α) (k : Nat) (v : α) : Table α :=
  t.keys (fun j => decide (j < k)) ++ (if v = d k then [] else [(k, v)]) ++ t.keys fun j => decide (k < j)

/-- Writes a run of values from key `k` upwards. -/
def Table.putList {α : Type} [DecidableEq α] (d : Nat → α) (t : Table α) (k : Nat) : List α → Table α
  | [] => t
  | v :: vs => Table.putList d (Table.put d t k v) (k + 1) vs

/-- The values of `n` keys from `k` upwards. -/
def Table.getRun {α : Type} (d : Nat → α) (t : Table α) (k n : Nat) : List α :=
  (List.range n).map fun i => Table.get d t (k + i)

/-- The canonical form: the keys rise strictly, and no value is its key's default. -/
def Table.wf {α : Type} [DecidableEq α] (d : Nat → α) (t : Table α) : Bool :=
  decide (t.Pairwise fun a b => a.1 < b.1) && t.all fun e => decide (e.2 ≠ d e.1)

end Sys2Proof.Machine
end

