-- ==== Sys2Proof/Machine/State.lean ====
section
/-! DEFINITION. The state of the part as plain data: the register file, the time, and block by block what the chapters give the part
beside its registers. Every field names the rule that gives it; `State.reset` is the part right after power-on reset. -/
namespace Sys2Proof.Machine

/-- A reason to stop with a fault. -/
inductive Fault where
  /-- Raised by no meaning: the spec describes no condition on which the block stops answering its commands, and the operand types
  of `Instr` name only parts that the device has. The interface asks for a fault type. Safe. -/
  | noSuchPart
  deriving DecidableEq, Repr

/-- A reason to refuse a command. -/
inductive Refusal where
  /-- Raised by an arm of exec whose command has no meaning yet. Safe. -/
  | notModelled (mnemonic : String)
  deriving DecidableEq, Repr

/-! ### The commit point (R22 to R31) -/

/-- A local commit set (R23): its members, and whether the freeze point of the coming commit clock has taken it. -/
structure LocalSet where
  swap : Bool
  /-- Bit g set: the frame buffers of group g flip. -/
  flips : Nat
  ctx : Option Nat
  /-- Submitted through DEVICE.COMMIT_CTRL. -/
  bound : Bool
  frozen : Bool
  deriving DecidableEq, Repr

/-- The commit point. -/
structure CommitState where
  /-- Local sets that wait, oldest first (R23). Reset: none. -/
  sets : List LocalSet := []
  /-- The freeze point of the coming commit clock has passed (R28). Reset: no. -/
  frozen : Bool := false
  /-- The armed hive commit was due when the sets were frozen (R25, R27). Reset: no. -/
  hiveDue : Bool := false
  /-- The shadow bank was PASSED at the freeze point (R26, R117). Reset: no. -/
  combOk : Bool := false
  /-- A write reached the shadow bank since the freeze point (R26, R124). Reset: no. -/
  busySwap : Bool := false
  /-- Groups whose back buffer a write reached since the freeze point (R134). Reset: none. -/
  busyFlips : Nat := 0
  /-- Contexts a frame of which was written since the freeze point (R26). Reset: none. -/
  busyCtx : List Nat := []
  /-- The scan-frame count, 32 bits (R31). Reset: 0. -/
  frameCount : Nat := 0
  /-- Local tck of the last commit clock (R25). Reset: none. -/
  last : Option Nat := none
  deriving DecidableEq, Repr

/-! ### The comb (R95 to R129) -/

/-- A long operation of the comb page that runs. -/
inductive CombOp where
  | none
  | load (tile : Nat) (lockHive : Bool)
  | copy
  deriving DecidableEq, Repr

/-- The comb beside its registers. -/
structure CombState where
  /-- Cells of both banks, 48 bits each; key 512 × bank + cell (R95). Reset: every cell 0. -/
  cells : Table Word := []
  /-- Periods of bank 0 and bank 1 in tck, 24 bits (R106). Reset: 0. -/
  period0 : Nat := 0
  period1 : Nat := 0
  /-- The period set by the last load: what SHADOW_PERIOD derives to at basic level (R125). Reset: 0. -/
  loadPeriod : Nat := 0
  /-- The shadow bank, and the active bank, passed a check, and no write of the bank, no later failure and no change of R114 has ended its
  pass (R114, R116). Reset: no. -/
  shadowPassed : Bool := false
  activePassed : Bool := false
  /-- Group kinds (bit g) the shadow bank and the active bank were checked with (R172, R186). Reset: 0. -/
  shadowKinds : Nat := 0
  activeKinds : Nat := 0
  /-- DUTY fields (4 bits per group) the shadow bank and the active bank were checked with (R186). Reset: 0. -/
  shadowDuties : Nat := 0
  activeDuties : Nat := 0
  /-- SHADOW_STATE before FILLING (R116). Reset: UNCHECKED. -/
  priorState : Nat := 0
  /-- The load or copy that runs (R120, R121). Reset: none. -/
  op : CombOp := .none
  /-- Local tck at which the cell now driving began, and at which the scan frame began (R102). Reset: 0. -/
  cellStart : Nat := 0
  frameStart : Nat := 0
  /-- The last cell of the frame has ended and its commit clock is due (R28). Reset: no. -/
  frameEnded : Bool := false
  /-- The comb has started since the last reset that reached it (R237). Reset: no. -/
  started : Bool := false
  /-- The frame now lit was begun by a STANDBY frame start (R128). Reset: no. -/
  standbyFrame : Bool := false
  deriving DecidableEq, Repr

/-! ### The display pipeline (R130 to R158) -/

/-- The display pipeline beside its registers. Levels with their class are coded level + 1,024 × class + 4,096 × held. -/
structure PipeState where
  /-- The point attribute table, 4,096 × 48 bits (R144). Reset: every entry 0. -/
  pat : Table Word := []
  /-- The bin factors H, 128 × 8 bits (R151). Reset: 0x80 each. -/
  bins : Table Nat := []
  /-- Derating in force per group: 512 × T (8 bits) + d (9 bits) (R151). Reset: T 0, d 256. -/
  derate : Table Nat := []
  /-- Levels last fetched per crosspoint, 10 bits (R140, R143). Reset: 0. -/
  held : Table Nat := []
  /-- Fade states per crosspoint, 10 bits (R146). Reset: 0. -/
  fade : Table Nat := []
  /-- Scaled levels E with class of the coming frame, under its normal and its sag plan (R310). Reset: 0. -/
  nextNormal : Table Nat := []
  nextSag : Table Nat := []
  /-- Scaled levels E with class of the frame now lit, under both plans (R156, R158). Reset: 0. -/
  litNormal : Table Nat := []
  litSag : Table Nat := []
  /-- Groups whose coming frame shows held levels (R140). Reset: none. -/
  nextHolding : Nat := 0
  /-- Tiles of the pass of this frame in the order they are opened, the local tck of its start, and those of them a write has reached during
  their pass (R139, R142). Reset: none. -/
  passTiles : List Nat := []
  passStart : Nat := 0
  collided : List Nat := []
  /-- Groups whose front buffer lies in a tile that failed at fetch, 4,096 × group + tile: stage 1 does not open it for them again (R141).
  Reset: none. -/
  failed : List Nat := []
  /-- What stage 2 sampled at C + 64 for the coming frame: blink phases (bit n), FRAME.OVR, the attribute table and the frame length
  its fade steps use (R136, R147, R149). Reset: 0. -/
  phases : Nat := 0
  ovrPass : Word := 0
  patPass : Table Word := []
  stepFrame : Nat := 0
  /-- Bin factors of points that stage 3 had computed before their bin was written: 1 + H (R150). Reset: none. -/
  binPass : Table Nat := []
  /-- A pass has run in this frame and its levels are not yet scaled (R135). Reset: no. -/
  passed : Bool := false
  deriving DecidableEq, Repr

/-! ### Drive groups (R159 to R202) -/

/-- The phase of a stopping LED group or lamp string (R169, R170, R223). -/
inductive StopPhase where
  | none
  | ramp
  | discharge
  deriving DecidableEq, Repr

/-- A drive group beside its registers. -/
structure GroupState where
  /-- The phase of STOPPING (R169, R170). Reset: none. -/
  phase : StopPhase := .none
  /-- Local tck at which the next current step or the end of DISCHARGE is due. Reset: 0. -/
  due : Nat := 0
  /-- RAMP_STEP as read when RAMP began (R178). Reset: 0. -/
  rampStep : Nat := 0
  /-- A pipeline pass has run since the group became ON (R138, R173). Reset: no. -/
  passDone : Bool := false
  /-- VLEDg in mV measured at the last freeze point, rounded to 50 mV (R312), and the one of the frame now lit. Reset: 0. -/
  vledNext : Nat := 0
  vledLit : Nat := 0
  /-- LCD frames since the group became ON (R182). Reset: 0. -/
  lcdFrame : Nat := 0
  /-- Local tck at which the LCD frame pair in progress began (R197). Reset: 0. -/
  pairStart : Nat := 0
  deriving DecidableEq, Repr

/-- The LCD ledger and bias generator beside their registers. -/
structure LcdState where
  /-- J and W per line (key 48 × group + line), signed, mV·tck, within ±(2^39 − 1) (R193, R196). Reset: 0. -/
  j : Table Int := []
  w : Table Int := []
  /-- Lines whose J or W saturated since their group became ON (R201). Reset: none. -/
  jSat : List Nat := []
  wSat : List Nat := []
  /-- Target in force (units of 20 mV), CMAX and COMP_EN at the start of the cell now driving (R193, R195, R201). Reset: 0, 0, 1. -/
  cellTarget : Nat := 0
  cellCmax : Nat := 0
  cellComp : Bool := true
  /-- The generator left RESTART_PENDING into the present STARTING (R191). Reset: no. -/
  fromRestart : Bool := false
  /-- Local tck at which STARTING was entered (R189). Reset: 0. -/
  startedAt : Nat := 0
  /-- LCD fields act: the generator is ON and a commit clock has passed since (R184). Reset: no. -/
  acts : Bool := false
  /-- Local tck of the last recomputation of the target (R188). Reset: none. -/
  lastUpdate : Option Nat := none
  deriving DecidableEq, Repr

/-! ### Lamp strings (R203 to R226) -/

/-- A lamp string beside its registers. -/
structure StringState where
  phase : StopPhase := .none
  /-- Local tck at which the next current step or RELEASE step is due (R209, R223). Reset: 0. -/
  due : Nat := 0
  /-- The plane whose pattern is in force; none before the first STRING cell (R205, R206). Reset: none. -/
  plane : Option Nat := none
  /-- Local tck at which that plane's hold began (R205). Reset: 0. -/
  planeStart : Nat := 0
  /-- The last pattern, which holds from a bank swap, or from a clock on which its plane leaves the plane count, to the next STRING cell, with its
  I_ff (R206). Reset: none. -/
  held : Option (Nat × Nat) := none
  /-- Local tck up to which the string's energy has been accounted, and the tck of this frame for which it was ON and not dark (R218, R325).
  Reset: 0. -/
  countedTo : Nat := 0
  onTck : Nat := 0
  /-- The patterns in force come from a lamp pass made after the start ramp ended (R222). Reset: no. -/
  lit : Bool := false
  /-- A lamp pass has run since the start ramp ended (R222). Reset: no. -/
  passDone : Bool := false
  /-- Of the steered samples of this frame: one was low, one was not high, there was one (R216). Reset: no. -/
  sawLow : Bool := false
  sawNotHigh : Bool := false
  sawSteered : Bool := false
  /-- Sum of V(L00) × hold time and of hold times of this frame's samples (R225). Reset: 0. -/
  vl00Sum : Nat := 0
  vl00Time : Nat := 0
  /-- Lamps sampled below 1.0 V in this frame, and for how many consecutive frames each was (R217). Reset: 0. -/
  shortNow : Nat := 0
  shortRun : Table Nat := []
  /-- Lamps that clamped and whose FAILED bit was cleared since the last commit clock (R219). Reset: none. -/
  returning : Nat := 0
  /-- Lowest steered sample of this frame in units of 10 mV; 0x3FF for none (R225). Reset: 0x3FF. -/
  minNow : Nat := 0x3FF
  /-- Lamps whose VF has fallen in this frame (R217). Reset: none. -/
  fellNow : Nat := 0
  /-- I_ff of the planes of the coming and of the lit frame, under both plans (R214). Reset: none. -/
  nextFf : List Nat := []
  nextFfSag : List Nat := []
  litFf : List Nat := []
  litFfSag : List Nat := []
  deriving DecidableEq, Repr

/-- The lamps (key 16 × string + lamp). -/
structure LampState where
  /-- The lamp table, 64 × 48 bits (R226). Reset: 0x0008_0000_0000 each. -/
  table : Table Word := []
  /-- The lamp table as the lamp pass of this frame read it (R211). Reset: empty. -/
  tablePass : Table Word := []
  /-- Derating factors of the strings as stage 3 of this frame took them (R213). Reset: 256. -/
  derate : Table Nat := []
  /-- Fade states (R222), scaled levels with class of the coming and of the lit frame under both plans (R212). Reset: 0. -/
  fade : Table Nat := []
  nextNormal : Table Nat := []
  nextSag : Table Nat := []
  litNormal : Table Nat := []
  litSag : Table Nat := []
  deriving DecidableEq, Repr

/-! ### The nectar ledger (R309 to R329) -/

/-- One plan of a frame (R310, R314, R315). -/
structure Plan where
  s0 : Nat := 256
  s1 : Nat := 256
  s2 : Nat := 256
  s3 : Nat := 256
  overDrawn : Bool := false
  deriving DecidableEq, Repr

/-- Both plans of a frame and its demand in units of 2^−16 µJ: X and D_0 to D_3 of SUPPLY, then of HEAT (R313, R314). -/
structure Plans where
  normal : Plan := {}
  sag : Plan := {}
  supply : List Nat := [0, 0, 0, 0, 0]
  heat : List Nat := [0, 0, 0, 0, 0]
  /-- The frame was planned in DIM (R321). -/
  dim : Bool := false
  /-- SUPPLY and HEAT that each string reported for the frame, in units of 1 ÷ 30,720,000 µJ (R218). -/
  strings : List (Int × Int) := []
  deriving DecidableEq, Repr

/-- The ledger beside its registers. -/
structure LedgerState where
  /-- Plans of the coming frame and of the frame now lit (R310). Reset: factors 256, demand 0. -/
  next : Plans := {}
  lit : Plans := {}
  /-- Run of consecutive low samples (R316). Reset: 0. -/
  lowRun : Nat := 0
  /-- Local tck at which RECOVERING was entered (R318). Reset: 0. -/
  recoverStart : Nat := 0
  /-- Local tck from which the first cell to begin changes to the sag plan (R319). Reset: none. -/
  sagFrom : Option Nat := none
  /-- Local tck of the last accepted crossing, and of the last crossing or missing half-cycle (R317). Reset: none. -/
  lastCross : Option Nat := none
  lastHalf : Nat := 0
  /-- Last eight intervals between accepted crossings, newest first, in tck (R317). Reset: none. -/
  intervals : List Nat := []
  /-- Consecutive missing half-cycles (R317). Reset: 0. -/
  missing : Nat := 0
  /-- Energy accounted in the frame in progress with the fraction carried, in units of 1 ÷ 30,720,000 µJ (R325). Reset: 0. -/
  supAcc : Int := 0
  heatAcc : Int := 0
  /-- Local tck of the last sample of VSUP_SENSE (R316). Reset: none. -/
  lastSample : Option Nat := none
  deriving DecidableEq, Repr

/-! ### Clocks, resets and power (R402 to R429) -/

/-- Clocks, resets and power beside their registers. -/
structure ClockState where
  /-- The core clock source has stopped and the core holds its last state (R36). Reset: no. -/
  coreStopped : Bool := false
  /-- The device is held in reset (R415). Reset: no. -/
  inReset : Bool := false
  /-- The WRITES step of the start-up order has been done (R421). Reset: no. -/
  writesOn : Bool := false
  /-- CLOCK.STARTUP as the run of the start-up order in progress uses it (R422). Reset: 0. -/
  startup : Word := 0
  /-- Local tck at which the next step of the start-up order is due; none while a LOCK step waits or no run is in progress (R421). Reset: none. -/
  stepDue : Option Nat := none
  /-- Local tck from which a LOCK step has waited (R423). Reset: none. -/
  lockSince : Option Nat := none
  /-- An accepted switch of the core clock source that has not completed (R407). Reset: none. -/
  switchTo : Option Nat := none
  /-- The step of the start-up order in progress (R421). Reset: 0. -/
  stepNo : Nat := 0
  /-- Judgement windows ended so far of XTAL, REFIN, RING port A and port B, and by how much each source last differed from the source in use
  over 65,536 of its periods (R402, R406). Reset: 0. -/
  windows : Table Nat := []
  offsets : Table Nat := []
  /-- The boot source chosen in this reset, with the number of the RC window it became READY in (R405). Reset: none, 0. -/
  boot : Option Nat := none
  bootWindow : Nat := 0
  /-- Local tck from which an exit from STANDBY counts its 1,024 tck: the frame end after LEAVING, or LEAVING itself between frames (R426).
  Reset: none. -/
  leaveAt : Option Nat := none
  /-- Consecutive judgement windows in range and out of range of XTAL, REFIN, RING port A and port B (R402). Reset: 0. -/
  good : Table Nat := []
  bad : Table Nat := []
  /-- The clock record: the source in use has failed its judgement (R404). Reset: no. -/
  record : Bool := false
  /-- Reset sources active, by their codes; whether the reset in progress reaches the CLOCK page (R415, R418). Reset: none, no. -/
  sources : List Nat := []
  deep : Bool := false
  /-- The combination that fired, whether the device was in HOLD when the reset began, and whether a hive-class activation made it (R428, R500). Reset: 0, no, no. -/
  comboNo : Nat := 0
  fromHold : Bool := false
  byActivation : Bool := false
  /-- Local tck at which a hive reset began (R417). Reset: 0. -/
  hiveStart : Nat := 0
  deriving DecidableEq, Repr

/-! ### Faults and self-test (R552 to R566) -/

/-- The probe pointer of a drive group (R552, R555). -/
structure ProbeState where
  /-- The pointer line, 0 to 47. Reset: 0. -/
  line : Nat := 0
  /-- A retest is pending, and its polarity (R555). Reset: none. -/
  retest : Bool := false
  polarity : Bool := false
  /-- The suspect pairs (48 × group + line), pointer line first (R555). Reset: none. -/
  suspects : List (Nat × Nat) := []
  /-- The pending test is one on demand whose first field is to come; whether its first field found the short (R565). Reset: no, yes. -/
  demand : Bool := false
  first : Bool := true
  deriving DecidableEq, Repr

/-- A self-test that waits or runs: its kind (R556) and its part (R564). -/
structure TestReq where
  kind : Nat
  object : Nat
  /-- Local tck on which the test began; none while it waits. -/
  began : Option Nat
  deriving DecidableEq, Repr

/-- Fault log, counters and self-test engines. -/
structure FaultState where
  /-- The fault log, newest first, at most 64 records of 48 bits (R564). Reset: empty. -/
  log : List Word := []
  /-- Counters by kind: TRANSIENT, LASTING, UNTESTED, 16 bits each (R566). Reset: 0. -/
  counters : Table Word := []
  /-- Self-tests that run or wait, oldest first; the first of each kind runs (R560). Reset: none. -/
  tests : List TestReq := []
  /-- Probe pointers of groups 0 to 7 (R552). Reset: line 0, no retest. -/
  probes : Vector ProbeState 8 := Vector.replicate 8 {}
  /-- The SYSTEM line record: disabled lines (48 × group + line), at most 64, kept in the store (R558). Reset: empty. -/
  lineRecord : List Nat := []
  /-- Lines to be disabled, and to return, at the next commit clock (R557, R559). Reset: none. -/
  disableNext : List Nat := []
  returnNext : List Nat := []
  /-- Local tck of the CRC errors of ports A and B of the last 10 ms, newest first (R556). Reset: none. -/
  crcTimesA : List Nat := []
  crcTimesB : List Nat := []
  deriving DecidableEq, Repr

/-! ### Fabric, memory layer and contexts (R430 to R452) -/

/-- A DMA descriptor: source and destination (external space or memory layer, word or byte address), words to move and moved (R442). -/
structure Dma where
  srcExt : Bool
  src : Nat
  dstExt : Bool
  dst : Nat
  count : Nat
  done : Nat
  deriving DecidableEq, Repr

/-- What a bridge has answered the fabric last (R431, R432): its data, a second word (the extension of an event, the position a descriptor
reached), and the error flag. -/
structure BridgeAnswer where
  data : Word := 0
  more : Word := 0
  error : Bool := false
  deriving DecidableEq, Repr

/-- The fabric and the memory layer beside their registers. -/
structure FabricState where
  /-- The memory layer: 4,194,304 words of 48 bits by word address (R12, R434). Reset: 0. -/
  mem : Table Word := []
  /-- Tile states as FABRIC window table 0x01 shows them in [47:32]: state, SPARE, spare number, FAILS (R436, R452). Reset: GOOD. -/
  tiles : Table Word := []
  /-- Memory port windows as FABRIC window table 0x02 shows them (R441, R452). Reset: CLOSED. -/
  windows : Table Word := []
  /-- Windows whose tile a write reached during the pass of their opening (R438). Reset: none. -/
  dirty : List Nat := []
  /-- DMA descriptors in turn, at most four (R431, R442). Reset: none. -/
  dma : List Dma := []
  /-- The bank tokens: bit b set when the token of bank b is with the fabric side (R440). Reset: 0. -/
  tokens : Nat := 0
  /-- Local tck at which step 2 of a fabric reset is due (R450). Reset: none. -/
  releaseAt : Option Nat := none
  /-- The memory layer's zeroing after power-on reset has finished (R589). Reset: no. -/
  memReady : Bool := false
  /-- The OUTPUTS step of the start-up order has been done: the fabric drives its UIO outputs (R421). Reset: no. -/
  uioOn : Bool := false
  /-- The GSR step has been done: the fabric's flip-flops run (R421). Reset: no. -/
  gsrOn : Bool := false
  /-- The last answers of the bridges (R431, R432): 0 register-file port, 1 event-queue port, 2 comb-cell port, 3 frame-buffer port, 4 DMA,
  8 + w memory port window w. Reset: none. -/
  answers : Table BridgeAnswer := []
  deriving DecidableEq, Repr

/-! ### Key events and key lock (R279 to R308) -/

/-- An event with the local tck at which it was raised, its word (R279) and its stamp extension (R281). -/
structure Ev where
  time : Nat
  word : Word
  ext : Word
  deriving DecidableEq, Repr

/-- The event queue. -/
structure EventState where
  /-- Events raised that have not yet entered the queue, in the order in which they will (R252, R282). Reset: none. -/
  waiting : List Ev := []
  /-- QUEUED events, oldest first (R283). Reset: none. -/
  queued : List Ev := []
  /-- IN_FLIGHT events, oldest first, with the sequence number of the packet that carries them (R287). Reset: none. -/
  flight : List (Nat × Ev) := []
  /-- EVENT.LAST_EXT of the ring, the fabric's register-file port and the two-wire port (R290). Reset: 0. -/
  lastRing : Word := 0
  lastFabric : Word := 0
  lastTwi : Word := 0
  deriving DecidableEq, Repr

/-- A combination beside its registers (R301, R302). -/
structure ComboState where
  armed : Bool := false
  /-- Ticks of the 10 ms clock since it became complete; none while it does not count. Reset: none. -/
  timer : Option Nat := none
  deriving DecidableEq, Repr

/-- A combination's action that waits its 1,024 tck (R303). -/
structure ComboAction where
  due : Nat
  action : Nat
  combo : Nat
  deriving DecidableEq, Repr

/-- Key lock and combinations beside their registers. -/
structure KlockState where
  /-- The written unlock codes and their number (R295); their registers read 0. Reset: 0. -/
  seqA : Word := 0
  seqB : Word := 0
  seqLen : Nat := 0
  /-- Ticks of the 10 ms clock since the matcher last received a press (R296). Reset: 0. -/
  gapTicks : Nat := 0
  /-- The lockout counter in ticks of the 10 ms clock (R297). Reset: 0. -/
  lockout : Nat := 0
  combos : Vector ComboState 4 := Vector.replicate 4 {}
  /-- Actions that wait (R303). Reset: none. -/
  actions : List ComboAction := []
  /-- Local tck at which the PANEL_RSTN pulse ends; none while the pin is released (R303). Reset: none. -/
  panelUntil : Option Nat := none
  deriving DecidableEq, Repr

/-! ### Keys, ghosts and contact health (R227 to R278) -/

/-- The key engine beside its registers. A set of crosspoints or lines is a table with 1 at each member. -/
structure KeyState where
  /-- The key state table (R240). Reset: 0x0000_000F_FFFF each. -/
  entries : Table Word := []
  /-- The health table (R278). Reset: 0xFFE0_0000_0000 each. -/
  health : Table Word := []
  /-- S-line measured last on each common, key 16 × group + common (R256). Reset: 47. -/
  pointer : Table Nat := []
  /-- Per group, 1 + the crosspoint chosen at the first tck of the HEALTH cell now driving; 0 for none (R256). Reset: 0. -/
  chosen : Table Nat := []
  /-- Per HELD_BACK crosspoint, the number of the reading that measured it last; 0 when none has (R256). Reset: 0. -/
  measured : Table Nat := []
  /-- Readings of HELD_BACK crosspoints so far (R256). Reset: 0. -/
  readings : Nat := 0
  /-- Ticks of the 10 ms clock so far (R242). Reset: 0. -/
  ticks : Nat := 0
  /-- Local tck of the last tick of the 10 ms clock. Reset: none. -/
  lastTick : Option Nat := none
  /-- Per crosspoint, 1 + the ticks at its previous sample; 0 when its next sample adds no ticks (R242, R245). Reset: 0. -/
  last : Table Nat := []
  /-- Frozen entries: per common (key 16 × group + common) the mask of S-lines (R245). Reset: none. -/
  frozen : Table Nat := []
  /-- Crosspoints whose ROLE bit 47 was cleared since the last KEY sample of their common (R246). Reset: none. -/
  cleared : Table Nat := []
  /-- The mute bits (R293). Reset: 0. -/
  mute : Table Nat := []
  /-- Groups a KEY field of which was sampled in the scan frame in progress. Reset: none. -/
  sampledNow : Nat := 0
  /-- The debounce profile each crosspoint was sampled with last: a new PROFILE takes effect at its next sample (R241). Reset: 0. -/
  profiles : Table Nat := []
  /-- The last write of an entry: its crosspoint, its word and the local tck it was served on, for a reading that shares that tck (R241).
  Reset: none. -/
  written : Option (Nat × Word × Nat) := none
  /-- Groups whose threshold is capped below the clamp (R233). Reset: none. -/
  capped : Nat := 0
  deriving DecidableEq, Repr

/-! ### The Umrus ring and the hive (R330 to R401) -/

/-- A ring port beside its registers. Times of TIME sets are in units of 1/256 tck. -/
structure PortState where
  /-- Consecutive accepted link-state words while TRAINING, and those with RX_UP = 1 since the link came UP (R345, R346). Reset: 0. -/
  lswRun : Nat := 0
  rxUpRun : Nat := 0
  /-- Local tck of the last accepted link-state word since the link left DOWN (R345). Reset: none. -/
  lastLsw : Option Nat := none
  /-- The receiver recovers a clock; local tck at which it began to hold over (R356). Reset: no, none. -/
  clockRuns : Bool := false
  holdSince : Option Nat := none
  /-- SEQ and departure time of the last four TIME sets sent, newest first, and the SEQ of the next one (R360). Reset: none, 0. -/
  departures : List (Nat × Nat) := []
  nextSeq : Nat := 0
  /-- SEQ and arrival time of the last TIME set received since the link came UP (R360). Reset: none. -/
  heard : Option (Nat × Nat) := none
  /-- d and frac of the last 16 valid samples, newest first (R361). Reset: none. -/
  samples : List (Int × Int) := []
  /-- Local tck at which the last LSW, TIME and EPOCH set sent fell due (R335). Reset: none. -/
  lswDue : Option Nat := none
  timeDue : Option Nat := none
  epochDue : Option Nat := none
  /-- The words of the last LSW, TIME and EPOCH set sent: what the transmitter put on the line (R334). Reset: 0. -/
  lswWord : Word := 0
  timeWord : Word := 0
  epochWord : Word := 0
  /-- Forwarded packets that wait at this transmitter, oldest first (R343). Reset: none. -/
  forward : List Packet := []
  /-- The packet started last, and the local tck at which its last code group ends (R338). Reset: none, 0. -/
  sending : Option Packet := none
  sendEnd : Nat := 0
  /-- Local tck at which the header of the packet started last has left, moved on by the sets sent within it, and at which the last
  maintenance set has left (R335). Reset: 0. -/
  wordAt : Nat := 0
  setEnd : Nat := 0
  /-- The transmitter's running disparity is positive, and the code groups of the set or packet it sent last, a packet's without the sets
  within it (R334). Reset: no, none. -/
  disparity : Bool := false
  codes : List (BitVec 10) := []
  /-- The last data- or management-plane packet started was of the management plane (R19). Reset: no. -/
  lastMgmt : Bool := false
  deriving DecidableEq, Repr

/-- A REG_READ or REG_WRITE packet whose registers are presented to the arbiter one a tck (R89): the number of the next register, the
code of the first problem met, 0 for none, and the words read so far. -/
structure RegRequest where
  packet : Packet
  write : Bool
  next : Nat := 0
  problem : Nat := 0
  words : List Word := []
  deriving DecidableEq, Repr

/-- The ring beside its registers; port A is index 0. -/
structure RingState where
  ports : Vector PortState 2 := Vector.replicate 2 {}
  /-- The node's own packets that wait, oldest first. Reset: none. -/
  own : List Packet := []
  /-- Packets delivered to the node that have not yet acted, oldest first (R342). Reset: none. -/
  inbox : List Packet := []
  /-- The register request of the management plane that is being served (R89). Reset: none. -/
  request : Option RegRequest := none
  /-- Local tck at which the bypass movement in progress has settled (R352). Reset: 0. -/
  settleAt : Nat := 0
  /-- The controlled close in progress has discarded the waiting packets (R353). Reset: no. -/
  drained : Bool := false
  /-- Local tck at which the bypass last reached OPEN (R353). Reset: 0. -/
  openedAt : Nat := 0
  /-- SECONDS and SLOT of the last EPOCH with ALIGNED = 1 on the time port, and the local tck of its arrival (R362). Reset: none. -/
  epoch : Option (Nat × Nat × Nat) := none
  deriving DecidableEq, Repr

/-- A data-plane packet that its sender holds until it is acknowledged: peer, sequence number, packet (R388, R391). -/
structure Held where
  peer : Nat
  seq : Nat
  packet : Packet
  deriving DecidableEq, Repr

/-- The members that a node has loaded for a hive commit, and the hive time of its commit tick (R394, R395). -/
structure Arming where
  swap : Bool := false
  ctx : Option Nat := none
  flips : Nat := 0
  /-- The commit tick as seconds × 192,000,000 + tick; none when the target is the first commit clock that follows success. -/
  time : Option Nat := none
  deriving DecidableEq, Repr

/-- An answer to a TELEM_READ that waits, and the local tck of its slot; none where it goes out at once (R90). -/
structure Answer where
  packet : Packet
  due : Option Nat
  deriving DecidableEq, Repr

/-- Hive coordination beside its registers. -/
structure HiveState where
  /-- The census: key 4 × address + word (R379, R401). Reset: 0. -/
  census : Table Word := []
  /-- The mode table (R394). Reset: 0. -/
  modes : Table Word := []
  /-- Next number to give and next number expected, by peer address; on a node the peer is 0 (R388, R389). Reset: 0. -/
  sendSeq : Table Nat := []
  nextSeq : Table Nat := []
  /-- Unacknowledged data-plane packets, oldest first; on the queen the retransmission store (R388, R399). Reset: none. -/
  held : List Held := []
  /-- Local tck, by peer, from which the 38,400 tck of R391 count. Reset: 0. -/
  ackClock : Table Nat := []
  /-- Peers to which an ACK is owed (R390). Reset: none. -/
  acks : List Nat := []
  /-- Pending waggles with their hive times (R398). Reset: none. -/
  blink : Option (Nat × Packet) := none
  dim : Option (Nat × Packet) := none
  hiveReset : Option Nat := none
  /-- Second and word of a pending ACTIVATE (R398, R500). Reset: none. -/
  activate : Option Word := none
  arming : Arming := {}
  /-- The layout load of a preparation runs; a cause found before its end (BUSY, STANDBY, LAYOUT), 0 for none (R394). Reset: no, 0. -/
  preparing : Bool := false
  early : Nat := 0
  /-- The mode of the transaction in HIVE.MODE.TXN (R395). Reset: 0. -/
  txnMode : Nat := 0
  /-- Addresses that answered the transaction with RESULT 0 (R397). Reset: none. -/
  answered : List Nat := []
  /-- LEAVE has been sent since LEAVING was set (R386). Reset: no. -/
  leaveSent : Bool := false
  /-- Hive time count at which the next MODE_REPORT and PRESENT are due, and local hive time count of the last JOIN (R375, R380, R395). Reset: none. -/
  reportAt : Option Nat := none
  presentAt : Option Nat := none
  joinSent : Option Nat := none
  /-- The node awaits the answer to a JOIN sent while it held an address (R378, R385). Reset: no. -/
  rejoining : Bool := false
  /-- Source address of the last BEACON accepted (R375). Reset: none. -/
  beaconFrom : Option Nat := none
  /-- Whether the reset that cleared the address kept the event queue (R375). Reset: no. -/
  queueKept : Bool := false
  /-- The queen's beacon: local tck of the last one sent (R380). Reset: none. -/
  beaconSent : Option Nat := none
  /-- Addresses heard from in the beacon period in progress, and consecutive silent periods by address (R381). Reset: none. -/
  heardFrom : List Nat := []
  silent : Table Nat := []
  /-- The queen's quiet window in local tck (R387). Reset: none. -/
  quiet : Option (Nat × Nat) := none
  /-- A submission that waits for the quiet window's end (R387). Reset: none. -/
  txWaiting : Option Packet := none
  /-- Management answers that wait (R87, R90, R491), oldest first. Reset: none. -/
  answers : List Answer := []
  deriving DecidableEq, Repr

/-! ### Configuration (R445 to R480) -/

/-- A configuration load (R453 to R468). -/
structure Load where
  /-- Target context, and the sector at which its stream begins. -/
  ctx : Nat
  sector : Nat
  /-- A reset or fabric reset demanded it; an activation demanded it. -/
  forReset : Bool
  forActivation : Bool
  /-- The first staging tile and the stream's length in words. -/
  stage : Nat
  words : Nat
  /-- Local tck at which COPY began, or WRITE once it has begun. -/
  start : Nat
  deriving DecidableEq, Repr

/-- Tiles (48 × context + tile) that a detour scrubs, and whether it verifies a load or rebuilds a tile (R466, R473, R474). -/
structure Detour where
  tiles : List Nat
  rebuild : Bool
  deriving DecidableEq, Repr

/-- An error that waits for the map scrub (R476): its kind, context and frame address. -/
structure EssWait where
  kind : Nat
  ctx : Nat
  fa : Nat
  deriving DecidableEq, Repr

/-- The configuration layer, the loader and the scrubber beside their registers. -/
structure ConfigState where
  /-- Frames: key (12,288 × context + FA) × 65 + word, word 0 the check field, words 1 to 64 the data (R455). Reset: 0. -/
  frames : Table Word := []
  /-- Map memory: digests and tile sources by 48 × context + tile, essential map by 288 × context + 6 × tile + word (R479). Reset: 0. -/
  digests : Table Word := []
  sources : Table Word := []
  map : Table Word := []
  /-- Declarations, words 5 to 8 of the last stream: key 4 × context + word − 5 (R454). Reset: 0. -/
  decl : Table Word := []
  load : Option Load := none
  /-- The slot of the pass, and the context it began with (R469). Reset: 0. -/
  slot : Nat := 0
  base : Nat := 0
  /-- SCRUB.BASIC as the pass in progress uses it (R477, R480). Reset: 0. -/
  basic : Word := 0
  /-- Local tck at which the slot in progress ends, and at which the pass began (R469). Reset: 80, 0. -/
  slotEnd : Nat := 80
  passStart : Nat := 0
  /-- Detours in order; the frame of the first one's tile in hand (R474). Reset: none. -/
  detours : List Detour := []
  detourFrame : Nat := 0
  /-- Tiles rebuilt since their last passed check; tiles lost (R472, R473). Reset: none. -/
  rebuilt : List Nat := []
  lost : List Nat := []
  /-- Essential judgements that wait for MAP_DONE (R476). Reset: none. -/
  waits : List EssWait := []
  /-- Map words (288 × context + 6 × tile + word) found uncorrectable (R475). Reset: none. -/
  mapLost : List Nat := []
  /-- Copies of the scrubber's control state that have left the vote (R557). Reset: none. -/
  copiesOut : List Nat := []
  deriving DecidableEq, Repr

/-! ### The store, updates and the service port (R481 to R508) -/

/-- A piece write that waits for the store (R482, R491): of STORE.PIECE_CTRL to a logical sector, or of the receive slot to an image
sector. Its 683 words are packed as R490 gives; `request` is the PIECE packet it answers, none when it came through UPDATE.CTRL. -/
structure StoreJob where
  ctrl : Bool
  sector : Nat
  piece : Nat
  data : List Word
  request : Option Packet
  deriving DecidableEq, Repr

/-- The outcome of a piece that waits to be answered (R490, R491). -/
structure PieceAnswer where
  request : Option Packet
  status : Nat
  index : Nat
  deriving DecidableEq, Repr

/-- The non-volatile store; no reset changes it (R416). -/
structure StoreState where
  /-- Bytes by physical address, sector × 65,536 + offset (R481). Reset: 0. -/
  bytes : Table Byte := []
  /-- Physical sector of each logical sector (R481). Reset: the same number. -/
  map : Table Nat := []
  /-- Write counters of the physical sectors (R482, R483). Reset: 0. -/
  writes : Table Nat := []
  /-- Physical sectors in the pool, neither reserved nor retired; the retired ones; those of the receive slot by image sector
  (R481, R483, R492). Reset: 1,792 to 2,047; none; none. -/
  pool : List Nat := (List.range 256).map (· + 1792)
  retired : List Nat := []
  reserved : List Nat := []
  /-- Piece writes that wait, oldest first (R482, R491). Reset: none. -/
  jobs : List StoreJob := []
  /-- The piece buffer, STORE window table 0x01 (R507). Reset: 0. -/
  buffer : Table Word := []
  deriving DecidableEq, Repr

/-- The receive slot beside its registers. What the SYSTEM area keeps is kept through every reset (R496, R499, R501). -/
structure UpdateState where
  /-- The piece buffer and the key buffer, UPDATE window tables 0x01 and 0x03 (R508). Reset: 0. -/
  pieceBuf : Table Word := []
  keyBuf : Table Word := []
  /-- SYSTEM: the configuration key (R497). Reset: none. -/
  key : Option (List Word) := none
  /-- Pieces received, and those in the committed bitmap, by index (R496). Reset: none. -/
  received : Table Nat := []
  committed : Table Nat := []
  /-- Pieces stored since the last commit of the bitmap (R496). Reset: 0. -/
  sinceCommit : Nat := 0
  /-- Answers that wait (R491). Reset: none. -/
  answers : List PieceAnswer := []
  /-- SYSTEM: the activation marker of a HIVE image (R500, R501, R506). Reset: none. -/
  marker : Bool := false
  /-- Local tck of an accepted station-class activation, whose CHECKING is due 1,024 tck later (R499). Reset: none. -/
  activatedAt : Option Nat := none
  /-- SYSTEM: STREAM sections of the activation (context, sector), its BOOT sector, its CHECK_TIME and REQUIRE_ACCEPT (R486, R499). Reset: none, 0. -/
  streams : List (Nat × Nat) := []
  bootSector : Option Nat := none
  checkTime : Nat := 0
  requireAccept : Bool := false
  /-- Local tck at which CHECKING began; STREAM sections not yet loaded; a load failed; ACCEPT has been written (R499). Reset: none. -/
  checkStart : Option Nat := none
  toLoad : List (Nat × Nat) := []
  loadFailed : Bool := false
  accepted : Bool := false
  deriving DecidableEq, Repr

/-- The service port (R505, R506). -/
structure ServiceState where
  /-- SERVICE_EN is high. Reset: no. -/
  enabled : Bool := false
  /-- The instruction in force. Reset: BYPASS (0xFF). -/
  ir : BitVec 8 := 0xFF
  /-- The boundary register as captured or shifted, and as updated onto the output cells; the bypass register. Reset: 0. -/
  boundary : BitVec 324 := 0
  latched : BitVec 324 := 0
  bypassBit : Bool := false
  /-- The balls are driven from the boundary register (EXTEST). Reset: no. -/
  driving : Bool := false
  /-- DONE and read data of the last SVC_REG and SVC_MEM access. Reset: 0. -/
  regDone : Bool := false
  regData : Word := 0
  memDone : Bool := false
  memData : Word := 0
  deriving DecidableEq, Repr

/-! ### External memory and its encryption (R509 to R530) -/

/-- The external memories and the encryption engine beside their registers. -/
structure XmemState where
  /-- What the memories hold, by byte address of the external space: 1 + the byte on the chip; 0 where the manual gives no content
  (R516, R522, R527). Reset: 0. -/
  bytes : Table Nat := []
  /-- The region table (R514, R516). Reset: PLAIN, GEN 0, COUNT 0. -/
  regions : Table Word := []
  /-- Power-on resets so far: each draws a new PSRAM key (R516). Reset: 0. -/
  psramKey : Nat := 0
  /-- The byte after the last one written of the open write stream, and the local tck of that write (R519, R521). Reset: none. -/
  stream : Option (Nat × Nat) := none
  /-- Regions being rekeyed, in order; the first one's POSITION (R524, R526). Reset: none, 0. -/
  rekeys : List Nat := []
  position : Nat := 0
  /-- Regions whose rekey a store refusal has stopped, each with its POSITION, until the rekey ends (R526). Reset: none. -/
  kept : List (Nat × Nat) := []
  /-- Writes held until their region's rekey ends: byte address and bytes, oldest first (R523, R524). Reset: none. -/
  heldWrites : List (Nat × List Byte) := []
  deriving DecidableEq, Repr

/-- The thermal inputs beside their registers (R574, R575). -/
structure ThermState where
  /-- Local tck of the last conversion. Reset: none. -/
  lastUpdate : Option Nat := none
  /-- Local tck from which a sensor has read 140 °C or more, counted anew by each shut-down. Reset: none. -/
  hotSince : Option Nat := none
  /-- Drive-layer sensors in °C as last converted, by group (R574, R575): THERM.DIE shows them as far as its 8 bits go. Reset: 0. -/
  die : Table Int := []
  deriving DecidableEq, Repr

/-- The two-wire port beside TWI.STATUS (R531 to R551). -/
structure TwiState where
  /-- TWI.BASIC as in force (R546). Reset: 0xA600_0000_0000. -/
  basic : Word := 0xA60000000000
  /-- Bytes received of the register being written, first byte first (R536). Reset: none. -/
  bytes : List Byte := []
  /-- The register loaded for transmission, as it stood when its first byte was loaded (R67, R537). Reset: 0. -/
  loaded : Word := 0
  /-- Local tck from which the bus has been free (R547). Reset: 0. -/
  freeSince : Nat := 0
  /-- A start has woken the port since STANDBY was entered (R547). Reset: no. -/
  woken : Bool := false
  /-- Local tck of the last acknowledge or data byte that the port began to drive in this transaction, from which it may have held a line
  low (R542 to R544). Reset: none. -/
  lowSince : Option Nat := none
  deriving DecidableEq, Repr


/-- An effect that follows its cause by some tck: the report of a commit clock C at C + 1 (R28), the side-effect of a read by the fabric,
when its data returns (R85, R431), and the end of stage 1's pass over a tile (R135). -/
inductive LateEffect where
  /-- DEVICE.COMMIT_STAT below SET_PENDING, flags of DEVICE.EVENTS, and COMB.EVENTS.SWAP_DEFERRED. -/
  | commitReport (stat flags : Word) (swapDeferred : Bool)
  /-- A pop by the event-queue port, and by a read of EVENT.POP through the register-file port. -/
  | portPop
  | fabricPop
  /-- AUTO_INC of the fabric's window on a page, and WINDOW_RANGE where the read fell outside its table. -/
  | windowRead (page : Nat) (outside advance : Bool)
  /-- Read data returns to the fabric through a bridge (R431). -/
  | bridgeData (bridge : Nat) (answer : BridgeAnswer)
  /-- Stage 1's pass over a tile ends (R135, R139): the checksum read when an upset made it differ. -/
  | tilePass (tile : Nat) (found : Option (BitVec 32))
  deriving DecidableEq, Repr

/-- A late effect is the end of a pass of stage 1. -/
def LateEffect.isPass : LateEffect → Bool
  | .commitReport _ _ _ => false
  | .portPop => false
  | .fabricPop => false
  | .windowRead _ _ _ => false
  | .bridgeData _ _ => false
  | .tilePass _ _ => true

/-- A late effect with the local tck on which it takes place. -/
structure Late where
  due : Nat
  effect : LateEffect
  deriving DecidableEq, Repr

/-- The whole state of the part. -/
structure State where
  /-- The register file: the words of all registers by address (page × 256 + index) (R63). Reset: `regReset`. -/
  regs : Table Word := []
  /-- The value in force of each setting that takes effect at a commit clock, by register address (R50, R132, R157, R160, R166, R209,
  R234, R272). Reset: as the register. -/
  force : Table Word := []
  /-- Those settings as the last freeze point took them (R28, R160). Reset: as the register. -/
  frozen : Table Word := []
  /-- WIN_CTRL of each path on each page, key 64 × path + page (R81). Reset: 0. -/
  winCtrl : Table Word := []
  /-- Local time in tck since power-on reset exit. Reset: 0. -/
  now : Nat := 0
  /-- Hive time: seconds (32 bits) and tick within the second (R35). Reset: 0. -/
  seconds : Nat := 0
  tick : Nat := 0
  /-- A written HIVE.SECONDS that waits for the next tick 0 (R365). Reset: none. -/
  secondsPending : Option Nat := none
  commit : CommitState := {}
  comb : CombState := {}
  pipe : PipeState := {}
  groups : Vector GroupState 8 := Vector.replicate 8 {}
  lcd : LcdState := {}
  strings : Vector StringState 4 := Vector.replicate 4 {}
  lamps : LampState := {}
  ledger : LedgerState := {}
  clock : ClockState := {}
  /-- Free values taken so far: the model's own counter for `Config.freeValue`. Reset: 0. -/
  freeCount : Nat := 0
  fault : FaultState := {}
  fabric : FabricState := {}
  events : EventState := {}
  klock : KlockState := {}
  keys : KeyState := {}
  ring : RingState := {}
  hive : HiveState := {}
  config : ConfigState := {}
  store : StoreState := {}
  update : UpdateState := {}
  service : ServiceState := {}
  xmem : XmemState := {}
  therm : ThermState := {}
  twi : TwiState := {}
  /-- Effects whose tck is to come, in the order of their causes (R28, R85, R139, R433). Reset: none. -/
  late : List Late := []
  /-- The commands that wait, first in, first out. Reset: none. -/
  pending : List Instr := []
  deriving DecidableEq, Repr

/-- The part right after power-on reset: every register at `regReset`, but for two that depend on the unit. Its boot source is XTAL, which
is READY (R405), and STORE.STATUS.POOL_FREE shows the pool's 256 sectors (R481, R507). -/
def State.reset : State := { regs := [(Reg.CLOCK_STATUS, 0x22380000), (Reg.STORE_STATUS, 0x20000000)] }

end Sys2Proof.Machine
end

