-- ==== Sys2Proof/Machine/Ops.lean ====
section
/-! DEFINITION. The named operations over registers and time that every block's meaning is written with. -/
namespace Sys2Proof.Machine

/-- Ticks of one second of hive time (R35). -/
def ticksPerSecond : Nat := 192000000

namespace State

/-! ### The register file -/

/-- What the register file holds at an address. -/
def reg (s : State) (a : Nat) : Word := Table.get regReset s.regs a

/-- The state with a register's word replaced. -/
def setReg (s : State) (a : Nat) (v : Word) : State := { s with regs := Table.put regReset s.regs a v }

/-- The value of a field. -/
def get (s : State) (f : Field) : Nat := bitsOf (s.reg f.reg) f.lo f.width

/-- A one-bit field as a Boolean. -/
def flag (s : State) (f : Field) : Bool := s.get f == 1

/-- The state with a field's value replaced. -/
def set (s : State) (f : Field) (v : Nat) : State := s.setReg f.reg (withBits (s.reg f.reg) f.lo f.width v)

/-- The state with a one-bit field set from a Boolean. -/
def setFlag (s : State) (f : Field) (b : Bool) : State := s.set f (b2n b)

/-- An EVENTS flag, or another sticky bit, set by the hardware (R93). -/
def raise (s : State) (f : Field) : State := s.set f 1

/-- The signed value of a field in two's complement. -/
def getInt (s : State) (f : Field) : Int := signedOf f.width (s.get f)

/-- The state with a field set to the two's complement code of an integer. -/
def setInt (s : State) (f : Field) (v : Int) : State := s.set f (ofSigned f.width v)

/-- A counter field that stops at its greatest value, raised by `n`. -/
def bump (s : State) (f : Field) (n : Nat) : State := s.set f (satAdd f.width (s.get f) n)

/-- The value in force of a field whose setting takes effect at a commit clock. -/
def inForce (s : State) (f : Field) : Nat := bitsOf (Table.get regReset s.force f.reg) f.lo f.width

/-- The state with a register's word in force replaced. -/
def setForce (s : State) (a : Nat) (v : Word) : State := { s with force := Table.put regReset s.force a v }

/-- The value of a field as the last freeze point took it. -/
def atFreeze (s : State) (f : Field) : Nat := bitsOf (Table.get regReset s.frozen f.reg) f.lo f.width

/-- The state with the freeze point's copy of a register taken from the register file. -/
def takeFreeze (s : State) (a : Nat) : State := { s with frozen := Table.put regReset s.frozen a (s.reg a) }

/-- The bits of a register that a write can change. -/
def writeMask (a : Nat) : Word :=
  match regFields a with
  | none => 0
  | some fs => accessMask (fun x => decide (x = .rw ∨ x = .rwl ∨ x = .rwx)) fs

/-- The state with the writable fields of a register as in `v` (R6, R7). -/
def putWord (s : State) (a : Nat) (v : Word) : State :=
  s.setReg a ((s.reg a &&& ~~~(writeMask a)) ||| (v &&& writeMask a))

/-! ### Levels and locks (R71 to R80) -/

/-- The page is at expert level. -/
def expert (s : State) (page : Nat) : Bool := bitAt (s.reg (page * 256 + 7)) 0

/-- A path's bit in a page's LOCK.PATHS is set (R72); waggle actions and the service port are not subject to LOCK (R74, R506). -/
def locked (s : State) (p : Path) (page : Nat) : Bool :=
  match p with
  | .ring => bitAt (s.reg (page * 256 + 6)) 0
  | .fabric => bitAt (s.reg (page * 256 + 6)) 1
  | .twi => bitAt (s.reg (page * 256 + 6)) 2
  | .service => false
  | .waggle => false

/-- The pages that a hive reset holds (R416, R417). -/
def hivePage (page : Nat) : Bool :=
  decide (page = 0 ∨ page = 2 ∨ 8 ≤ page ∧ page < 0x16 ∨ 0x18 ≤ page ∧ page < 0x1B ∨ page = 0x38)

/-- A hive reset is in progress and holds the page (R417). -/
def heldInReset (s : State) (page : Nat) : Bool := decide (2 ∈ s.clock.sources) && hivePage page

/-- A path reaches a page: in HOLD only the service port does, and only the DEVICE, CLOCK, STORE and UPDATE pages; out of HOLD it
reaches none (R504, R506). Writes by the fabric wait for the WRITES step of its start-up order (R421), and no path writes a page that a hive reset holds (R417). -/
def pathOpen (s : State) (p : Path) (page : Nat) : Bool :=
  if s.heldInReset page then false
  else if s.get Fld.CLOCK_POWER_STATE = 3 then decide (p = .service ∧ (page = 0 ∨ page = 1 ∨ page = 0x2A ∨ page = 0x2B))
  else decide (p ≠ .service ∧ (p ≠ .fabric ∨ s.get Fld.FABRIC_STATUS_FSTATE = 0 ∨ s.clock.writesOn = true))

/-- Sets a bit of a page's EVENTS register. -/
def raiseBit (s : State) (page bit : Nat) : State := s.raise ⟨page * 256 + 4, bit, 1⟩

/-! ### Time -/

/-- Hive time as one count of ticks (R35). -/
def hiveNow (s : State) : Nat := s.seconds * ticksPerSecond + s.tick

/-- Hive time in units of 10 ms (R147). -/
def hiveT10 (s : State) : Nat := s.seconds * 100 + s.tick / 1920000

/-- The second that follows at the next tick 0: a pending write at a node that is FREE or SOURCE, else the count wrapped at 32 bits
(R35, R365). -/
def nextSecond (s : State) : Nat :=
  match s.secondsPending with
  | some v => if s.get Fld.HIVE_ALIGN_STATE ≤ 1 then v else (s.seconds + 1) % 2 ^ 32
  | none => (s.seconds + 1) % 2 ^ 32

/-- `n` tck pass, in local time and in hive time (R35). -/
def elapse (s : State) (n : Nat) : State :=
  if s.tick + n < ticksPerSecond then { s with now := s.now + n, tick := s.tick + n }
  else { s with
    now := s.now + n
    tick := (s.tick + n) % ticksPerSecond
    seconds := (s.nextSecond + ((s.tick + n) / ticksPerSecond - 1)) % 2 ^ 32
    secondsPending := none }

/-- The state on the next tck: the one on which the arbiter serves an access. -/
def nextTck (s : State) : State := s.elapse 1

/-- Time passes up to local tck `t`; none passes when it is past. -/
def elapseTo (s : State) (t : Nat) : State := if s.now < t then s.elapse (t - s.now) else s

/-- Tck from now to the next hive tick that is a multiple of `p`, 0 when this tick is one. -/
def toGrid (s : State) (p : Nat) : Nat := if p = 0 then 0 else (p - s.tick % p) % p

/-- Tck from now to the next hive tick that is a multiple of `p` and has not been taken at local tck `last`. -/
def toNextGrid (s : State) (p : Nat) (last : Option Nat) : Nat :=
  if s.tick % p = 0 then (if last = some s.now then p else 0) else p - s.tick % p

/-! ### Free values -/

/-- A fresh free value of up to 48 bits and the state with the counter advanced. -/
def fresh (s : State) : Word × State := (Config.freeValue s.freeCount, { s with freeCount := s.freeCount + 1 })

/-! ### Parts by number -/

/-- A drive group's internal state. -/
def grp (s : State) (g : Nat) : GroupState := s.groups.getD g {}

/-- The state with a drive group's internal state changed. -/
def modGrp (s : State) (g : Nat) (f : GroupState → GroupState) : State :=
  { s with groups := s.groups.setIfInBounds g (f (s.grp g)) }

/-- A string's internal state. -/
def str (s : State) (n : Nat) : StringState := s.strings.getD n {}

/-- The state with a string's internal state changed. -/
def modStr (s : State) (n : Nat) (f : StringState → StringState) : State :=
  { s with strings := s.strings.setIfInBounds n (f (s.str n)) }

/-- Applies an effect for every number below `n`, in rising order. -/
def forEach (s : State) (n : Nat) (f : Nat → State → State) : State :=
  (List.range n).foldl (fun s k => f k s) s

end State

/-! ### Late effects (R28, R85, R431, R433) -/

/-- The oldest QUEUED event leaves the queue (R287); none when there is none (R288). -/
def popEvent (s : State) : Option Ev × State :=
  match s.events.queued with
  | [] => (none, s)
  | e :: r => (some e, { s with events := { s.events with queued := r } })

/-- The empty marker (R288). -/
def emptyMarker : Word := BitVec.ofNat 48 (2 ^ 48 - 1)

/-- A read of EVENT.POP by a path: the word, and the path's LAST_EXT (R287, R288, R290). -/
def popByPath (p : Path) (s : State) : Word × State :=
  let o := popEvent s
  let w := match o.1 with | none => emptyMarker | some e => e.word
  let x := match o.1 with | none => 0 | some e => e.ext
  let s := o.2
  (w, { s with events :=
    match p with
    | .ring => { s.events with lastRing := x }
    | .fabric => { s.events with lastFabric := x }
    | .twi => { s.events with lastTwi := x }
    | .service => s.events
    | .waggle => s.events })

/-- A path's number among the window states. -/
def pathNo : Path → Nat
  | .ring => 0
  | .fabric => 1
  | .twi => 2
  | .service => 3
  | .waggle => 4

namespace State

/-- WIN_CTRL of a path on a page. -/
def winCtl (s : State) (p : Path) (page : Nat) : Word := Table.get (fun _ => 0) s.winCtrl (64 * pathNo p + page)

/-- The state with it replaced. -/
def putWinCtl (s : State) (p : Path) (page : Nat) (v : Word) : State :=
  { s with winCtrl := Table.put (fun _ => 0) s.winCtrl (64 * pathNo p + page) v }

/-- AUTO_INC after a WIN_DATA access: INDEX rises and does not wrap (R82, R595). -/
def autoInc (s : State) (p : Path) (page : Nat) : State :=
  let c := s.winCtl p page
  if bitAt c 39 then s.putWinCtl p page (withBits c 0 24 (min (bitsOf c 0 24 + 1) (2 ^ 24 - 1))) else s

/-- DEVICE.COMMIT_STAT.SET_PENDING follows the bound set that waits (R31). -/
def setPendingSync (s : State) : State := s.setFlag Fld.DEVICE_COMMIT_STAT_SET_PENDING (s.commit.sets.any (·.bound))

/-- A late effect has taken place before what else happens on tck `now`: a report when its tck has come, a pop or a window's advance when it has
passed, since the ring's pop of the same tck comes first (R288). -/
def lateDone (now : Nat) (l : Late) : Bool :=
  match l.effect with
  | .commitReport _ _ _ => decide (l.due ≤ now)
  | .portPop => decide (l.due < now)
  | .fabricPop => decide (l.due < now)
  | .windowRead _ _ _ => decide (l.due < now)
  | .bridgeData _ _ => decide (l.due ≤ now)
  | .tilePass _ _ => decide (l.due ≤ now)

/-- The place of a late effect among those of one tck: reports, the event-queue port, the register-file port (R288). -/
def lateRank (e : LateEffect) : Nat :=
  match e with
  | .commitReport _ _ _ => 0
  | .portPop => 1
  | .fabricPop => 2
  | .windowRead _ _ _ => 2
  | .bridgeData _ _ => 0
  | .tilePass _ _ => 0

/-- A late effect put behind those that come no later than it. -/
def insertLate (e : Late) : List Late → List Late
  | [] => [e]
  | x :: r => if 3 * e.due + lateRank e.effect < 3 * x.due + lateRank x.effect then e :: x :: r else x :: insertLate e r

/-- The state with an effect due `n` tck from now. -/
def later (s : State) (n : Nat) (e : LateEffect) : State := { s with late := insertLate ⟨s.now + n, e⟩ s.late }

/-- The fabric is reset or another context becomes active: reads by the fabric whose data has not returned are abandoned, and their
side-effects do not happen (R433). -/
def abandonReads (s : State) : State :=
  { s with late := s.late.filter fun l => match l.effect with
    | .commitReport _ _ _ => true
    | .portPop => false
    | .fabricPop => false
    | .windowRead _ _ _ => false
    | .bridgeData _ _ => false
    | .tilePass _ _ => true }

/-- A bridge has answered the fabric (R431, R432). -/
def bridgeAnswers (s : State) (bridge : Nat) (a : BridgeAnswer) : State :=
  { s with fabric := { s.fabric with answers := Table.put (fun _ => {}) s.fabric.answers bridge a } }

/-- The last answer of a bridge. -/
def bridgeAnswer (s : State) (bridge : Nat) : BridgeAnswer := Table.get (fun _ => {}) s.fabric.answers bridge

end State

/-! ### Writes of registers (R6, R72, R76, R77) -/

/-- The bits of a register that LOCK protects (RWL) (R6, R72). -/
def State.lockMask (a : Nat) : Word :=
  match regFields a with
  | none => 0
  | some fs => accessMask (fun x => decide (x = .rwl)) fs

/-- The bits of a register that a write reaches and LOCK does not protect. -/
def State.freeMask (a : Nat) : Word :=
  match regFields a with
  | none => 0
  | some fs => accessMask (fun x => decide (x = .rw ∨ x = .rwx ∨ x = .w1c ∨ x = .wo)) fs

/-- A write of the register is at the wrong level of its page (R76, R77). -/
def State.wrongLevel (s : State) (reg : Nat) : Bool :=
  decide ((8 ≤ reg % 256 ∧ reg % 256 < 0x40 ∨ reg % 256 = 2) ∧ s.expert (reg / 256) = true ∨
    0x40 ≤ reg % 256 ∧ reg % 256 < 0xE0 ∧ s.expert (reg / 256) = false)

/-- LOCK stops a path at the RWL fields of a register (R72). -/
def State.lockStops (s : State) (p : Path) (reg : Nat) : Bool := s.locked p (reg / 256) && decide (State.lockMask reg ≠ 0)

/-- The write of one field of a register by a path: ignored for the page's level (R76, R77). On a locked path a write of a register that
holds RWL fields raises LOCKED_WRITE and leaves them, while a field of another type takes effect (R72). -/
def fieldWrite (p : Path) (reg : Nat) (rwl : Bool) (f : State → State) (s : State) : State :=
  if !s.pathOpen p (reg / 256) then s
  else if s.wrongLevel reg then s.raiseBit (reg / 256) 47
  else if s.lockStops p reg then (if rwl then s.raiseBit (reg / 256) 46 else f (s.raiseBit (reg / 256) 46))
  else f s

/-- The write of a whole register by a path: ignored for the page's level (R76, R77). On a locked path it raises LOCKED_WRITE; a register
of RWL fields alone is not written, and of another the RWL fields keep their values (R72). `f` takes the word. -/
def regWrite (p : Path) (reg : Nat) (f : Word → State → State) (v : Word) (s : State) : State :=
  if !s.pathOpen p (reg / 256) then s
  else if s.wrongLevel reg then s.raiseBit (reg / 256) 47
  else if s.lockStops p reg then
    let t := s.raiseBit (reg / 256) 46
    if State.freeMask reg = 0 then t else f ((v &&& ~~~State.lockMask reg) ||| (s.reg reg &&& State.lockMask reg)) t
  else f v s

/-- The write of a setting in the register of its page's present level: the basic register's field is RWL, the expert register's RWX
(R6, R72, R76, R77). -/
def levelWrite (p : Path) (page : Nat) (f : State → State) (s : State) : State :=
  if !s.pathOpen p page then s
  else if !s.expert page && s.locked p page then s.raiseBit page 46 else f s

/-- A setting takes a value at its page's present level: at basic level the basic field and the derived expert field, at expert level
the expert field (R76, R77). -/
def setLive (page : Nat) (fb fx : Field) (v : Nat) (s : State) : State :=
  if s.expert page then s.set fx v else (s.set fb v).set fx v

end Sys2Proof.Machine
end

