-- ==== Sys2Proof/Machine/Operands.lean ====
section
/-! DEFINITION. The operand forms: comb cells, crosspoints and lines, packet headers and the words that commands and tables carry. -/
namespace Sys2Proof.Machine

/-! ### Comb cells (R97, R98, R104) -/

/-- The slot type of group `g` in a cell (R98). -/
def cellType (w : Word) (g : Nat) : Nat := bitsOf w (24 + 3 * g) 3

/-- COMMON of a cell. -/
def cellCommon (w : Word) : Nat := bitsOf w 20 4

/-- PLANE of a cell. -/
def cellPlane (w : Word) : Nat := bitsOf w 16 4

/-- The length of a cell in tck without the hold extension (R104). -/
def cellTck (w : Word) : Nat := let d := bitsOf w 4 12; 4 * (if d = 0 then 4096 else d)

/-- LCD_ADV of a cell. -/
def cellLcdAdv (w : Word) : Bool := bitAt w 3

/-- KEY_SAMPLE of a cell. -/
def cellKeySample (w : Word) : Bool := bitAt w 2

/-- FRAME_END of a cell. -/
def cellFrameEnd (w : Word) : Bool := bitAt w 1

/-- HOLD of a cell. -/
def cellHold (w : Word) : Bool := bitAt w 0

/-- Slot type codes (R99). -/
def slotIdle : Nat := 0
def slotLed : Nat := 1
def slotLcd : Nat := 2
def slotKey : Nat := 3
def slotPrecharge : Nat := 4
def slotProbe : Nat := 5
def slotHealth : Nat := 6
def slotString : Nat := 7

/-! ### Crosspoints (R33) and the lines of a group -/

/-- The crosspoint index of C-line `c` and S-line `x` (16 to 47) of group `g` (R33). -/
def crosspoint (g c x : Nat) : Nat := g * 512 + c * 32 + (x - 16)

/-- Group, C-line and S-line of a crosspoint index. -/
def cpGroup (i : Nat) : Nat := i / 512
def cpCommon (i : Nat) : Nat := i % 512 / 32
def cpLine (i : Nat) : Nat := i % 32 + 16

/-! ### Attribute entries (R144) -/

/-- The point has an LED or LCD role. -/
def patDisplay (e : Word) : Bool := bitAt e 46

/-- The point has a key or contact role. -/
def patKey (e : Word) : Bool := bitAt e 47

/-! ### Packet headers (R17, R32) -/

def pktDest (k : Packet) : Nat := bitsOf k.header 41 7
def pktSource (k : Packet) : Nat := bitsOf k.header 34 7
def pktPlane (k : Packet) : Nat := bitsOf k.header 30 4
def pktType (k : Packet) : Nat := bitsOf k.header 24 6
def pktSeq (k : Packet) : Nat := bitsOf k.header 12 12
def pktLen (k : Packet) : Nat := bitsOf k.header 0 12

/-- A payload word; words past the payload read 0. -/
def pktWord (k : Packet) (i : Nat) : Word := k.payload.getD i 0

/-- A packet with a header of the given fields and LENGTH from its payload. -/
def mkPacket (dest source plane type seq : Nat) (payload : List Word) : Packet :=
  { header := packWord [(41, 7, dest), (34, 7, source), (30, 4, plane), (24, 6, type), (12, 12, seq), (0, 12, payload.length)]
    payload := payload }

/-- The broadcast address and the planes (R18, R32). -/
def broadcast : Nat := 0x7F
def planeData : Nat := 1
def planeControl : Nat := 2
def planeManagement : Nat := 3

/-! ### Exact fractions, for the ledger's comparisons -/

/-- A non-negative fraction, not reduced. -/
structure Frac where
  num : Nat
  den : Nat
  deriving DecidableEq, Repr

/-- The sum of two fractions. -/
def Frac.add (a b : Frac) : Frac := ⟨a.num * b.den + b.num * a.den, a.den * b.den⟩

/-- The larger of two fractions. -/
def Frac.max (a b : Frac) : Frac := if a.num * b.den < b.num * a.den then b else a

/-- A fraction is at most a natural number. -/
def Frac.leNat (a : Frac) (n : Nat) : Bool := decide (a.num ≤ n * a.den)

/-- The sum of a list of fractions. -/
def Frac.sum : List Frac → Frac
  | [] => ⟨0, 1⟩
  | a :: r => a.add (Frac.sum r)

/-- A fraction rounded down and up. -/
def Frac.floor (a : Frac) : Nat := a.num / a.den
def Frac.ceil (a : Frac) : Nat := ceilDiv a.num a.den

end Sys2Proof.Machine
end

