-- ==== Sys2Proof/Machine/Bank.lean ====
section
/-! DEFINITION. What a comb bank holds and how long its frame lasts (R95 to R108), and the settings of the groups and strings that a
bank is checked against (R114). -/
namespace Sys2Proof.Machine

namespace State

/-- The active bank and the shadow bank (R95). -/
def activeBank (s : State) : Nat := s.get Fld.COMB_STATUS_ACTIVE_BANK
def shadowBank (s : State) : Nat := 1 - s.activeBank

/-- Cell `i` of a bank. -/
def cell (s : State) (bank i : Nat) : Word := Table.get (fun _ => 0) s.comb.cells (512 * bank + i)

/-- The state with cell `i` of a bank written. -/
def setCell (s : State) (bank i : Nat) (v : Word) : State :=
  { s with comb := { s.comb with cells := Table.put (fun _ => 0) s.comb.cells (512 * bank + i) v } }

/-- The period P of a bank; 0 is free-running (R106). -/
def period (s : State) (bank : Nat) : Nat := if bank = 0 then s.comb.period0 else s.comb.period1

/-- The state with a bank's period set. -/
def setPeriod (s : State) (bank p : Nat) : State :=
  if bank = 0 then { s with comb := { s.comb with period0 := p } } else { s with comb := { s.comb with period1 := p } }

end State

/-- The first cell of a list with FRAME_END, counted from `i` (R105). -/
def firstFrameEnd : List Word → Nat → Option Nat
  | [], _ => none
  | w :: r, i => if cellFrameEnd w then some i else firstFrameEnd r (i + 1)

/-- The 384 cells of a bank in order. -/
def bankCells (s : State) (bank : Nat) : List Word := (List.range 384).map (s.cell bank)

/-- The index e of the frame-end cell (R105); none when no cell has FRAME_END. -/
def frameEndOf (s : State) (bank : Nat) : Option Nat := firstFrameEnd (bankCells s bank) 0

/-- Cells 0 to e of a bank; all 384 when no frame end exists. -/
def frameCells (s : State) (bank : Nat) : List Word :=
  match frameEndOf s bank with
  | some e => (bankCells s bank).take (e + 1)
  | none => bankCells s bank

/-- The cell sum S (R105). -/
def cellSum (cells : List Word) : Nat := cells.foldl (fun a w => a + cellTck w) 0

/-- The frame length F: P of a locked bank, S of a free-running one (R106). -/
def frameLen (s : State) (bank : Nat) : Nat :=
  if s.period bank = 0 then cellSum (frameCells s bank) else s.period bank

/-- The length of a cell in its frame, with the hold extension of a locked bank (R107). -/
def cellLen (s : State) (bank : Nat) (w : Word) : Nat :=
  if s.period bank ≠ 0 ∧ cellHold w = true then cellTck w + (s.period bank - cellSum (frameCells s bank)) else cellTck w

/-- The cells of a bank's frame with their lengths in it. -/
def timedCells (s : State) (bank : Nat) : List (Word × Nat) :=
  let cells := frameCells s bank
  let ext := s.period bank - cellSum cells
  cells.map fun w => (w, cellTck w + (if s.period bank ≠ 0 ∧ cellHold w = true then ext else 0))

/-! ### Settings of groups and strings -/

namespace State

/-- Group `g` is configured as an LCD group (R178); the block acts on the expert register, which at basic level holds the derived
value (R76, R77). -/
def isLcd (s : State) (g : Nat) : Bool := s.flag (Fld.GRP_X_DRIVE_KIND g)

/-- Bit g set: group g is an LCD group. -/
def kindMask (s : State) : Nat := (List.range 8).foldl (fun a g => a + b2n (s.isLcd g) * 2 ^ g) 0

/-- The duty count D of a group (R184). -/
def duty (s : State) (g : Nat) : Nat := s.get (Fld.GRP_LCD_DUTY g) + 1

/-- The DUTY fields of all groups, four bits each. -/
def dutyMask (s : State) : Nat := (List.range 8).foldl (fun a g => a + s.get (Fld.GRP_LCD_DUTY g) * 16 ^ g) 0

/-- The plane count of a group as written, which the bank check uses (R114, R157). -/
def planesWritten (s : State) (g : Nat) : Nat := bitsOf (s.reg Reg.FRAME_PLANES) (4 * g) 4

/-- The plane count of a group in force (R157). -/
def planesInForce (s : State) (g : Nat) : Nat := bitsOf (Table.get regReset s.force Reg.FRAME_PLANES) (4 * g) 4

/-- The lines of a group in force: in use and not disabled (R50, R51). -/
def linesOn (s : State) (g : Nat) : Nat :=
  s.inForce (Fld.GRP_LINE_USE_USE g) &&& (2 ^ 48 - 1 - s.get (Fld.GRP_LINE_DISABLED_DIS g))

/-- Line ℓ of group `g` is in use and not disabled. -/
def lineOn (s : State) (g l : Nat) : Bool := (s.linesOn g).testBit l

end State

/-- The number of S-lines (16 to 47) set in a 48-bit mask. -/
def countS (m : Nat) : Nat := (List.range 32).foldl (fun a k => a + b2n (m.testBit (16 + k))) 0

/-- The largest duty D among the LCD groups of a mask of kinds. -/
def maxDuty (s : State) (kinds : Nat) : Nat :=
  (List.range 8).foldl (fun a g => if kinds.testBit g then max a (s.duty g) else a) 0

/-! ### The structural rules of the bank check (R97 to R113) -/

/-- Whether a field of slot type `t` may stand in group `g` (R99): an LED or PRECHARGE field in an LED group, an LCD field in an LCD
group, a KEY or HEALTH field on a common at or above D in an LCD group, a STRING field in groups 4 to 7. -/
def typeAllowed (s : State) (g : Nat) (w : Word) : Bool :=
  let t := cellType w g
  if t = slotLed ∨ t = slotPrecharge then !s.isLcd g
  else if t = slotLcd then s.isLcd g
  else if t = slotKey ∨ t = slotHealth then !s.isLcd g || decide (s.duty g ≤ cellCommon w)
  else if t = slotString then decide (4 ≤ g)
  else true

/-- Whether the PLANE value of a cell is allowed for the field of group `g` (R99, R101). -/
def planeAllowed (s : State) (g : Nat) (w : Word) : Bool :=
  let t := cellType w g
  let b := cellPlane w
  if t = slotLed then decide (b < s.planesWritten g)
  else if t = slotLcd ∨ t = slotProbe then decide (b ≤ 1)
  else if t = slotKey ∨ t = slotPrecharge ∨ t = slotHealth then decide (b = 0)
  else if t = slotString then decide (b < s.get (Fld.STRING_CTRL_PLANES (g - 4)))
  else true

/-- The common of the last LED field of group `g` in a list of cells. -/
def lastLedCommon (g : Nat) (cells : List Word) : Option Nat :=
  cells.foldl (fun a w => if cellType w g = slotLed then some (cellCommon w) else a) none

/-- Whether the LED field of group `g` at a cell lacks its pre-charge (cause 6): its common differs from that of the group's previous
LED field and the group's previous field is no PRECHARGE, both taken cyclically (R113). `before` are the cells before it, `all` the
cells 0 to e. -/
def prechargeMissing (g : Nat) (all before : List Word) (w : Word) : Bool :=
  if cellType w g = slotLed then
    let prevCell := (before.getLast?).getD (all.getLastD 0)
    let prevLed := match lastLedCommon g before with
      | some c => some c
      | none => lastLedCommon g all
    decide (prevLed ≠ some (cellCommon w)) && decide (cellType prevCell g ≠ slotPrecharge)
  else false

/-- Whether R112 is broken by a cell (cause 7). -/
def flagConflict (s : State) (w : Word) : Bool :=
  (cellKeySample w && !((List.range 8).any fun g => decide (cellType w g = slotKey ∨ cellType w g = slotHealth)))
  || (cellLcdAdv w && decide (s.kindMask = 0))

/-- The lowest of causes 4 to 7 that a cell breaks; 0 for none. -/
def cellCause (s : State) (all before : List Word) (w : Word) : Nat :=
  if (List.range 8).any fun g => !typeAllowed s g w then 4
  else if (List.range 8).any fun g => !planeAllowed s g w then 5
  else if (List.range 8).any fun g => prechargeMissing g all before w then 6
  else if flagConflict s w then 7
  else 0

/-- The first cell that breaks one of causes 4 to 7, with its cause. -/
def firstCellCause (s : State) (all : List Word) : List Word → List Word → Option (Nat × Nat)
  | _, [] => none
  | before, w :: r =>
    let c := cellCause s all before w
    if c = 0 then firstCellCause s all (before ++ [w]) r else some (c, before.length)

/-- Whether R111 is broken (cause 8): with an LCD group, A is 0 or some LCD frame is not from 960,000 to 6,400,000 tck long. -/
def lcdRateBad (s : State) (cells : List Word) (f : Nat) : Bool :=
  let a := (cells.filter cellLcdAdv).length
  (List.range 8).any fun g => s.isLcd g &&
    (decide (a = 0) || decide (s.duty g * f < 960000 * a) || decide (6400000 * a < s.duty g * f))

/-- The structural part of the bank check: the cause and the cell it was found at (R113); cause 0 for none. -/
def structuralCause (s : State) (bank : Nat) : Nat × Nat :=
  match frameEndOf s bank with
  | none => (1, 383)
  | some e =>
    let cells := frameCells s bank
    let sum := cellSum cells
    let p := s.period bank
    let f := if p = 0 then sum else p
    let holds := (cells.filter cellHold).length
    if f < 48000 ∨ 960000 < f ∨ p ≠ 0 ∧ (p % 4 ≠ 0 ∨ ticksPerSecond % p ≠ 0) then (2, e)
    else if p ≠ 0 ∧ (p < sum ∨ sum ≠ p ∧ holds = 0 ∨ 1 < holds) then (3, e)
    else match firstCellCause s cells [] cells with
      | some (c, i) => (c, i)
      | none => if lcdRateBad s cells f then (8, e) else (0, 0)

/-! ### The worst case of a bank (R322) -/

/-- U_g: the lengths of all cells of a bank whose field for group `g` is LED (R322). -/
def ledTck (s : State) (bank g : Nat) : Nat :=
  (timedCells s bank).foldl (fun a c => if cellType c.1 g = slotLed then a + c.2 else a) 0

/-- The larger of a field's value in force and its written value (R322). -/
def larger (s : State) (f : Field) : Nat := max (s.inForce f) (s.get f)

/-- The number of S-lines of group `g` in use as written and not disabled (R163). -/
def nSWritten (s : State) (g : Nat) : Nat :=
  countS (s.get (Fld.GRP_LINE_USE_USE g) &&& (2 ^ 48 - 1 - s.get (Fld.GRP_LINE_DISABLED_DIS g)))

/-- The larger count of S-lines in use and not disabled, in force and as written (R163, R322). -/
def nSWorst (s : State) (g : Nat) : Nat := max (countS (s.linesOn g)) (nSWritten s g)

/-- The term of group `g` of H_wc in mW: n_S × ISEG × 0.125 × DROP × 0.05 × U_g ÷ F (R322). -/
def groupHeat (s : State) (bank g : Nat) : Frac :=
  ⟨nSWorst s g * larger s (Fld.GRP_X_DRIVE_ISEG g) * larger s (Fld.GRP_X_DRIVE_DROP g) * ledTck s bank g,
    160 * max 1 (frameLen s bank)⟩

/-- A code of HMARGIN in mV; values below 16 act as 16 (R225). -/
def hmarginMv (code : Nat) : Nat := 50 * max 16 code

/-- W_n in mW for an IREF and an RSNS, with the larger of each other setting in force and as written (R322): I = 200 × IREF ÷ RSNS mA and
V_ref = 2 × IREF mV. -/
def stringHeatAt (s : State) (n iref rsns : Nat) : Frac :=
  if iref = 0 then ⟨0, 1⟩
  else
    let rs := max 1 rsns
    let vref := 2 * iref
    let top := max (50 * larger s (Fld.STRING_SUP_VLOW n))
      (vref + hmarginMv (larger s (Fld.STRING_X_SEQ_HMARGIN n)) + 32 * larger s (Fld.STRING_SUP_K n))
    ⟨iref * (top - vref) * rs + 1920 * iref * iref, 5 * rs * rs⟩

/-- W_n with the larger of the current in force and the current written (R322). -/
def stringHeat (s : State) (n : Nat) : Frac :=
  (stringHeatAt s n (s.inForce (Fld.STRING_CTRL_IREF n)) (s.inForce (Fld.STRING_CTRL_RSNS n))).max
    (stringHeatAt s n (s.get (Fld.STRING_CTRL_IREF n)) (s.get (Fld.STRING_CTRL_RSNS n)))

/-- H_wc of a bank in mW (R322). -/
def worstHeat (s : State) (bank : Nat) : Frac :=
  (Frac.mk (larger s Fld.LEDGER_LIMITS_BASE_HEAT) 1).add
    ((Frac.sum ((List.range 8).map (groupHeat s bank))).add (Frac.sum ((List.range 4).map (stringHeat s))))

/-- H_wc of a bank is at most 6,000 mW (R322). -/
def heatOk (s : State) (bank : Nat) : Bool := (worstHeat s bank).leNat 6000

/-- The guard of R324, on the state with the written value in place: the active bank, and the shadow bank while it is CHECKING or
PASSED, stay within 6,000 mW. -/
def guardOk (s : State) : Bool :=
  heatOk s s.activeBank &&
  (decide (s.get Fld.COMB_STATUS_SHADOW_STATE ≠ 1 ∧ s.get Fld.COMB_STATUS_SHADOW_STATE ≠ 2) || heatOk s s.shadowBank)

/-- W_g of R163 in units of 0.125 mA: S-lines in use and not disabled times ISEG, each the larger of in force and pending. -/
def commonWorst (s : State) (g : Nat) : Nat := nSWorst s g * larger s (Fld.GRP_X_DRIVE_ISEG g)

/-- 640 mA in units of 0.125 mA (R163). -/
def clineLimit : Nat := 5120

/-- W_g is at most 640 mA (R163). -/
def commonOk (s : State) (g : Nat) : Bool := decide (commonWorst s g ≤ clineLimit)

/-- The cause and cell a check of the shadow bank finds: the structural rules, then the C-line limit and the 6 W limit as cause 9
(R113, R323). -/
def checkCause (s : State) (bank : Nat) : Nat × Nat :=
  match structuralCause s bank with
  | (0, _) => if heatOk s bank && ((List.range 8).all fun g => s.isLcd g || commonOk s g) then (0, 0)
      else (9, (frameEndOf s bank).getD 383)
  | r => r

/-! ### The comb's run states and the shadow bank's states -/

def combStopped : Nat := 0
def combRunning : Nat := 1
def combWaiting : Nat := 2
def combAligning : Nat := 3
def bankUnchecked : Nat := 0
def bankChecking : Nat := 1
def bankPassed : Nat := 2
def bankFailed : Nat := 3
def bankFilling : Nat := 4

namespace State
def runState (s : State) : Nat := s.get Fld.COMB_STATUS_RUN_STATE
def shadowState (s : State) : Nat := s.get Fld.COMB_STATUS_SHADOW_STATE
end State

/-- States of groups and strings (R176, R223). -/
def grpOff : Nat := 0
def grpOn : Nat := 1
def grpStopping : Nat := 2
def grpRestart : Nat := 3

namespace State
def grpState (s : State) (g : Nat) : Nat := s.get (Fld.GRP_STATUS_STATE g)
def strState (s : State) (n : Nat) : Nat := s.get (Fld.STRING_STAT_STATE n)

/-- Every group and every string is OFF (R126). -/
def allOff (s : State) : Bool :=
  ((List.range 8).all fun g => decide (s.grpState g = grpOff)) && ((List.range 4).all fun n => decide (s.strState n = grpOff))
end State

end Sys2Proof.Machine
end

