-- ==== Sys2Proof/Machine/Crc.lean ====
section
/-! DEFINITION. The checksums of the part: CRC-32C over words and bytes (R119, R339, R434) and the CRC-8 of link-state words. -/
namespace Sys2Proof.Machine

/-- One bit step of CRC-32C in its reflected form: the polynomial 0x1EDC6F41 reversed is 0x82F63B78. -/
def crc32cBit (c : BitVec 32) : BitVec 32 := if c.getLsbD 0 then (c >>> 1) ^^^ 0x82F63B78#32 else c >>> 1

/-- CRC-32C register after one byte. -/
def crc32cByte (c : BitVec 32) (b : Byte) : BitVec 32 :=
  crc32cBit (crc32cBit (crc32cBit (crc32cBit (crc32cBit (crc32cBit (crc32cBit (crc32cBit (c ^^^ b.setWidth 32))))))))

/-- CRC-32C of a byte string: initial value and final exclusive-or 0xFFFFFFFF. -/
def crc32c (bs : List Byte) : BitVec 32 := (bs.foldl crc32cByte 0xFFFFFFFF#32) ^^^ 0xFFFFFFFF#32

/-- CRC-32C of words, each as six bytes, most significant byte first (R119, R434). -/
def crc32cWords (ws : List Word) : BitVec 32 := crc32c (ws.flatMap wordBytes)

/-- One bit step of the CRC-8 with polynomial 0x07. -/
def crc8Bit (c : BitVec 8) : BitVec 8 := if c.getLsbD 7 then (c <<< 1) ^^^ 0x07#8 else c <<< 1

/-- CRC-8 register after one byte. -/
def crc8Byte (c : BitVec 8) (b : Byte) : BitVec 8 :=
  crc8Bit (crc8Bit (crc8Bit (crc8Bit (crc8Bit (crc8Bit (crc8Bit (crc8Bit (c ^^^ b))))))))

/-- CRC-8 of a byte string, initial value 0. -/
def crc8 (bs : List Byte) : BitVec 8 := bs.foldl crc8Byte 0

end Sys2Proof.Machine
end

