-- ==== Sys2Proof/Machine/Flags.lean ====
section
/-! DEFINITION. Flag computations: the EVENTS registers with their summary (R68, R69, R93), the progress of a page's long operation
(R70, R71), and the status copies that every page shows (R594). -/
namespace Sys2Proof.Machine

/-- A page has a flag set in EVENTS (R69). -/
def pageHasEvent (s : State) (page : Nat) : Bool := !reservedPage page && decide (s.reg (page * 256 + 4) ≠ 0)

/-- A word with bit n set when page `base + n` has an event pending, for n below `n` (R69). -/
def eventSummary (s : State) (base n : Nat) : Word :=
  BitVec.ofNat 48 ((List.range n).foldl (fun a k => a + b2n (pageHasEvent s (base + k)) * 2 ^ k) 0)

/-- DEVICE.EVENT_SUM0 and DEVICE.EVENT_SUM1 (R69). -/
def eventSum0 (s : State) : Word := eventSummary s 0 48
def eventSum1 (s : State) : Word := eventSummary s 48 16

/-- STATUS of a page: the stored block state with the copies of LOCKED and EXPERT (R594). -/
def pageStatus (s : State) (page : Nat) : Word :=
  withBits (withBits (s.reg (page * 256 + 3)) 47 1 (b2n (decide (bitsOf (s.reg (page * 256 + 6)) 0 3 ≠ 0))))
    46 1 (b2n (s.expert page))

/-- LOCK of a page with LOCKED computed from PATHS (R71). -/
def pageLock (s : State) (page : Nat) : Word :=
  withBits (s.reg (page * 256 + 6)) 47 1 (b2n (decide (bitsOf (s.reg (page * 256 + 6)) 0 3 ≠ 0)))

/-! ### The progress of a page's operation (R70) -/

/-- A page's operation runs (OP_ACTIVE). -/
def opActive (s : State) (page : Nat) : Bool := bitAt (s.reg (page * 256 + 3)) 45

/-- Puts OP_ACTIVE and OP_STOPPED of a page. -/
def opFlags (s : State) (page : Nat) (active stopped : Bool) : State :=
  (s.set ⟨page * 256 + 3, 45, 1⟩ (b2n active)).set ⟨page * 256 + 3, 44, 1⟩ (b2n stopped)

/-- PERCENT and POSITION of a page: floor(100 × done ÷ total) (R70). -/
def opAt (s : State) (page done total : Nat) : State :=
  (s.set ⟨page * 256 + 5, 40, 8⟩ (100 * done / max 1 total)).set ⟨page * 256 + 5, 0, 32⟩ done

/-- A page's operation starts (R70). -/
def opStart (s : State) (page code : Nat) : State :=
  opAt ((opFlags s page true false).set ⟨page * 256 + 5, 32, 8⟩ code) page 0 1

/-- How much of an operation of `total` has been done: a free value below the total, since the manual does not time its steps. -/
def doneNow (s : State) (page total : Nat) : Nat := min (Config.progress page s.now) (total - 1)

/-- PERCENT and POSITION of an operation of `total` show how much of it has been done (R70). -/
def opShow (total : Nat) (s : State) (page : Nat) : State := opAt s page (doneNow s page total) total

/-- A page's operation completes at its final position (R70). -/
def opDone (s : State) (page position : Nat) : State :=
  ((opFlags s page false false).set ⟨page * 256 + 5, 40, 8⟩ 100).set ⟨page * 256 + 5, 0, 32⟩ position

/-- A page's operation stops before completion; PERCENT and POSITION keep the point reached (R70). -/
def opStop (s : State) (page : Nat) : State := opFlags s page false true

/-- A request meets a running operation (R71). -/
def opRefused (s : State) (page : Nat) : State := s.raiseBit page 43

end Sys2Proof.Machine
end

