-- ==== Sys2Proof/Machine/FaultOps.lean ====
section
/-! DEFINITION. The fault log, the counters and the self-test engines as the blocks use them (R556 to R564). -/
namespace Sys2Proof.Machine

/-- Kinds of error (R556). -/
def kindProbe : Nat := 1
def kindClamp : Nat := 2
def kindLampOpen : Nat := 3
def kindStringOpen : Nat := 4
def kindMemTile : Nat := 5
def kindConfigFrame : Nat := 6
def kindScrubReg : Nat := 7
def kindRingCrc : Nat := 8
def kindStoreSector : Nat := 9

/-- Classes of a record (R564). -/
def classPending : Nat := 0
def classTransient : Nat := 1
def classLasting : Nat := 2
def classUntested : Nat := 3

/-- A record of the fault log (R564). -/
def faultWord (kind cls mapped object rep sec : Nat) : Word :=
  packWord [(43, 5, kind), (41, 2, cls), (40, 1, mapped), (16, 24, object), (12, 4, rep), (0, 12, sec)]

/-- FAULT.STATUS.ENTRIES follows the log. -/
def faultSync (s : State) : State :=
  (s.set Fld.FAULT_STATUS_ENTRIES s.fault.log.length).set Fld.FAULT_STATUS_LINES s.fault.lineRecord.length

/-- Writes a record at the head of the log (R564). -/
def faultPush (s : State) (kind cls mapped object : Nat) : State :=
  let wraps := decide (64 ≤ s.fault.log.length)
  let s := { s with fault := { s.fault with
    log := (faultWord kind cls mapped object 0 (s.seconds % 4096) :: s.fault.log).take 64 } }
  let s := if wraps then s.raise Fld.FAULT_EVENTS_LOG_WRAPPED else s
  faultSync (s.raise Fld.FAULT_EVENTS_NEW_FAULT)

/-- Whether a record is the open (PENDING) record of a part. -/
def recordOf (kind object : Nat) (w : Word) : Bool :=
  decide (bitsOf w 43 5 = kind) && decide (bitsOf w 16 24 = object) && decide (bitsOf w 41 2 = classPending)

/-- Changes the newest record of a list that satisfies `p`. -/
def updateFirst (p : Word → Bool) (f : Word → Word) : List Word → List Word
  | [] => []
  | w :: r => if p w then f w :: r else w :: updateFirst p f r

/-- Changes the open record of a part. -/
def faultUpdate (s : State) (kind object : Nat) (f : Word → Word) : State :=
  { s with fault := { s.fault with log := updateFirst (recordOf kind object) f s.fault.log } }

/-- Counts a class of a kind: TRANSIENT in [47:32], LASTING in [31:16], UNTESTED in [15:0], saturating (R566). -/
def faultCount (s : State) (kind cls : Nat) : State :=
  let w := Table.get (fun _ => 0) s.fault.counters kind
  let lo := if cls = classTransient then 32 else if cls = classLasting then 16 else 0
  { s with fault := { s.fault with
    counters := Table.put (fun _ => 0) s.fault.counters kind (withBits w lo 16 (satAdd 16 (bitsOf w lo 16) 1)) } }

/-- SELFTEST.STATUS.BUSY: bit k − 1 of the field is set while the engine of kind k runs (R565). -/
def busySync (s : State) : State :=
  s.set Fld.SELFTEST_STATUS_BUSY
    ((List.range 9).foldl (fun a k => a + b2n (s.fault.tests.any fun t => t.kind == k + 1) * 2 ^ k) 0 |||
      b2n (s.fault.probes.toList.any (·.retest)))

/-- SELFTEST.PROGRESS while a memory tile test runs: OPCODE 0x01 (R565). -/
def tileTestProgress (s : State) (kind : Nat) : State := if kind = kindMemTile then opStart s 0x30 1 else s

/-- The group whose C-line a CLINE_CLAMP test drives is OFF: its safe point has come (R556). -/
def clampReady (s : State) (object : Nat) : Bool := decide (s.get (Fld.GRP_STATUS_STATE (object / 2 ^ 21)) = 0)

/-- The first request of a kind begins on tck `now` where `ready` says so and it has not yet. -/
def beginFirst (kind now : Nat) (ready : Nat → Bool) : List TestReq → List TestReq
  | [] => []
  | t :: r =>
    if t.kind = kind then (if t.began.isNone && ready t.object then { t with began := some now } else t) :: r
    else t :: beginFirst kind now ready r

/-- The engine of a kind takes up its next test; a CLINE_CLAMP test waits for the group's safe point (R556, R560). -/
def beginTest (kind : Nat) (s : State) : State :=
  { s with fault := { s.fault with tests := beginFirst kind s.now (fun o => decide (kind ≠ kindClamp) || clampReady s o) s.fault.tests } }

/-- The length in tck that R556 gives a kind's self-test: the least of a tile's, and none for a store sector's, of which R556 gives the most. -/
def testLength (kind : Nat) : Nat :=
  if kind = kindClamp then 2048
  else if kind = kindMemTile then 20480
  else if kind = kindConfigFrame then 2112
  else if kind = kindScrubReg then 16
  else if kind = kindRingCrc then 262144
  else 0

/-- A test of the part is running or waiting. -/
def testWaits (s : State) (kind object : Nat) : Bool := s.fault.tests.any fun t => t.kind == kind && t.object == object

/-- An error starts the self-test of its kind on a part (R556, R560, R561): a test that is pending or running on the part takes one
more REPEAT; a tenth request of a kind (one runs and eight wait) is UNTESTED. -/
def startTest (s : State) (kind object : Nat) : State :=
  if testWaits s kind object then
    faultUpdate s kind object fun w => withBits w 12 4 (satAdd 4 (bitsOf w 12 4) 1)
  else if 9 ≤ (s.fault.tests.filter fun t => t.kind == kind).length then
    (faultCount (faultPush s kind classUntested 0 object) kind classUntested).raise Fld.SELFTEST_EVENTS_UNTESTED
  else
    let first := !(s.fault.tests.any fun t => t.kind == kind)
    let s := faultPush s kind classPending 0 object
    let s := busySync (beginTest kind { s with fault := { s.fault with tests := s.fault.tests ++ [⟨kind, object, none⟩] } })
    if first then tileTestProgress s kind else s

/-- Writes the class of a part's open record, counts it and raises its flag (R557, R561). -/
def classify (s : State) (kind object cls mapped : Nat) : State :=
  let s := faultUpdate s kind object fun w => withBits (withBits w 41 2 cls) 40 1 mapped
  let s := faultCount s kind cls
  if cls = classTransient then s.raise Fld.SELFTEST_EVENTS_TRANSIENT
  else if cls = classLasting then s.raise Fld.SELFTEST_EVENTS_LASTING
  else s.raise Fld.SELFTEST_EVENTS_UNTESTED

/-- A kind whose measurement is its test (LAMP_OPEN, STRING_OPEN): the record is LASTING at detection (R556). -/
def faultLasting (s : State) (kind mapped object : Nat) : State :=
  (faultCount (faultPush s kind classLasting mapped object) kind classLasting).raise Fld.SELFTEST_EVENTS_LASTING

/-- Abandons the tests whose request satisfies `p`: their records take CLASS UNTESTED (R562). -/
def abandonTests (s : State) (p : TestReq → Bool) : State :=
  let gone := s.fault.tests.filter p
  let s := gone.foldl (fun s t => classify s t.kind t.object classUntested 0) s
  busySync { s with fault := { s.fault with tests := s.fault.tests.filter fun t => !p t } }

/-- OBJECT codes (R564). -/
def objClamp (g c : Nat) : Nat := g * 2 ^ 21 + c * 2 ^ 15
def objLamp (n k : Nat) : Nat := n * 2 ^ 22 + k * 2 ^ 18
def objString (n : Nat) : Nat := n * 2 ^ 22
def objTile (t : Nat) : Nat := t * 2 ^ 12
def objFrame (ctx fa : Nat) : Nat := ctx * 2 ^ 21 + fa * 2 ^ 7
def objCopy (k : Nat) : Nat := k * 2 ^ 22
def objPort (b : Bool) : Nat := b2n b * 2 ^ 23
def objSector (sec piece : Nat) : Nat := sec * 2 ^ 13 + piece * 2 ^ 9
def objPair (a b : Nat) : Nat := (a / 48) * 2 ^ 21 + (a % 48) * 2 ^ 15 + (b / 48) * 2 ^ 12 + (b % 48) * 2 ^ 6

/-- The state of a probe pointer. -/
def State.probe (s : State) (g : Nat) : ProbeState := s.fault.probes.getD g {}

/-- The state with a probe pointer changed. -/
def State.modProbe (s : State) (g : Nat) (f : ProbeState → ProbeState) : State :=
  { s with fault := { s.fault with probes := s.fault.probes.setIfInBounds g (f (s.probe g)) } }

end Sys2Proof.Machine
end

