-- ==== Sys2Proof/Machine/Mem.lean ====
section
/-! DEFINITION. The memory layer: words, tiles and their states, the writes that meet openings and frame buffers, and the checks at
an opening (R12, R13, R134, R434 to R440). -/
namespace Sys2Proof.Machine

/-- Tile states (R436). -/
def tileGood : Nat := 0
def tileFailed : Nat := 1
def tileTesting : Nat := 2
def tileRetired : Nat := 3

/-- The canonical form of the memory layer: rising addresses, no listed word equal to the 0 an unlisted word reads as (R589). -/
abbrev Memory.wf (m : Table Word) : Bool := Table.wf (fun _ => 0) m

/-- The canonical form of the external memories: rising byte addresses, no listed byte equal to what an unlisted one holds. -/
abbrev Memory.extWf (m : Table Nat) : Bool := Table.wf (fun _ => 0) m

namespace State

/-- A word of the memory layer by its address tile × 1,024 + word, as the array holds it. -/
def memRaw (s : State) (a : Nat) : Word := Table.get (fun _ => 0) s.fabric.mem a

/-- FABRIC window table 0x01 entry of a tile without the checksum. -/
def tileWord (s : State) (t : Nat) : Word := Table.get (fun _ => 0) s.fabric.tiles t

/-- The state of a tile (R436). -/
def tileState (s : State) (t : Nat) : Nat := bitsOf (s.tileWord t) 46 2

/-- The state with a tile's entry changed. -/
def modTile (s : State) (t : Nat) (f : Word → Word) : State :=
  { s with fabric := { s.fabric with tiles := Table.put (fun _ => 0) s.fabric.tiles t (f (s.tileWord t)) } }

/-- The state with a tile's state set. -/
def setTileState (s : State) (t v : Nat) : State := s.modTile t fun w => withBits w 46 2 v

/-- A read of a memory word: a RETIRED tile's words read 0 (R437). -/
def memRead (s : State) (a : Nat) : Word := if s.tileState (a / 1024) = tileRetired then 0 else s.memRaw a

/-- The words of a tile in order. -/
def tileWords (s : State) (t : Nat) : List Word := (List.range 1024).map fun k => s.memRead (1024 * t + k)

/-- The checksum of a tile in the side array (R434). -/
def tileCrc (s : State) (t : Nat) : BitVec 32 := crc32cWords (s.tileWords t)

/-- The state with every word of a tile 0. -/
def zeroTile (s : State) (t : Nat) : State :=
  { s with fabric := { s.fabric with mem := s.fabric.mem.keys fun k => !(k / 1024 == t) } }

/-- FRONT of a group: buffer B is the front buffer (R131). -/
def frontB (s : State) (g : Nat) : Bool := s.flag (Fld.FRAME_BUF_FRONT g)

/-- First word address of a buffer of a group as placed in force (R130, R132); `b` for buffer B. -/
def bufferBase (s : State) (g : Nat) (b : Bool) : Nat :=
  if b then 1024 * s.inForce (Fld.FRAME_BUF_TILE_B g) + 128 * s.inForce (Fld.FRAME_BUF_SLOT_B g)
  else 1024 * s.inForce (Fld.FRAME_BUF_TILE_A g) + 128 * s.inForce (Fld.FRAME_BUF_SLOT_A g)

/-- A window's entry of FABRIC window table 0x02. -/
def winWord (s : State) (w : Nat) : Word := Table.get (fun _ => 0) s.fabric.windows w

/-- The state with a window's entry replaced, and OPEN counted (R452). -/
def setWin (s : State) (w : Nat) (v : Word) : State :=
  let s := { s with fabric := { s.fabric with windows := Table.put (fun _ => 0) s.fabric.windows w v } }
  s.set Fld.FABRIC_STATUS_OPEN ((List.range 32).foldl (fun a k => a + b2n (decide (bitsOf (s.winWord k) 46 2 = 2))) 0)

end State

/-- After a write has reached word `a`: windows being opened on its tile restart (R438); between a freeze point and its commit
clock, back buffers it lies in count as written (R134). -/
def noteWrite (s : State) (a : Nat) : State :=
  let t := a / 1024
  let hit := (List.range 32).filter fun w => decide (bitsOf (s.winWord w) 46 2 = 1) && decide (bitsOf (s.winWord w) 31 12 = t)
  let s := { s with fabric := { s.fabric with dirty := s.fabric.dirty ++ hit.filter fun w => !(w ∈ s.fabric.dirty) } }
  if s.commit.frozen then
    let busy := (List.range 8).foldl (fun m g =>
      let b := s.bufferBase g (!s.frontB g)
      if b ≤ a ∧ a < b + 128 then m ||| 2 ^ g else m) s.commit.busyFlips
    { s with commit := { s.commit with busyFlips := busy } }
  else s

/-- Stage 1's pass over the tiles of this frame covers tile `t` now: pass i runs from C + 64 + 1,040 × i for 1,040 tck without
contention (R135, R139, R142). -/
def inPass (s : State) (t : Nat) : Bool :=
  match s.pipe.passTiles.findIdx? (· == t) with
  | none => false
  | some i => decide (s.pipe.passStart + 1040 * i ≤ s.now ∧ s.now < s.pipe.passStart + 1040 * (i + 1))

/-- The groups that fetch from tile `t`: FETCH_EN in force and the front buffer in it (R139). -/
def fetchers (s : State) (t : Nat) : List Nat :=
  (List.range 8).filter fun g => decide (s.inForce (Fld.FRAME_BUF_FETCH_EN g) = 1) &&
    decide (s.bufferBase g (s.frontB g) / 1024 = t) && decide (s.get (Fld.GRP_STATUS_STATE g) ≠ 0)

/-- The 512 crosspoints of a group take the values of another table. -/
def restoreGroup (old new : Table Nat) (g : Nat) : Table Nat :=
  (new.filter fun e => decide (e.1 / 512 < g)) ++ (old.filter fun e => decide (e.1 / 512 = g)) ++
    (new.filter fun e => decide (g < e.1 / 512))

/-- The groups of a list hold their levels in the coming frame (R140). -/
def holdGroups (gs : List Nat) (s : State) : State :=
  { s with pipe := { s.pipe with nextHolding := gs.foldl (fun m g => m ||| 2 ^ g) s.pipe.nextHolding } }

/-- A write reached a tile during stage 1's pass over it: its fetch counts as not done, and its groups hold their levels (R142). -/
def collide (s : State) (t : Nat) : State :=
  (holdGroups (fetchers s t) { s with pipe := { s.pipe with collided := t :: s.pipe.collided } }).raise Fld.FRAME_EVENTS_FETCH_COLLISION

/-- A tile of the staging area that the running load needs (R459). -/
def staged (s : State) (t : Nat) : Bool :=
  match s.config.load with
  | none => false
  | some l => decide (1 ≤ s.get Fld.CONFIG_LOAD_STAT_STATE ∧ s.get Fld.CONFIG_LOAD_STAT_STATE ≤ 3 ∧ l.stage ≤ t ∧
      t < l.stage + ceilDiv l.words 1024)

/-- A write of a memory word that the tile takes, with its checksum: a write during stage 1's pass over the tile collides (R142, R434). -/
def memTake (s : State) (a : Nat) (v : Word) : State :=
  let hit := inPass s (a / 1024)
  let s := { s with fabric := { s.fabric with mem := Table.put (fun _ => 0) s.fabric.mem a v } }
  let s := noteWrite s a
  if hit then collide s (a / 1024) else s

/-- A write of a memory word from any path: ignored on a reserved staging tile (R459) and, while the queen role is held, on the
retransmission store (R399); ignored on a TESTING or RETIRED tile (R437). -/
def memWrite (s : State) (a : Nat) (v : Word) : State :=
  let t := a / 1024
  if staged s t then s.raise Fld.CONFIG_EVENTS_STAGE_WRITE
  else if s.flag Fld.HIVE_STATUS_QUEEN ∧ 4032 ≤ t then s
  else if s.tileState t = tileTesting ∨ s.tileState t = tileRetired then s.raise Fld.FABRIC_EVENTS_TEST_WRITE
  else memTake s a v

/-- Writes a run of memory words from address `a`. -/
def memWriteRun (s : State) (a : Nat) : List Word → State
  | [] => s
  | v :: vs => memWriteRun (memWrite s a v) (a + 1) vs

/-- The self-test of a FAILED tile is requested: TESTING from the same tck (R436), but for a request that is not tested (R560). -/
def testTile (s : State) (t : Nat) : State :=
  let s := startTest s kindMemTile (objTile t)
  if testWaits s kindMemTile (objTile t) then s.setTileState t tileTesting else s

/-- An opening of tile `t` by consumer `opener` fails its check with checksum `found` (R436): FAILED, and in the same tck its targeted
self-test is requested. -/
def tileFail (s : State) (t opener : Nat) (found : BitVec 32) : State :=
  let s := s.modTile t fun w => withBits (withBits w 46 2 tileFailed) 32 8 (satAdd 8 (bitsOf w 32 8) 1)
  let s := s.setReg Reg.FABRIC_TILE_STAT (packWord [(47, 1, 1), (35, 12, t), (32, 3, opener), (0, 32, found.toNat)])
  testTile (s.raise Fld.FABRIC_EVENTS_TILE_FAIL) t

/-- What an opening of tile `t` finds: `found` is the checksum read when an upset made it differ from the side array, none when they
agree. A tile that is not GOOD is refused without a new failure (R435, R437). -/
def openTile (s : State) (t opener : Nat) (found : Option (BitVec 32)) : Bool × State :=
  if s.tileState t = tileGood then
    match found with
    | none => (true, s)
    | some c => (false, tileFail s t opener c)
  else (false, s)

end Sys2Proof.Machine
end

