-- ==== Sys2Proof/Machine/CombOps.lean ====
section
/-! DEFINITION. The comb's shadow bank: writes, checks, loads, copies and swap requests, and what makes a pass lapse (R113 to R124). -/
namespace Sys2Proof.Machine

/-- The page number of the comb, and the operation codes of COMB.PROGRESS (R125). -/
def combPage : Nat := 0x10

/-- The bank check of the shadow bank starts (R115, R116). -/
def startCheck (s : State) : State :=
  opStart (s.set Fld.COMB_STATUS_SHADOW_STATE bankChecking) combPage 2

/-- The length of the comb page's operation in cells: a check tests cells 0 to e, a load and a copy write all 384 (R115, R120, R121). -/
def combTotal (s : State) : Nat := if s.shadowState = bankChecking then (frameEndOf s s.shadowBank).getD 383 + 1 else 384

/-- The comb page's operation stops at the point it has reached (R70). -/
def stopCombOp (s : State) : State := opStop (opShow (combTotal s) s combPage) combPage

/-- A running check is abandoned (R116). -/
def abandonCheck (s : State) : State := if s.shadowState = bankChecking then stopCombOp s else s

/-- A change of a group kind, a plane count, an LCD duty, an inversion or the bias: a PASSED shadow bank returns to UNCHECKED, also when a
load or copy is filling it, a running check starts again from cell 0, and the passes of both banks lapse (R114). -/
def lapse (s : State) : State :=
  let prior := if s.comb.priorState = bankPassed then bankUnchecked else s.comb.priorState
  let s := { s with comb := { s.comb with activePassed := false, shadowPassed := false, priorState := prior } }
  if s.shadowState = bankPassed then s.set Fld.COMB_STATUS_SHADOW_STATE bankUnchecked
  else if s.shadowState = bankChecking then startCheck s
  else s

/-- A write has reached the shadow bank or its period: between a freeze point and its commit clock it is late (R124, R26). -/
def lateWrite (s : State) : State :=
  if s.commit.frozen then
    { s.raise Fld.COMB_EVENTS_LATE_WRITE with commit := { s.commit with busySwap := true } }
  else s

/-- A write of the shadow bank's cells or period, `f`, under R116: ignored with OP_REFUSED while FILLING, else the bank becomes
UNCHECKED. -/
def shadowWrite (f : State → State) (s : State) : State :=
  if s.shadowState = bankFilling then opRefused s combPage
  else
    let s := (abandonCheck s).set Fld.COMB_STATUS_SHADOW_STATE bankUnchecked
    lateWrite (f { s with comb := { s.comb with shadowPassed := false } })

/-- A write of shadow cell `i` (R122, R123); an index above 383 is no cell. -/
def writeShadowCell (i : Nat) (v : Word) (s : State) : State :=
  if i < 384 then shadowWrite (fun s => s.setCell s.shadowBank i v) s else s

/-- A write of SHADOW_PERIOD (R125). -/
def writeShadowPeriod (p : Nat) (s : State) : State := shadowWrite (fun s => s.setPeriod s.shadowBank p) s

/-- CHECK_REQ (R116): refused while a check or a load or copy runs. -/
def checkRequest (s : State) : State :=
  if s.shadowState = bankChecking ∨ s.shadowState = bankFilling then opRefused s combPage else startCheck s

/-- The bank check completes (R113, R116). -/
def checkDone (s : State) : State :=
  if s.shadowState = bankChecking then
    let r := checkCause s s.shadowBank
    let e := (frameEndOf s s.shadowBank).getD 383
    if r.1 = 0 then
      let s := opDone ((s.set Fld.COMB_STATUS_SHADOW_STATE bankPassed).set Fld.COMB_STATUS_CHECK_CAUSE 0) combPage e
      { s with comb := { s.comb with shadowPassed := true, shadowKinds := s.kindMask, shadowDuties := s.dutyMask } }
    else
      let s := opDone (s.set Fld.COMB_STATUS_SHADOW_STATE bankFailed) combPage e
      let s := { s with comb := { s.comb with shadowPassed := false } }
      ((s.set Fld.COMB_STATUS_CHECK_CAUSE r.1).set Fld.COMB_STATUS_FAIL_CELL r.2).raise Fld.COMB_EVENTS_CHECK_FAILED
  else s

/-- SHADOW_STATE becomes FILLING with the operation `op` (R116); a running check is abandoned and is not restarted. -/
def startFilling (op : CombOp) (code : Nat) (s : State) : State :=
  if s.shadowState = bankFilling then opRefused s combPage
  else
    let prior := if s.shadowState = bankChecking then bankUnchecked else s.shadowState
    let passed := s.comb.shadowPassed && decide (prior = bankPassed)
    let s := { s with comb := { s.comb with priorState := prior, op := op, shadowPassed := passed } }
    opStart (s.set Fld.COMB_STATUS_SHADOW_STATE bankFilling) combPage code

/-- LOAD_REQ of the layout in a tile; LOCK_HIVE is taken at the start (R120). -/
def loadRequest (tile : Nat) (s : State) : State :=
  startFilling (.load tile (s.flag Fld.COMB_BASIC_LOCK_HIVE)) 1 s

/-- COPY_REQ (R121): the first cell is written on the copy's first tck, so a copy begun between a freeze point and its commit clock is late
(R26, R124). -/
def copyRequest (s : State) : State :=
  if s.shadowState = bankFilling then opRefused s combPage else lateWrite (startFilling .copy 3 s)

/-- A load fails: nothing is written, and the shadow bank returns to its state before the load (R116). -/
def loadFail (cause : Nat) (s : State) : State :=
  let s := { s with
    comb := { s.comb with op := .none }
    hive := { s.hive with preparing := false, early := if s.hive.preparing then 2 else s.hive.early } }
  let s := (stopCombOp s).set Fld.COMB_STATUS_SHADOW_STATE s.comb.priorState
  ((s.set Fld.COMB_STATUS_CHECK_CAUSE cause).set Fld.COMB_STATUS_FAIL_CELL 0).raise Fld.COMB_EVENTS_LOAD_FAILED

/-- The cells of a bank replaced by a list, and the cells past it by 0. -/
def fillBank (bank : Nat) (cells : List Word) (s : State) : State :=
  { s with comb := { s.comb with
    cells := Table.putList (fun _ => 0) (s.comb.cells.filter fun e => !(e.1 / 512 == bank)) (512 * bank) cells } }

/-- The fault of a layout in a tile: 0 none, 12 its header, 13 its CRC-32C (R113, R119). -/
def layoutCause (s : State) (tile : Nat) : Nat :=
  let w0 := s.memRead (1024 * tile)
  let w1 := s.memRead (1024 * tile + 1)
  let n := bitsOf w0 12 12
  if bitsOf w0 32 16 ≠ 0x434D ∨ bitsOf w0 24 8 ≠ 1 ∨ n = 0 ∨ 384 < n ∨ bitsOf w0 0 12 ≠ 0 ∨ bitsOf w1 24 24 ≠ 0 then 12
  else if (s.memRead (1024 * tile + n + 2)).toNat ≠
      (crc32cWords ((List.range (n + 2)).map fun k => s.memRead (1024 * tile + k))).toNat then 13
  else 0

/-- A load has written for 448 tck when it completes (R120): a commit clock within that time had writes before it, which were late. -/
def loadSpansCommit (s : State) : Bool := match s.commit.last with | none => false | some c => decide (s.now < c + 448)

/-- A load or copy has written the shadow bank: writes during it may be late, and the check starts (R116, R124). -/
def fillingDone (s : State) : State :=
  let s := if s.comb.op ≠ .copy ∧ loadSpansCommit s = true then s.raise Fld.COMB_EVENTS_LATE_WRITE else s
  startCheck (lateWrite { s with comb := { s.comb with op := .none, shadowPassed := false }, hive := { s.hive with preparing := false } })

/-- The layout load completes (R120): the tile is opened, header and CRC are verified, then the bank is written and checked. -/
def loadDone (found : Option (BitVec 32)) (s : State) : State :=
  match s.comb.op with
  | .load tile lockHive =>
    if s.shadowState = bankFilling then
      let o := openTile s tile 2 found
      if o.1 = false then loadFail 11 o.2
      else
        let c := layoutCause s tile
        if c ≠ 0 then loadFail c s
        else
          let n := bitsOf (s.memRead (1024 * tile)) 12 12
          let p := if lockHive then bitsOf (s.memRead (1024 * tile + 1)) 0 24 else 0
          let s := fillBank s.shadowBank ((List.range n).map fun k => s.memRead (1024 * tile + 2 + k)) s
          let s := s.setPeriod s.shadowBank p
          fillingDone { s with comb := { s.comb with loadPeriod := p } }
    else s
  | _ => s

/-- The copy of the active bank completes (R121). -/
def copyDone (s : State) : State :=
  match s.comb.op with
  | .copy =>
    if s.shadowState = bankFilling then
      let s := fillBank s.shadowBank (bankCells s s.activeBank) s
      fillingDone (s.setPeriod s.shadowBank (s.period s.activeBank))
    else s
  | _ => s

/-- A swap request on the comb's page: a set of one member, and a check of an UNCHECKED bank (R23, R116, R125). -/
def swapRequest (s : State) : State :=
  let s := { s with commit := { s.commit with
    sets := s.commit.sets ++ [{ swap := true, flips := 0, ctx := none, bound := false, frozen := false }] } }
  if s.shadowState = bankUnchecked then startCheck s else s

/-- The banks exchange roles (R96, R116, R126): the new shadow bank is PASSED when it passed a check that has not lapsed. A load or
copy still running goes on into the new shadow bank, and a check of the bank that becomes active is dropped. -/
def exchangeBanks (s : State) : State :=
  let filling := decide (s.shadowState = bankFilling)
  let after := if s.comb.activePassed then bankPassed else bankUnchecked
  let s := abandonCheck s
  let s := s.set Fld.COMB_STATUS_ACTIVE_BANK s.shadowBank
  let s := { s with comb := { s.comb with
    activePassed := s.comb.shadowPassed, shadowPassed := s.comb.activePassed
    priorState := if filling then after else s.comb.priorState
    activeKinds := s.comb.shadowKinds, shadowKinds := s.comb.activeKinds
    activeDuties := s.comb.shadowDuties, shadowDuties := s.comb.activeDuties } }
  (s.set Fld.COMB_STATUS_SHADOW_STATE (if filling then bankFilling else after)).raise Fld.COMB_EVENTS_SWAPPED

/-- COMB.X_PERIOD as read: at basic level SHADOW_PERIOD is the period set by the last load (R125). DESIGN CHOICE: a swap leaves that value as it
is, and a change to expert level shows the shadow bank's own period at once. -/
def combPeriods (s : State) : Word :=
  packWord [(24, 24, if s.expert combPage then s.period s.shadowBank else s.comb.loadPeriod), (0, 24, s.period s.activeBank)]

end Sys2Proof.Machine
end

