-- ==== Sys2Proof/Machine/Pipeline.lean ====
section
/-! DEFINITION. The display pipeline: blink phases, fetch, compose, calibrate, scale and encode, for display points and for lamps
(R130 to R158, R211 to R213). A level with its class is coded level + 1,024 × class + 4,096 × held. -/
namespace Sys2Proof.Machine

/-! ### Blink generators (R147) -/

/-- Whether a blink generator is in its on phase at a hive time in units of 10 ms: ((t10 − OFFSET) mod PERIOD) < ON. -/
def blinkOn (w : Word) (t10 : Nat) : Bool :=
  let period := bitsOf w 39 9
  decide ((((t10 : Int) - (bitsOf w 21 9 : Int)) % (period : Int)).toNat < bitsOf w 30 9)

/-- The phases of the four generators at a hive time, bit n for generator n. -/
def blinkPhases (s : State) (t10 : Nat) : Nat :=
  (List.range 4).foldl (fun a n => a + b2n (blinkOn (s.reg (Reg.FRAME_BLINK n)) t10) * 2 ^ n) 0

/-! ### Fade (R149) -/

/-- Fade time of a code in ms. -/
def fadeMs : Nat → Nat
  | 1 => 20
  | 2 => 40
  | 3 => 60
  | 4 => 100
  | 5 => 150
  | 6 => 200
  | 7 => 300
  | 8 => 400
  | 9 => 500
  | 10 => 750
  | 11 => 1000
  | 12 => 1500
  | 13 => 2000
  | 14 => 3000
  | 15 => 5000
  | _ => 0

/-- The step of a fade code for a frame of `f` tck: ceil(1,023 × F ÷ T). -/
def fadeStep (f code : Nat) : Nat := ceilDiv (1023 * f) (192000 * fadeMs code)

/-- Moves `x` towards `t` by at most `step`. -/
def moveToward (x t step : Nat) : Nat := if x < t then min t (x + step) else max t (x - step)

/-! ### Compose, calibrate, scale, encode -/

/-- The composed level of a point and its new fade state (R146). `code` is its fade code; `ovr` is none where the override does not act
on it, else its mode and level; `phase` is false in the off phase of a blink it follows. -/
def composePoint (level low fadeState step code priority : Nat) (phase : Bool) (ovr : Option (Nat × Nat)) : Nat × Nat :=
  let t := if phase then level else low
  let f := if code = 0 then t else moveToward fadeState t step
  let v := match ovr with
    | none => f
    | some (mode, lvl) => if mode = 0 then f else if mode = 1 then 1023 else if mode = 2 then (if priority = 3 then f else 0) else lvl
  (v, f)

/-- The calibrated level: min(1,023, floor(V × g × h × d ÷ 4,194,304)) (R150). -/
def calibrate (v g h d : Nat) : Nat := min 1023 (v * g * h * d / 4194304)

/-- The scaled level: floor(C × s_k ÷ 256) (R152). -/
def scaleLevel (c f : Nat) : Nat := c * f / 256

/-- The code of a level for a plane count N: floor((E × (2^N − 1) + 511) ÷ 1,023) (R154). -/
def encodeLevel (e n : Nat) : Nat := (e * (2 ^ n - 1) + 511) / 1023

/-- The derating factor for a temperature: the first of R151's rules that applies. -/
def derateFactor (knee slope mn : Nat) (off faulty : Bool) (t : Int) : Nat :=
  if off || decide (slope = 0) then 256
  else if faulty then min mn 256
  else if t ≤ (knee : Int) then 256
  else (max (min mn 256 : Int) (256 - (slope : Int) * (t - (knee : Int)))).toNat

/-- Temperature in °C of drive-layer sensor `g`, as last converted (R574). -/
def dieTemp (s : State) (g : Nat) : Int := Table.get (fun _ => 0) s.therm.die g

/-- Temperature of NTC input `n` (R576). -/
def ntcTemp (s : State) (n : Nat) : Int := if n = 0 then s.getInt Fld.THERM_NTC_T0 else s.getInt Fld.THERM_NTC_T1

/-- The THERM page reports NTC input `n` as faulty (R574, R576). -/
def ntcFaulty (s : State) (n : Nat) : Bool :=
  decide ((if n = 0 then s.get Fld.THERM_STATUS_NTC0_STATE else s.get Fld.THERM_STATUS_NTC1_STATE) ≠ 0)

/-- The temperature input a two-bit source code chooses for group or string sensor `g`, and whether it is faulty (R151). -/
def tempOf (s : State) (src g : Nat) : Int × Bool :=
  if src = 1 then (ntcTemp s 0, ntcFaulty s 0)
  else if src = 2 then (ntcTemp s 1, ntcFaulty s 1)
  else (dieTemp s g, false)

/-- The derating factor of group `g` and the temperature shown for it (R151). -/
def groupDerate (s : State) (g : Nat) : Nat × Int :=
  let src := s.get Fld.CALIB_DERATE_SRC
  let t := tempOf s src g
  (derateFactor (s.get Fld.CALIB_DERATE_KNEE) (s.get Fld.CALIB_DERATE_SLOPE) (s.get Fld.CALIB_DERATE_MIN) (decide (src = 3)) t.2 t.1, t.1)

/-- The derating factor of string `n` (R213). -/
def stringDerate (s : State) (n : Nat) : Nat :=
  let src := s.get (Fld.STRING_CTRL_TSRC n)
  let t := tempOf s src (Config.stringSensor n).val
  derateFactor (s.get Fld.STRING_DERATE_KNEE) (s.get Fld.STRING_DERATE_SLOPE) (s.get Fld.STRING_DERATE_MIN) (decide (src = 3)) t.2 t.1

/-- The point field of a crosspoint in a buffer that starts at word `base`: LEVEL (R130). -/
def bufferLevel (s : State) (base i : Nat) : Nat := bitsOf (s.memRead (base + i / 4)) (12 * (i % 4)) 10

/-- A tile of stage 1's order: the tiles of the fetching groups' front buffers, each once, in group order (R139). -/
def fetchTiles (s : State) : List Nat :=
  (List.range 8).foldl (fun l g =>
    if s.inForce (Fld.FRAME_BUF_FETCH_EN g) = 1 ∧ s.grpState g ≠ grpOff then
      let t := s.bufferBase g (s.frontB g) / 1024
      if t ∈ l then l else l ++ [t]
    else l) []

/-- The levels of group `g` taken from its front buffer. -/
def captureGroup (s : State) (g : Nat) : Table Nat :=
  let base := s.bufferBase g (s.frontB g)
  ((List.range 512).map fun i => (512 * g + i, bufferLevel s base i)).filter fun e => !(e.2 == 0)

/-- Group `g` and tile `t` among the failures that stage 1 remembers. -/
def failKey (g t : Nat) : Nat := 4096 * g + t

/-- Stage 1 opens tile `t` in this frame: for a group it has not failed for, or once CLEAR has made the tile GOOD (R141, R436). -/
def opensTile (s : State) (t : Nat) : Bool := decide (s.tileState t = tileGood) || (fetchers s t).any fun g => !(failKey g t ∈ s.pipe.failed)

/-- The levels of the groups of tile `t` are those just read, and its failures are forgotten (R139, R141). -/
def captureTile (t : Nat) (s : State) : State :=
  (fetchers s t).foldl (fun s g => { s with pipe := { s.pipe with held := restoreGroup (captureGroup s g) s.pipe.held g } })
    { s with pipe := { s.pipe with failed := s.pipe.failed.filter fun k => !(k % 4096 == t) } }

/-- A tile fails its check at fetch: its groups hold their levels (R140, R437). -/
def fetchFails (t : Nat) (s : State) : State :=
  let gs := fetchers s t
  let s := holdGroups gs s
  let s := { s with pipe := { s.pipe with failed := gs.map (failKey · t) ++ s.pipe.failed.filter fun k => !(k % 4096 == t) } }
  let s := s.set Fld.FRAME_STATUS_HOLDING (gs.foldl (fun m g => m ||| 2 ^ g) (s.get Fld.FRAME_STATUS_HOLDING))
  (s.set Fld.FRAME_STATUS_FAIL_TILE t).raise Fld.FRAME_EVENTS_TILE_FAIL

/-- Stage 1's pass over tile `t` ends: the levels are captured when the opening passes, held when it fails; after a collision nothing is done,
and no failure is recorded (R139, R140, R142). -/
def passTile (t : Nat) (found : Option (BitVec 32)) (s : State) : State :=
  if t ∈ s.pipe.collided ∨ s.pipe.passed = false then s
  else
    let o := openTile s t 1 found
    if o.1 then captureTile t o.2 else fetchFails t o.2

/-- Stage 1 begins: the tiles that it opens follow each other at 1,040 tck, without contention, and each pass ends with its check; the groups of
a tile that it does not open hold their levels (R135, R139, R141). -/
def startPasses (found : List (Nat × BitVec 32)) (s : State) : State :=
  let all := fetchTiles s
  let s := (all.filter fun t => !opensTile s t).foldl (fun s t => holdGroups (fetchers s t) s) s
  let tiles := all.filter (opensTile s)
  let s := { s with pipe := { s.pipe with passTiles := tiles } }
  tiles.zipIdx.foldl (fun s e => s.later (1040 * (e.2 + 1)) (.tilePass e.1 ((found.find? fun x => x.1 == e.1).map (·.2)))) s

/-- What stages 2 and 3 sample at C + 64 for the frame that begins at local tck `c`: the blink phases, FRAME.OVR, the tables as they stand, the
frame length of the fade steps, and the derating factors (R136, R147, R149, R151, R211, R213). DESIGN CHOICE: a temperature above 127 °C shows its
low 8 bits in CALIB window table 0x02. -/
def samplePass (c : Nat) (s : State) : State :=
  { s with
    pipe := { s.pipe with
      nextHolding := 0, passTiles := [], collided := [], binPass := [], passStart := s.now
      phases := blinkPhases s (s.elapseTo c).hiveT10
      ovrPass := s.reg Reg.FRAME_OVR
      patPass := s.pipe.pat
      stepFrame := frameLen s s.activeBank
      derate := (List.range 8).map fun g => (g, let d := groupDerate s g; 512 * ofSigned 8 d.2 + d.1)
      passed := true }
    lamps := { s.lamps with tablePass := s.lamps.table, derate := (List.range 4).map fun n => (n, stringDerate s n) } }

/-- Stages 1 to 3 begin at C + 64, and groups and strings that are ON have their pass (R135 to R143, R173, R222). The coming frame begins at local
tck `c`; `found` gives the tiles an upset makes fail, with the checksum read. -/
def stageOne (c : Nat) (found : List (Nat × BitVec 32)) (s : State) : State :=
  let s := startPasses found (samplePass c s)
  let s := s.forEach 8 fun g s => if s.grpState g = grpOn then s.modGrp g fun x => { x with passDone := true } else s
  s.forEach 4 fun n s =>
    if s.strState n = grpOn then
      s.modStr n fun x => { x with passDone := true } else s

/-- The local tck on which stage 2 reads the attribute entry of point `i`: as its word arrives from stage 1, and for a group without a pass of its
tile at C + 64 (R135, R136). -/
def pointReadAt (s : State) (i : Nat) : Nat :=
  let base := s.bufferBase (i / 512) (s.frontB (i / 512))
  match s.pipe.passTiles.findIdx? (· == base / 1024) with
  | none => s.pipe.passStart
  | some k => if i / 512 ∈ fetchers s (base / 1024) then s.pipe.passStart + 1040 * k + base % 1024 + i % 512 / 4 else s.pipe.passStart

/-- The pass of this frame has not read point `i` yet; a write on the tck of the read comes after it (R136). -/
def pointUnread (s : State) (i : Nat) : Bool := s.pipe.passed && decide (s.now < pointReadAt s i)

/-- A write of an entry of the point attribute table: the pass in progress sees it where it has not read the entry yet (R136, R144). -/
def putPat (i : Nat) (v : Word) (s : State) : State :=
  let p := if pointUnread s i then Table.put (fun _ => 0) s.pipe.patPass i v else s.pipe.patPass
  { s with pipe := { s.pipe with pat := Table.put (fun _ => 0) s.pipe.pat i v, patPass := p } }

/-- The bin factor H of a point in the pass of this frame: as stage 3 computed it (R150). -/
def binOf (s : State) (i : Nat) (e : Word) : Nat :=
  match Table.get (fun _ => 0) s.pipe.binPass i with
  | 0 => Table.get (fun _ => 0x80) s.pipe.bins (16 * (i / 512) + bitsOf e 32 4)
  | h + 1 => h

/-- A write of a bin factor (R151): points that the pass of this frame has computed keep the factor they were computed with. -/
def writeBin (k h : Nat) (s : State) : State :=
  let done := s.pipe.patPass.filter fun e => decide (16 * (e.1 / 512) + bitsOf e.2 32 4 = k) && !pointUnread s e.1
  let keep := if s.pipe.passed then done.foldl (fun b e => Table.put (fun _ => 0) b e.1 (binOf s e.1 e.2 + 1)) s.pipe.binPass else s.pipe.binPass
  { s with pipe := { s.pipe with bins := Table.put (fun _ => 0x80) s.pipe.bins k h, binPass := keep } }

/-- Whether the phase of a blink lets a point show its level: BLINK_EN 0, or the generator's phase differs from BLINK_INV. -/
def showsLevel (phases : Nat) (en : Bool) (gen : Nat) (inv : Bool) : Bool := !en || (phases.testBit gen != inv)

/-- The override that acts on a point of group `g` (R146, R149): its mode and level, none when it does not act. -/
def overrideOf (ovr : Word) (member inGroup : Bool) : Option (Nat × Nat) :=
  if member && inGroup then some (bitsOf ovr 34 2, bitsOf ovr 24 10) else none

/-- One display point of the coming frame: the composed level and new fade state, then in an LED group the calibrated level (R146, R150,
R153). The result is the level with its class, and the fade state. -/
def pointOf (s : State) (i : Nat) (e : Word) : Nat × Nat :=
  let g := i / 512
  let ovr := s.pipe.ovrPass
  let level := if s.inForce (Fld.FRAME_BUF_FETCH_EN g) = 1 then Table.get (fun _ => 0) s.pipe.held i else 0
  let r := composePoint level (bitsOf e 13 10) (Table.get (fun _ => 0) s.pipe.fade i) (fadeStep s.pipe.stepFrame (bitsOf e 36 4))
    (bitsOf e 36 4) (bitsOf e 44 2) (showsLevel s.pipe.phases (bitAt e 43) (bitsOf e 41 2) (bitAt e 40))
    (overrideOf ovr (bitAt e 23) ((bitsOf ovr 40 8).testBit g))
  let d := Table.get (fun _ => 256) s.pipe.derate g % 512
  let c := if s.isLcd g then r.1 else calibrate r.1 (bitsOf e 24 8) (binOf s i e) d
  (c + 1024 * bitsOf e 44 2 + 4096 * b2n (s.pipe.nextHolding.testBit g), r.2)

/-- The points of the coming frame with their calibrated levels and fade states: a point without an LED or LCD role has level 0, and its fade
state stands (R145, R146). An entry of all zeros is not listed: its level and its class are 0. -/
def calibratedPoints (s : State) : List (Nat × Nat × Nat) :=
  s.pipe.patPass.map fun e =>
    if patDisplay e.2 then let p := pointOf s e.1 e.2; (e.1, p.1, p.2)
    else (e.1, 1024 * bitsOf e.2 44 2, Table.get (fun _ => 0) s.pipe.fade e.1)

/-- One lamp of the coming frame (R212): the calibrated level with its class, and the fade state. -/
def lampOf (s : State) (i : Nat) (e : Word) : Nat × Nat :=
  let ovr := s.pipe.ovrPass
  let r := composePoint (bitsOf e 18 10) 0 (Table.get (fun _ => 0) s.lamps.fade i) (fadeStep s.pipe.stepFrame (bitsOf e 37 4))
    (bitsOf e 37 4) (bitsOf e 45 2) (showsLevel s.pipe.phases (bitAt e 44) (bitsOf e 42 2) (bitAt e 41)) (overrideOf ovr (bitAt e 36) true)
  (min 1023 (r.1 * bitsOf e 28 8 * Table.get (fun _ => 256) s.lamps.derate (i / 16) / 32768) + 1024 * bitsOf e 45 2, r.2)

/-- The lamps of the coming frame with their calibrated levels and fade states (R212): a lamp with USE = 0 has level 0, and its fade state
stands. -/
def calibratedLamps (s : State) : List (Nat × Nat × Nat) :=
  s.lamps.tablePass.map fun e =>
    if bitAt e.2 47 then let p := lampOf s e.1 e.2; (e.1, p.1, p.2)
    else (e.1, 1024 * bitsOf e.2 45 2, Table.get (fun _ => 0) s.lamps.fade e.1)

/-- The factor s_k of a plan. -/
def Plan.factor (p : Plan) (k : Nat) : Nat := if k = 0 then p.s0 else if k = 1 then p.s1 else if k = 2 then p.s2 else p.s3

/-- Stage 4 on coded levels: LED points and lamps are scaled by their class's factor, LCD points pass through (R152, R153). -/
def scaleAll (lcd : Nat → Bool) (p : Plan) (l : List (Nat × Nat × Nat)) : Table Nat :=
  (l.map fun e =>
    let c := e.2.1 % 1024
    let rest := e.2.1 - c
    (e.1, (if lcd e.1 then c else scaleLevel c (p.factor (e.2.1 / 1024 % 4))) + rest)).filter fun e => !(e.2 == 0)

/-- Fade states that are not 0. -/
def fadesOf (l : List (Nat × Nat × Nat)) : Table Nat := (l.map fun e => (e.1, e.2.2)).filter fun e => !(e.2 == 0)

/-- The fade states after a pass over points: those of other points stand. Both lists rise, and `n` is at least their lengths together. -/
def mergeFades : Nat → Table Nat → List (Nat × Nat × Nat) → Table Nat
  | _, [], ps => fadesOf ps
  | _, old, [] => old
  | 0, old, _ => old
  | n + 1, o :: os, p :: ps =>
    if o.1 < p.1 then o :: mergeFades n os (p :: ps)
    else fadesOf [p] ++ mergeFades n (if o.1 = p.1 then os else o :: os) ps

/-- The coded level of a point in the frame now lit, from the plan that is driven (R310, R319). -/
def litLevel (s : State) (i : Nat) : Nat :=
  Table.get (fun _ => 0) (if s.flag Fld.LEDGER_STATUS_SAG_PLAN then s.pipe.litSag else s.pipe.litNormal) i

/-- The coded level of a lamp in the frame now lit. -/
def litLamp (s : State) (i : Nat) : Nat :=
  Table.get (fun _ => 0) (if s.flag Fld.LEDGER_STATUS_SAG_PLAN then s.lamps.litSag else s.lamps.litNormal) i

/-- The encoded word of group `g`, common `n`, plane `b` of the frame now lit (R155, R156): bit s is set when the point of C-line n and
S-line s is lit. -/
def encodedWord (s : State) (g n b : Nat) : Word :=
  let planes := s.planesInForce g
  BitVec.ofNat 48 ((List.range 32).foldl (fun a k =>
    let e := litLevel s (crosspoint g n (16 + k)) % 1024
    let on := if s.isLcd g then decide (512 ≤ e) && decide (b = 0) else decide (b < planes) && (encodeLevel e planes).testBit b
    a + b2n on * 2 ^ (16 + k)) 0)

/-- The pattern of plane `b` of string `n` from a table of coded levels (R203, R212, R219): bit k is set when lamp k is lit. -/
def patternFrom (s : State) (levels : Table Nat) (n b : Nat) : Nat :=
  let planes := s.inForce (Fld.STRING_CTRL_PLANES n)
  if planes ≤ b then 0
  else (List.range 16).foldl (fun a k =>
    a + b2n ((encodeLevel (Table.get (fun _ => 0) levels (16 * n + k) % 1024) planes).testBit b) * 2 ^ k) 0

/-- The pattern of plane `b` of string `n` in the frame now lit (R226). -/
def litPattern (s : State) (n b : Nat) : Nat :=
  patternFrom s (if s.flag Fld.LEDGER_STATUS_SAG_PLAN then s.lamps.litSag else s.lamps.litNormal) n b

end Sys2Proof.Machine
end

