-- ==== Sys2Proof/Machine/Act.lean ====
section
/-! DEFINITION. How a command acts: the late effects that come first, and the outcomes of events and of accesses to the register file. -/
namespace Sys2Proof.Machine

/-! ### Late effects (R28, R85, R139, R431, R433) -/

namespace State

/-- A late effect takes place. -/
def lateEffect (s : State) : LateEffect → State
  | .commitReport stat flags swapDeferred =>
    let t := ((s.setReg Reg.DEVICE_COMMIT_STAT stat).setReg Reg.DEVICE_EVENTS (s.reg Reg.DEVICE_EVENTS ||| flags)).setPendingSync
    if swapDeferred then t.raise Fld.COMB_EVENTS_SWAP_DEFERRED else t
  | .portPop =>
    let r := popEvent s
    r.2.bridgeAnswers 1 { data := r.1.elim emptyMarker (·.word), more := r.1.elim 0 (·.ext) }
  | .fabricPop =>
    let r := popByPath .fabric s
    r.2.bridgeAnswers 0 { data := r.1 }
  | .windowRead page outside advance =>
    let t := if outside then s.raiseBit page 44 else s
    if advance then t.autoInc .fabric page else t
  | .bridgeData bridge a => s.bridgeAnswers bridge a
  | .tilePass tile found => passTile tile found s

/-- The late effects that `p` picks take place, in their order. -/
def settleWith (p : Late → Bool) (s : State) : State :=
  (s.late.filter p).foldl (fun t l => t.lateEffect l.effect) { s with late := s.late.filter fun l => !p l }

/-- The late effects that come before what happens on the present tck have taken place. -/
def settled (s : State) : State := settleWith (lateDone s.now) s

/-- The late effects of this tck too have taken place, as before a pop by a register path other than the fabric's (R288, R91). -/
def settledNow (s : State) : State := settleWith (fun l => decide (l.due ≤ s.now)) s

/-- Every pass of stage 1 has ended. -/
def passesEnded (s : State) : State := settleWith (fun l => LateEffect.isPass l.effect) s

end State

/-! ### The outcomes of commands -/

/-- A state with the queue of another: an effect reaches everything but the queue. -/
def State.keepQueue (t s : State) : State := { t with pending := s.pending }

/-- The outcome of a command whose effect is `f` on everything but the queue: none while the core clock is stopped (R36) or the device
is in reset (R415). Late effects whose tck has come take place first. -/
def act (s : State) (f : State → State) : Host.Outcome State Fault Refusal :=
  if s.clock.coreStopped || s.clock.inReset then .next s else .next ((f s.settled).keepQueue s)

/-- The outcome of an event of the block of a page: none while a hive reset holds the block (R417). -/
def actIn (page : Nat) (s : State) (f : State → State) : Host.Outcome State Fault Refusal :=
  act s fun s => if s.heldInReset page then s else f s

/-- The outcome of an event that reaches the part whether its core clock runs or not. -/
def actAlways (s : State) (f : State → State) : Host.Outcome State Fault Refusal := .next ((f s).keepQueue s)

/-- The outcome of an access to the register file. The arbiter serves one access a tck, in the order of their commands: each takes the tck
after the one its command is taken on, so that no other access and no event that came before shares its tck (R84, R91 to R94). -/
def access (s : State) (f : State → State) : Host.Outcome State Fault Refusal := act s fun s => f s.nextTck

/-- The outcome of a write of a page's table: none while a hive reset holds the block or the device is in HOLD (R417, R504). -/
def accessIn (page : Nat) (s : State) (f : State → State) : Host.Outcome State Fault Refusal :=
  access s fun s => if s.heldInReset page || decide (s.get Fld.CLOCK_POWER_STATE = 3) then s else f s

end Sys2Proof.Machine
end

