-- ==== Sys2Proof/Machine/Gates.lean ====
section
/-! DEFINITION. What blocks ask of the clock page: the gates of a block that becomes in use (R411, R413) and a wake from STANDBY (R424). -/
namespace Sys2Proof.Machine

/-- Bits of CLOCK.GATE (R428). -/
def gateDrive : Nat := 2 ^ 47
def gateGroup (g : Nat) : Nat := gateDrive + 2 ^ (39 + g)
def gateLcdb : Nat := gateDrive + 2 ^ 38
def gateStrings : Nat := gateDrive + 2 ^ 37
def gateKeyEngine : Nat := gateDrive + 2 ^ 36
def gateRing (b : Bool) : Nat := if b then 2 ^ 34 else 2 ^ 35
def gateXspi : Nat := 2 ^ 33
def gateCrypt : Nat := gateXspi + 2 ^ 32
def gateFabric : Nat := 2 ^ 31
def gateRegion (r : Nat) : Nat := gateFabric + 2 ^ (23 + r)

/-- A block becomes in use: its gate and the gates above it go on, with GATE_AUTO when one was off (R413). -/
def gatesOn (m : Nat) (s : State) : State :=
  let w := s.reg Reg.CLOCK_GATE
  if w &&& BitVec.ofNat 48 m = BitVec.ofNat 48 m then s
  else (s.setReg Reg.CLOCK_GATE (w ||| BitVec.ofNat 48 m)).raise Fld.CLOCK_EVENTS_GATE_AUTO

/-- A gate and every gate above it are on. -/
def gateIsOn (s : State) (m : Nat) : Bool := decide (s.reg Reg.CLOCK_GATE &&& BitVec.ofNat 48 m = BitVec.ofNat 48 m)

/-- The key engine's gate is on, or the engine is in use (R411). -/
def keyEngineOn (s : State) : Bool := gateIsOn s gateKeyEngine

/-- Power states (R424). -/
def powerRun : Nat := 0
def powerDim : Nat := 1
def powerStandby : Nat := 2
def powerHold : Nat := 3

namespace State
def power (s : State) : Nat := s.get Fld.CLOCK_POWER_STATE
def inStandby (s : State) : Bool := decide (s.power = powerStandby)
def inHold (s : State) : Bool := decide (s.power = powerHold)
end State

/-- A key wakes the device from STANDBY: REQ takes RETURN and the exit begins (R424). -/
def wakeByKey (s : State) : State :=
  if s.inStandby && !s.flag Fld.CLOCK_POWER_LEAVING then
    ((s.set Fld.CLOCK_POWER_REQ (s.get Fld.CLOCK_POWER_RETURN)).set Fld.CLOCK_POWER_WAKE_BY 2).set Fld.CLOCK_POWER_LEAVING 1
  else s

/-- The key engine becomes in use when the comb is not STOPPED and a group is not OFF (R411). -/
def keyEngineUse (s : State) : State :=
  if decide (s.runState ≠ combStopped) && (List.range 8).any fun g => decide (s.grpState g ≠ grpOff) then gatesOn gateKeyEngine s else s

end Sys2Proof.Machine
end

