-- ==== Sys2Proof/Machine/Events.lean ====
section
/-! DEFINITION. The event queue, key lock, the unlock sequence and the reset combinations (R279 to R308). -/
namespace Sys2Proof.Machine

/-! ### Event words (R279 to R282) -/

/-- Event types (R279). -/
def evPress : Nat := 0
def evRelease : Nat := 1
def evRepeat : Nat := 2
def evLong : Nat := 3
def evCombo : Nat := 4
def evGhost : Nat := 5
def evHealth : Nat := 6
def evLock : Nat := 7

/-- The event word (R279) with the stamp of the present tck. -/
def eventWord (s : State) (type code data : Nat) : Word :=
  packWord [(45, 3, type), (33, 12, code), (23, 10, data), (20, 3, s.seconds % 8), (0, 20, s.tick / 192)]

/-- The stamp extension (R281). -/
def eventExt (s : State) : Word := packWord [(16, 32, s.seconds), (0, 8, s.tick % 192)]

/-- The place of an event among those of one tck: key, GHOST and HEALTH events by crosspoint, then COMBO, then LOCK events (R252, R282). -/
def Ev.rank (e : Ev) : Nat :=
  let t := bitsOf e.word 45 3
  let c := bitsOf e.word 33 12
  16384 * e.time + (if t = evCombo then 4096 + c else if t = evLock then 8192 else c)

/-- An event put behind every event that enters no later than it. -/
def insertEv (e : Ev) : List Ev → List Ev
  | [] => [e]
  | x :: r => if e.rank < x.rank then e :: x :: r else x :: insertEv e r

/-- Raises an event on the present tck (R251). -/
def raiseEvent (type code data : Nat) (s : State) : State :=
  { s with events := { s.events with
    waiting := insertEv ⟨s.now, eventWord s type code data, eventExt s⟩ s.events.waiting } }

/-! ### The queue (R283 to R290) -/

/-- The oldest raised event enters the queue, or is dropped by its mask (R284) or for want of a FREE slot (R285). -/
def enqueueEvent (s : State) : State :=
  match s.events.waiting with
  | [] => s
  | e :: r =>
    let s := { s with events := { s.events with waiting := r } }
    if (s.get Fld.EVENT_BASIC_TYPE_MASK).testBit (bitsOf e.word 45 3) = false then s
    else if s.events.queued.length + s.events.flight.length < 256 then
      ({ s with events := { s.events with queued := s.events.queued ++ [e] } }).raise Fld.EVENT_EVENTS_QUEUED
    else (s.bump Fld.EVENT_STATUS_LOST 1).raise Fld.EVENT_EVENTS_OVERFLOW

/-- EVENT.LAST_EXT as a path reads it (R290); the service port and the control plane have no copy. -/
def lastExt (s : State) (p : Path) : Word :=
  match p with
  | .ring => s.events.lastRing
  | .fabric => s.events.lastFabric
  | .twi => s.events.lastTwi
  | .service => 0
  | .waggle => 0

/-- EVENT.PEEK and EVENT.PEEK_EXT (R290). -/
def peekWord (s : State) : Word := match s.events.queued with | [] => emptyMarker | e :: _ => e.word
def peekExt (s : State) : Word := match s.events.queued with | [] => 0 | e :: _ => e.ext

/-- EVENT.STATUS with the counts of the queue. -/
def eventStatus (s : State) : Word :=
  withBits (withBits (s.reg Reg.EVENT_STATUS) 23 9 s.events.queued.length) 14 9 s.events.flight.length

/-! ### Combinations (R300 to R304) -/

/-- What an unlisted entry of the key state table reads as (R240). -/
def keyDefault : Nat → Word := fun _ => 0x0000000FFFFF

namespace State

/-- The entry of a crosspoint in the key state table. -/
def keyEntry (s : State) (i : Nat) : Word := Table.get keyDefault s.keys.entries i

/-- The state of a key. -/
def keyStateOf (s : State) (i : Nat) : Nat := bitsOf (s.keyEntry i) 42 3

/-- A key crosspoint: ROLE bit 47, and both lines in use and not disabled (R227). -/
def isKey (s : State) (i : Nat) : Bool :=
  patKey (Table.get (fun _ => 0) s.pipe.pat i) && s.lineOn (cpGroup i) (cpCommon i) && s.lineOn (cpGroup i) (cpLine i)

/-- A combination beside its registers. -/
def comboSt (s : State) (n : Nat) : ComboState := s.klock.combos.getD n {}

/-- The state with a combination changed. -/
def modCombo (s : State) (n : Nat) (f : ComboState → ComboState) : State :=
  { s with klock := { s.klock with combos := s.klock.combos.setIfInBounds n (f (s.comboSt n)) } }

end State

/-- The number of keys that a COMBO_CTRL word names (R300). -/
def comboSize (ctrl : Word) : Nat := bitsOf ctrl 44 2 + 2

/-- The first N codes of a combination (R300). -/
def comboKeys (keys ctrl : Word) : List Nat := ((List.range 4).map fun k => bitsOf keys (36 - 12 * k) 12).take (comboSize ctrl)

/-- The keys of combination `n`. -/
def keysOfCombo (s : State) (n : Nat) : List Nat := comboKeys (s.reg (Reg.KLOCK_COMBO_KEYS n)) (s.reg (Reg.KLOCK_COMBO_CTRL n))

/-- A key is held: PRESSED, REPEATING or LONG (R300). -/
def keyHeld (s : State) (i : Nat) : Bool := s.isKey i && decide (s.keyStateOf i = 1 ∨ s.keyStateOf i = 2 ∨ s.keyStateOf i = 3)

/-- Combination `n` counts: enabled, armed, complete, and not held off by the lock (R300, R302). -/
def comboCounts (s : State) (n : Nat) : Bool :=
  s.flag (Fld.KLOCK_COMBO_CTRL_EN n) && (s.comboSt n).armed && (keysOfCombo s n).all (keyHeld s) &&
    (!s.flag Fld.KLOCK_CTRL_LOCK || s.flag (Fld.KLOCK_COMBO_CTRL_LOCK_BYPASS n))

/-- ARMED and COMPLETE of KLOCK.STATUS follow the combinations. -/
def comboSync (s : State) : State :=
  (s.set Fld.KLOCK_STATUS_ARMED ((List.range 4).foldl (fun a n => a + b2n (s.comboSt n).armed * 2 ^ n) 0)).set
    Fld.KLOCK_STATUS_COMPLETE ((List.range 4).foldl (fun a n => a + b2n (s.comboSt n).timer.isSome * 2 ^ n) 0)

/-- Timers start when their combination becomes complete and return to 0 when it stops being so (R302). -/
def comboUpdate (s : State) : State :=
  comboSync (s.forEach 4 fun n s =>
    if comboCounts s n then s.modCombo n fun c => { c with timer := some (c.timer.getD 0) }
    else s.modCombo n fun c => { c with timer := none })

/-- A key's raw sample is not active: the combinations it belongs to arm (R301). -/
def armCombos (i : Nat) (s : State) : State :=
  s.forEach 4 fun n s => if i ∈ keysOfCombo s n then s.modCombo n fun c => { c with armed := true } else s

/-- A combination is disarmed (R301). -/
def disarmCombo (n : Nat) (s : State) : State := s.modCombo n fun c => { c with armed := false, timer := none }

/-! ### Key lock (R291 to R299) -/

/-- LOCK and its copy take a value, with LOCK_CHANGED. -/
def putLock (on : Bool) (s : State) : State :=
  comboUpdate (((s.setFlag Fld.KLOCK_CTRL_LOCK on).setFlag Fld.KLOCK_STATUS_LOCKED_NOW on).raise Fld.KLOCK_EVENTS_LOCK_CHANGED)

/-- LOCKOUT and LOCKOUT_LEFT follow the lockout counter (R297). -/
def putLockout (n : Nat) (s : State) : State :=
  { s.set Fld.KLOCK_STATUS_LOCKOUT_LEFT (ceilDiv n 100) with klock := { s.klock with lockout := n } }

/-- A write of LOCK (R291, R298). -/
def writeLock (on : Bool) (s : State) : State :=
  if on = s.flag Fld.KLOCK_CTRL_LOCK then s
  else if on then raiseEvent evLock 0 0 (putLock true s)
  else raiseEvent evLock 1 1 (putLockout 0 (((putLock false s).set Fld.KLOCK_STATUS_FAILS 0).set Fld.KLOCK_STATUS_LOCKOUT 0))

/-- The lockout delay after a number of failures, in seconds (R297). -/
def lockoutDelay (s : State) (fails : Nat) : Nat :=
  let base := s.get Fld.KLOCK_BASIC_LOCKOUT_BASE
  min (max base (s.get Fld.KLOCK_BASIC_LOCKOUT_MAX)) (base * 2 ^ (fails - 1))

/-- An unlock attempt fails (R297). -/
def failAttempt (s : State) : State :=
  let fails := satAdd 4 (s.get Fld.KLOCK_STATUS_FAILS) 1
  let delay := lockoutDelay s fails
  let s := ((s.set Fld.KLOCK_STATUS_SEQ_POS 0).set Fld.KLOCK_STATUS_FAILS fails).set Fld.KLOCK_STATUS_LOCKOUT 1
  raiseEvent evLock 2 delay ((putLockout (delay * 100) s).raise Fld.KLOCK_EVENTS_ATTEMPT_FAILED)

/-- Code `k` of the unlock sequence (R295). -/
def seqCode (s : State) (k : Nat) : Nat :=
  if k < 4 then bitsOf s.klock.seqA (36 - 12 * k) 12 else bitsOf s.klock.seqB (36 - 12 * (k - 4)) 12

/-- The gap between presses starts anew (R296). -/
def restartGap (s : State) : State := { s with klock := { s.klock with gapTicks := 0 } }

/-- The matcher receives a PRESS (R295). -/
def matchPress (i : Nat) (s : State) : State :=
  let pos := s.get Fld.KLOCK_STATUS_SEQ_POS
  if s.klock.seqLen = 0 then s
  else
    if i = seqCode s pos then
      if pos + 1 < s.klock.seqLen then (restartGap s).set Fld.KLOCK_STATUS_SEQ_POS (pos + 1)
      else raiseEvent evLock 1 0 (((putLock false s).set Fld.KLOCK_STATUS_SEQ_POS 0).set Fld.KLOCK_STATUS_FAILS 0)
    else failAttempt (restartGap s)

/-- The mute bit of a crosspoint (R293). -/
def muted (s : State) (i : Nat) : Bool := decide (Table.get (fun _ => 0) s.keys.mute i = 1)

/-- Puts a mute bit. -/
def setMute (i v : Nat) (s : State) : State := { s with keys := { s.keys with mute := Table.put (fun _ => 0) s.keys.mute i v } }

/-- A key event of a crosspoint with the HISTORY of its entry (R280). -/
def raiseKey (type i : Nat) (s : State) : State := raiseEvent type i (bitsOf (s.keyEntry i) 0 10) s

/-- The decision on a key event (R292, R293, R295): an exempt key's event is raised; an operator key's PRESS goes to the matcher first, and
lock and mute bit decide on its suppression. -/
def keyEvent (type i : Nat) (s : State) : State :=
  let prof := bitsOf (s.keyEntry i) 45 3
  if (s.get Fld.KLOCK_BASIC_EXEMPT).testBit prof then raiseKey type i s
  else
    let on := s.flag Fld.KLOCK_CTRL_LOCK
    if type = evPress then
      if on then
        let s := if s.get Fld.KLOCK_STATUS_LOCKOUT = 0 ∧ (s.get Fld.KLOCK_BASIC_SEQ_PROFILES).testBit prof = true then matchPress i s else s
        setMute i 1 s
      else if muted s i then s else raiseKey type i s
    else if type = evRelease then (if muted s i then s else raiseKey type i s)
    else if (on || muted s i) then s else raiseKey type i s

/-! ### The 10 ms clock (R242, R296, R297, R302) -/

/-- The tick is counted, and every combination that counts advances (R302). -/
def tickCombos (s : State) : State :=
  let s := comboUpdate { s with keys := { s.keys with ticks := s.keys.ticks + 1, lastTick := some s.now } }
  s.forEach 4 fun n s => s.modCombo n fun c => { c with timer := c.timer.map (· + 1) }

/-- The gap between presses and the lockout counter advance (R296, R297). -/
def tickLock (s : State) : State :=
  if s.flag Fld.KLOCK_STATUS_LOCKOUT then
    putLockout (s.klock.lockout - 1) { s with klock := { s.klock with gapTicks := s.klock.gapTicks + 1 } }
  else { s with klock := { s.klock with gapTicks := s.klock.gapTicks + 1 } }

/-- One tick of the 10 ms clock: combination timers, the lockout counter and the gap between presses count. -/
def keyTick (s : State) : State := tickLock (tickCombos s)

/-- The lockout ends when its counter is 0 (R297). -/
def lockoutEnd (s : State) : State :=
  if s.get Fld.KLOCK_STATUS_LOCKOUT = 1 ∧ s.klock.lockout = 0 then
    raiseEvent evLock 3 (s.get Fld.KLOCK_STATUS_FAILS) (s.set Fld.KLOCK_STATUS_LOCKOUT 0)
  else s

/-- More than GAP × 100 ms between two presses abandons the attempt (R296). -/
def seqGap (s : State) : State :=
  if 0 < s.get Fld.KLOCK_STATUS_SEQ_POS ∧ s.get Fld.KLOCK_BASIC_GAP * 10 < s.klock.gapTicks then s.set Fld.KLOCK_STATUS_SEQ_POS 0 else s

/-- Combination `n` has reached its hold time (R302). -/
def comboDue (s : State) (n : Nat) : Bool :=
  match (s.comboSt n).timer with
  | none => false
  | some t => decide (10 * s.get (Fld.KLOCK_COMBO_CTRL_HOLD n) ≤ t)

/-- The combinations that have reached their hold time fire (R302 to R304): each raises its COMBO event and is disarmed; the highest
ACTION among them is taken once, 1,024 tck later, under the lowest number that has it. -/
def fireCombos (s : State) : State :=
  let due := (List.range 4).filter (comboDue s)
  if due.isEmpty then s
  else
    let acts := due.map fun n => s.get (Fld.KLOCK_COMBO_CTRL_ACTION n)
    let top := acts.foldl max 0
    let first := (due.find? fun n => s.get (Fld.KLOCK_COMBO_CTRL_ACTION n) == top).getD 0
    let s := due.foldl (fun s n =>
      disarmCombo n ((raiseEvent evCombo n (256 * s.get (Fld.KLOCK_COMBO_CTRL_ACTION n)) s).raise Fld.KLOCK_EVENTS_COMBO_FIRED)) s
    comboSync (if top = 0 then s
      else { s with klock := { s.klock with actions := s.klock.actions ++ [⟨s.now + 1024, top, first⟩] } })

/-! ### Register writes of the KLOCK and EVENT pages -/

/-- CLEAR_FAILS (R298). -/
def clearFails (s : State) : State := s.set Fld.KLOCK_STATUS_FAILS 0

/-- SEAL (R305). -/
def sealPage (s : State) : State := s.set Fld.KLOCK_STATUS_SEALED 1

/-- A write that the seal covers (R305). -/
def underSeal (f : State → State) (s : State) : State :=
  if s.flag Fld.KLOCK_STATUS_SEALED then s.raise Fld.KLOCK_EVENTS_SEALED_WRITE else f s

/-- A write of SEQ_A (`k` = 0), SEQ_B (1) or SEQ_LEN (2) (R298, R305, R306). -/
def writeSeq (k : Nat) (v : Word) (s : State) : State :=
  underSeal (fun s =>
    if k = 0 then { s.set Fld.KLOCK_STATUS_SEQ_POS 0 with klock := { s.klock with seqA := v } }
    else if k = 1 then { s.set Fld.KLOCK_STATUS_SEQ_POS 0 with klock := { s.klock with seqB := v } }
    else if 8 < bitsOf v 0 4 then s.raise Fld.KLOCK_EVENTS_SET_REFUSED
    else { s.set Fld.KLOCK_STATUS_SEQ_POS 0 with klock := { s.klock with seqLen := bitsOf v 0 4 } }) s

/-- The codes that a combination uses all differ. -/
def comboDistinct (keys ctrl : Word) : Bool := decide (comboKeys keys ctrl).Nodup

/-- A write of COMBO_KEYSn (R301, R305, R308). -/
def writeComboKeys (n : Nat) (v : Word) (s : State) : State :=
  underSeal (fun s =>
    if comboDistinct v (s.reg (Reg.KLOCK_COMBO_CTRL n)) then comboUpdate (disarmCombo n (s.setReg (Reg.KLOCK_COMBO_KEYS n) v))
    else s.raise Fld.KLOCK_EVENTS_SET_REFUSED) s

/-- A write of COMBO_CTRLn (R301, R305, R308). -/
def writeComboCtrl (n : Nat) (v : Word) (s : State) : State :=
  underSeal (fun s =>
    let hold := bitsOf v 34 8
    if bitsOf v 44 2 = 3 ∨ hold < 10 ∨ 250 < hold ∨ comboDistinct (s.reg (Reg.KLOCK_COMBO_KEYS n)) v = false then
      s.raise Fld.KLOCK_EVENTS_SET_REFUSED
    else comboUpdate (disarmCombo n (s.putWord (Reg.KLOCK_COMBO_CTRL n) v))) s

/-- A write of KLOCK.BASIC (R307). -/
def writeKlockBasic (v : Word) (s : State) : State :=
  if bitsOf v 26 6 = 0 ∨ bitsOf v 8 8 < 10 ∨ bitsOf v 0 8 = 0 then s.raise Fld.KLOCK_EVENTS_SET_REFUSED
  else s.putWord Reg.KLOCK_BASIC v

/-- A write of KLOCK.CTRL: LOCK, then CLEAR_FAILS and SEAL (R291, R298, R305). -/
def writeKlockCtrl (v : Word) (s : State) : State :=
  let s := writeLock (bitAt v 47) s
  let s := if bitAt v 46 then clearFails s else s
  if bitAt v 45 then sealPage s else s

end Sys2Proof.Machine
end

