-- ==== Sys2Proof/Machine/Keys.lean ====
section
/-! DEFINITION. Key sensing, the ghost rules and contact health: what a KEY and a HEALTH field do on a cell's last tck, and the writes of
their tables and settings (R227 to R278). -/
namespace Sys2Proof.Machine

/-- What an unlisted entry of the health table reads as (R278). -/
def healthDefault : Nat → Word := fun _ => 0xFFE000000000

namespace State

/-- The state with the entry of a crosspoint in the key state table changed. -/
def modKey (s : State) (i : Nat) (f : Word → Word) : State :=
  { s with keys := { s.keys with entries := Table.put keyDefault s.keys.entries i (f (s.keyEntry i)) } }

/-- The entry of a crosspoint in the health table. -/
def healthEntry (s : State) (i : Nat) : Word := Table.get healthDefault s.keys.health i

/-- The state with the entry of a crosspoint in the health table changed. -/
def modHealth (s : State) (i : Nat) (f : Word → Word) : State :=
  { s with keys := { s.keys with health := Table.put healthDefault s.keys.health i (f (s.healthEntry i)) } }

/-- The debounce profile that acts on a crosspoint (R241). -/
def keyProfile (s : State) (i : Nat) : Nat := Table.get (fun _ => 0) s.keys.profiles i

/-- ACTIVE_OPEN of a crosspoint's profile (R229). -/
def activeOpen (s : State) (i : Nat) : Bool := s.flag (Fld.KEY_X_PROFILE_ACTIVE_OPEN (s.keyProfile i))

/-- N_P and N_R of a crosspoint (R243, R249). -/
def pressN (s : State) (i : Nat) : Nat :=
  if s.inStandby then s.get Fld.KEY_BASIC_SB_PRESS else s.get (Fld.KEY_X_PROFILE_PRESS_N (s.keyProfile i))
def releaseN (s : State) (i : Nat) : Nat :=
  if s.inStandby then s.get Fld.KEY_BASIC_SB_RELEASE else s.get (Fld.KEY_X_PROFILE_RELEASE_N (s.keyProfile i))

end State

/-- States of a key (R243). -/
def keyOpen : Nat := 0
def keyPressed : Nat := 1
def keyRepeating : Nat := 2
def keyLong : Nat := 3
def keyHeldBack : Nat := 4

/-- STATE, COUNT and TIMER of an entry (R240). -/
def putKeyState (i st : Nat) (s : State) : State := s.modKey i fun w => withBits w 42 3 st
def putCount (i n : Nat) (s : State) : State := s.modKey i fun w => withBits w 32 9 n
def putTimer (i n : Nat) (s : State) : State := s.modKey i fun w => withBits w 20 12 n
def keyCount (s : State) (i : Nat) : Nat := bitsOf (s.keyEntry i) 32 9
def keyTimer (s : State) (i : Nat) : Nat := bitsOf (s.keyEntry i) 20 12
def keyRaw (s : State) (i : Nat) : Bool := bitAt (s.keyEntry i) 41
def putRaw (i : Nat) (raw : Bool) (s : State) : State := s.modKey i fun w => withBits w 41 1 (b2n raw)

/-! ### Closed corners and rectangles (R257, R262, R263) -/

/-- A key crosspoint's contact is closed on the present states (R257, R262). -/
def contactClosed (s : State) (i : Nat) : Bool :=
  let st := s.keyStateOf i
  decide (st = keyHeldBack) || (if s.activeOpen i then decide (st = keyOpen) && keyRaw s i else decide (st ≠ keyOpen))

/-- A sample is active (R229). -/
def sampleActive (s : State) (i : Nat) (raw : Bool) : Bool := raw != s.activeOpen i

/-- A crosspoint reaches its press threshold, or its release threshold, with a sample (R243). -/
def reachesPress (s : State) (i : Nat) (raw : Bool) : Bool :=
  decide (s.keyStateOf i = keyOpen) && sampleActive s i raw && decide (s.pressN i ≤ keyCount s i + 1)
def reachesRelease (s : State) (i : Nat) (raw : Bool) : Bool :=
  decide (s.keyStateOf i ≠ keyOpen) && !sampleActive s i raw && decide (s.releaseN i ≤ keyCount s i + 1)

/-- The raw sample of S-line `x` in a mask whose bit 0 is S-line 16. -/
def rawOf (mask : BitVec 32) (x : Nat) : Bool := mask.getLsbD (x - 16)

/-- A corner counts as closed at a sample of common `n` of group `g` (R263). -/
def closedAt (s : State) (g n : Nat) (mask : BitVec 32) (i : Nat) : Bool :=
  if cpGroup i = g ∧ cpCommon i = n then
    if reachesPress s i (rawOf mask (cpLine i)) then !s.activeOpen i
    else if reachesRelease s i (rawOf mask (cpLine i)) then s.activeOpen i
    else contactClosed s i
  else contactClosed s i

/-- The rectangles of a key crosspoint: the other C-line and S-line of each, lowest C-line first, then lowest S-line (R262, R265). -/
def rectanglesOf (s : State) (i : Nat) : List (Nat × Nat) :=
  let g := cpGroup i
  let c := cpCommon i
  let x := cpLine i
  ((List.range 16).filter fun c2 => !(c2 == c) && s.isKey (crosspoint g c2 x)).flatMap fun c2 =>
    (((List.range 32).map (· + 16)).filter fun x2 =>
      !(x2 == x) && s.isKey (crosspoint g c x2) && s.isKey (crosspoint g c2 x2)).map fun x2 => (c2, x2)

/-- The other three corners of a rectangle of `i`. -/
def otherCorners (i : Nat) (r : Nat × Nat) : List Nat :=
  [crosspoint (cpGroup i) (cpCommon i) r.2, crosspoint (cpGroup i) r.1 (cpLine i), crosspoint (cpGroup i) r.1 r.2]

/-- The group is an isolated matrix (R272). -/
def isolated (s : State) (g : Nat) : Bool := (s.inForce Fld.GHOST_BASIC_ISOLATED).testBit g

/-- The rectangles whose three other corners satisfy `closed`, so that they withhold `i`; none in an isolated group (R264, R272). -/
def withholding (s : State) (closed : Nat → Bool) (i : Nat) : List (Nat × Nat) :=
  if isolated s (cpGroup i) then [] else (rectanglesOf s i).filter fun r => (otherCorners i r).all closed

/-! ### Press, hold and release -/

/-- GHOST.LAST_GHOST.OUTCOME when the record names the crosspoint (R266, R267, R269). -/
def ghostOutcome (i code : Nat) (s : State) : State :=
  if s.flag Fld.GHOST_LAST_GHOST_VALID && decide (s.get Fld.GHOST_LAST_GHOST_SUSPECT = i) then s.set Fld.GHOST_LAST_GHOST_OUTCOME code
  else s

/-- A key reaches PRESSED: its PRESS event, and in STANDBY the wake (R243, R250). -/
def pressKey (i : Nat) (s : State) : State :=
  let s := keyEvent evPress i (putTimer i 0 (putKeyState i keyPressed s))
  if s.inStandby && s.flag (Fld.KEY_X_PROFILE_WAKE (s.keyProfile i)) then wakeByKey (s.raise Fld.KEY_EVENTS_WAKE) else s

/-- A press is withheld: HELD_BACK, the GHOST event and the record (R264, R265). -/
def holdKey (i : Nat) (r : Nat × Nat) (s : State) : State :=
  let s := putTimer i 0 (putCount i 0 (putKeyState i keyHeldBack s))
  let s := { s with keys := { s.keys with measured := Table.put (fun _ => 0) s.keys.measured i 0 } }
  let s := (raiseEvent evGhost i (64 * r.1 + r.2) s).raise Fld.GHOST_EVENTS_GHOST
  s.setReg Reg.GHOST_LAST_GHOST (packWord [(47, 1, 1), (35, 12, i), (31, 4, r.1), (25, 6, r.2)])

/-- A key reaches OPEN: RELEASE from a reported press (R243), nothing from HELD_BACK (R267); its mute bit clears (R294). -/
def openKey (i : Nat) (s : State) : State :=
  let held := decide (s.keyStateOf i = keyHeldBack)
  let t := putTimer i 0 (putCount i 0 (putKeyState i keyOpen s))
  setMute i 0 (if held then ghostOutcome i 3 t else keyEvent evRelease i t)

/-- The timer of a pressed key advances, with REPEAT and LONG_PRESS (R239, R243). -/
def advanceTimer (i ticks : Nat) (s : State) : State :=
  let p := s.keyProfile i
  let t := min 4095 (keyTimer s i + ticks)
  let st := s.keyStateOf i
  let mode := s.get (Fld.KEY_X_PROFILE_MODE p)
  let rate := s.get (Fld.KEY_X_PROFILE_RATE p)
  if st = keyPressed ∧ mode = 1 ∧ s.get (Fld.KEY_X_PROFILE_DELAY p) ≤ t then
    keyEvent evRepeat i (putKeyState i keyRepeating (putTimer i 0 s))
  else if st = keyRepeating ∧ (200 + rate) / (2 * rate) ≤ t then keyEvent evRepeat i (putTimer i 0 s)
  else if st = keyPressed ∧ mode = 2 ∧ 10 * s.get (Fld.KEY_X_PROFILE_LONG p) ≤ t then
    keyEvent evLong i (putKeyState i keyLong (putTimer i t s))
  else putTimer i t s

/-- The 10 ms ticks that a sample adds to a key's timer (R242, R245, R249). -/
def ticksSince (s : State) (i : Nat) : Nat :=
  let l := Table.get (fun _ => 0) s.keys.last i
  if l = 0 then 0 else if s.inStandby then 2 else s.keys.ticks + 1 - l

/-- The debounce state machine of a key with a sample (R243): `s0` is the state at the start of the sample, `a` the active sample, `hold` the
rectangle that withholds its press, `allowed` whether the ghost rules would release it. -/
def debounce (i : Nat) (a : Bool) (ticks : Nat) (hold : Option (Nat × Nat)) (s : State) : State :=
  let st := s.keyStateOf i
  let n := keyCount s i
  if st = keyOpen then
    if a then
      if n + 1 < s.pressN i then putCount i (n + 1) s
      else match hold with
        | none => pressKey i (putCount i 0 s)
        | some r => holdKey i r s
    else putCount i (n - 1) s
  else if a = false then
    if n + 1 < s.releaseN i then putCount i (n + 1) s else openKey i s
  else if st = keyHeldBack then
    if n - 1 = 0 ∧ hold = none then ghostOutcome i 2 (pressKey i (putCount i 0 s)) else putCount i (n - 1) s
  else if st = keyLong then putCount i (n - 1) s
  else if n - 1 = 0 then advanceTimer i ticks (putCount i 0 s)
  else putCount i (n - 1) s

/-- One key crosspoint at a KEY sample: the raw bit, the combinations' arming and the debounce machine (R235, R243, R301). -/
def sampleKey (s0 : State) (g n : Nat) (mask : BitVec 32) (i : Nat) (s : State) : State :=
  let raw := rawOf mask (cpLine i)
  let a := sampleActive s0 i raw
  let hold := if s0.activeOpen i then none else (withholding s0 (closedAt s0 g n mask) i).head?
  let ticks := ticksSince s0 i
  let s := putRaw i raw s
  let s := { s with keys := { s.keys with last := Table.put (fun _ => 0) s.keys.last i (s.keys.ticks + 1) } }
  debounce i a ticks hold (if a then s else armCombos i s)

/-- A crosspoint whose ROLE bit 47 was cleared is handled at the first KEY sample of its common (R246). -/
def dropKey (i : Nat) (s : State) : State :=
  let s := { s with keys := { s.keys with cleared := Table.put (fun _ => 0) s.keys.cleared i 0, last := Table.put (fun _ => 0) s.keys.last i 0 } }
  if s.keyStateOf i = keyOpen then putTimer i 0 (putCount i 0 s) else openKey i s

/-- The S-lines in rising order. -/
def sLines : List Nat := (List.range 32).map (· + 16)

/-- KEY.STATUS.FROZEN follows the frozen entries (R245). -/
def frozenSync (s : State) : State :=
  s.set Fld.KEY_STATUS_FROZEN ((List.range 8).foldl (fun a g =>
    a + b2n ((List.range 16).any fun n => decide (Table.get (fun _ => 0) s.keys.frozen (16 * g + n) ≠ 0)) * 2 ^ g) 0)

/-- Entries of a common that are sampled again are frozen no more; those of a disabled line stay frozen (R245). -/
def thawCommon (g n : Nat) (s : State) : State :=
  let m := Table.get (fun _ => 0) s.keys.frozen (16 * g + n)
  let left := sLines.foldl (fun a x =>
    let i := crosspoint g n x
    a + b2n (m.testBit x && patKey (Table.get (fun _ => 0) s.pipe.pat i) && !s.isKey i) * 2 ^ x) 0
  frozenSync { s with keys := { s.keys with frozen := Table.put (fun _ => 0) s.keys.frozen (16 * g + n) left } }

/-- The written profiles of the keys of a common act from this sample on (R241). -/
def takeProfiles (g n : Nat) (s : State) : State :=
  sLines.foldl (fun s x =>
    let i := crosspoint g n x
    if s.isKey i then { s with keys := { s.keys with profiles := Table.put (fun _ => 0) s.keys.profiles i (bitsOf (s.keyEntry i) 45 3) } }
    else s) s

/-- A KEY field with KEY_SAMPLE of group `g` on common `n`, on the cell's last tck, with the S-lines that read closed (R235, R243). -/
def sampleCommon (g n : Nat) (mask : BitVec 32) (s : State) : State :=
  let s0 := takeProfiles g n s
  let s := sLines.foldl (fun s x =>
    let i := crosspoint g n x
    if Table.get (fun _ => 0) s0.keys.cleared i = 1 then dropKey i s
    else if s0.isKey i then sampleKey s0 g n mask i s
    else s) s0
  let s := thawCommon g n s
  comboUpdate { s with keys := { s.keys with sampledNow := s.keys.sampledNow ||| 2 ^ g } }

/-! ### When sampling stops (R245) -/

/-- The key entries of the given crosspoints freeze: COUNT 0, STATE and TIMER kept. -/
def freezeKeys (is : List Nat) (s : State) : State :=
  let ks := is.filter s.isKey
  let pressed := ks.any fun i => decide (s.keyStateOf i ≠ keyOpen)
  let s := ks.foldl (fun s i =>
    let s := putCount i 0 s
    let k := 16 * cpGroup i + cpCommon i
    { s with keys := { s.keys with
      last := Table.put (fun _ => 0) s.keys.last i 0
      frozen := Table.put (fun _ => 0) s.keys.frozen k (Table.get (fun _ => 0) s.keys.frozen k ||| 2 ^ cpLine i) } }) s
  frozenSync (if pressed then s.raise Fld.KEY_EVENTS_KEYS_FROZEN else s)

/-- The crosspoints of a group, and those of one of its lines. -/
def groupPoints (g : Nat) : List Nat := (List.range 512).map (512 * g + ·)
def linePoints (g l : Nat) : List Nat := (groupPoints g).filter fun i => cpCommon i == l || cpLine i == l

/-- A group leaves ON: its keys freeze (R245). -/
def freezeGroupKeys (g : Nat) (s : State) : State := freezeKeys (groupPoints g) s

/-- Every COUNT becomes 0 when the device enters STANDBY and when it returns (R249). -/
def zeroCounts (s : State) : State := (s.keys.entries.map (·.1)).foldl (fun s i => putCount i 0 s) s

/-- Keys of a common that the active bank no longer samples add no ticks at their first sample after the span (R245, R247). -/
def forgetSamples (commons : List Nat) (s : State) : State :=
  { s with keys := { s.keys with last := s.keys.last.filter fun e => decide (16 * cpGroup e.1 + cpCommon e.1 ∈ commons) } }

/-- Commons (16 × group + common) for which a bank holds a KEY field with KEY_SAMPLE (R247). -/
def sampledCommons (s : State) (bank : Nat) : List Nat :=
  ((frameCells s bank).filter cellKeySample).flatMap fun w =>
    ((List.range 8).filter fun g => cellType w g == slotKey).map fun g => 16 * g + cellCommon w

/-- UNSCANNED at a commit clock (R247). -/
def checkScanned (s : State) : State :=
  let cs := sampledCommons s s.activeBank
  let s := forgetSamples cs s
  if s.pipe.pat.any fun e => s.isKey e.1 && decide (s.grpState (cpGroup e.1) = grpOn) && !(decide (16 * cpGroup e.1 + cpCommon e.1 ∈ cs)) then
    s.raise Fld.KEY_EVENTS_UNSCANNED
  else s

/-! ### Contact health (R255 to R261, R268 to R270) -/

/-- V_K in mV (R192). -/
def vkMv (s : State) : Nat := 500 + 100 * s.inForce Fld.LCDB_BASIC_KEY_LVL

/-- The clamp of a group in mV (R230). -/
def clampMv (s : State) (g : Nat) : Nat := if s.isLcd g then vkMv s else 500 + 100 * s.inForce (Fld.KEY_SENSE_VCLAMP g)

/-- A group's threshold is capped 100 mV below its clamp (R233). -/
def vthCapped (s : State) (g : Nat) : Bool := decide (clampMv s g < 25 * s.inForce (Fld.KEY_SENSE_VTH g) + 100)

/-- The voltage below which a group's sense comparators read a line as closed, in mV (R232, R233). -/
def thresholdMv (s : State) (g : Nat) : Nat := if vthCapped s g then clampMv s g - 100 else 25 * s.inForce (Fld.KEY_SENSE_VTH g)

/-- The S-lines that a group's comparators read as closed, from their voltages in mV: bit 0 for S-line 16. A line without a voltage reads open. -/
def senseMask (s : State) (g : Nat) (volts : List Nat) : BitVec 32 :=
  BitVec.ofNat 32 ((List.range 32).foldl (fun a k =>
    a + b2n (match volts[k]? with | none => false | some mv => decide (mv < thresholdMv s g)) * 2 ^ k) 0)

/-- VTH_CAPPED once each time a group's capping begins (R233). -/
def checkCapping (s : State) : State :=
  let now := (List.range 8).foldl (fun a g => a + b2n (vthCapped s g) * 2 ^ g) 0
  let begun := (List.range 8).any fun g => now.testBit g && !s.keys.capped.testBit g
  let s := { s with keys := { s.keys with capped := now } }
  if begun then s.raise Fld.KEY_EVENTS_VTH_CAPPED else s

/-- Takes the candidate next above `last` in rising order, wrapping round (R256). -/
def nextAbove (last : Nat) (xs : List Nat) : Option Nat :=
  match xs.find? fun x => decide (last < x) with
  | some x => some x
  | none => xs.head?

/-- The HELD_BACK crosspoint measured least recently, the lowest of several (R256). -/
def oldestSuspect (s : State) (is : List Nat) : Option Nat :=
  is.foldl (fun a i => match a with
    | none => some i
    | some j => if Table.get (fun _ => 0) s.keys.measured i < Table.get (fun _ => 0) s.keys.measured j then some i else some j) none

/-- The crosspoint a HEALTH cell of group `g` on common `n` will measure (R256). -/
def healthChoice (s : State) (g n : Nat) : Option Nat :=
  let xs := sLines.filter fun x => s.isKey (crosspoint g n x)
  let held := (xs.map (crosspoint g n)).filter fun i => s.keyStateOf i == keyHeldBack
  let last := Table.get (fun _ => 47) s.keys.pointer (16 * g + n)
  match oldestSuspect s held with
  | some i => some i
  | none =>
    match nextAbove last (xs.filter fun x => contactClosed s (crosspoint g n x)) with
    | some x => some (crosspoint g n x)
    | none => (nextAbove last xs).map (crosspoint g n)

/-- The choice of a HEALTH field at the first tck of its cell (R256). -/
def chooseHealth (g n : Nat) (s : State) : State :=
  { s with keys := { s.keys with
    chosen := Table.put (fun _ => 0) s.keys.chosen g (match healthChoice s g n with | none => 0 | some i => i + 1) } }

/-- The crosspoint a group's HEALTH cell measures. -/
def chosenOf (s : State) (g : Nat) : Option Nat :=
  let c := Table.get (fun _ => 0) s.keys.chosen g
  if c = 0 then none else some (c - 1)

/-- A crosspoint is shadowed: the other three corners of a rectangle have closed contacts (R257). -/
def shadowed (s : State) (i : Nat) : Bool := (rectanglesOf s i).any fun r => (otherCorners i r).all (contactClosed s)

/-- DEGRADED becomes 1 (R260). -/
def setDegraded (i snap : Nat) (full : Bool) (s : State) : State :=
  if bitAt (s.healthEntry i) 29 then s
  else
    let e := s.keyEntry i
    let s := s.modHealth i fun w => withBits w 29 1 1
    let s := (raiseEvent evHealth i snap s).raise Fld.GHOST_EVENTS_DEGRADED
    s.setReg Reg.GHOST_LAST_HEALTH
      (packWord [(47, 1, 1), (35, 12, i), (25, 10, bitsOf e 10 10), (15, 10, bitsOf e 0 10), (14, 1, b2n full)])

/-- HISTORY after a CLOSED reading (R259). -/
def nextHistory (history h : Nat) : Nat := if history = 0x3FF then h else (3 * history + h + 2) / 4

/-- BASELINE and TCOUNT after a CLOSED reading (R259). -/
def nextBaseline (baseline history learn learnN tcount track : Nat) : Nat × Nat :=
  if baseline = 0x3FF then (if learnN ≤ learn then (history, 0) else (baseline, tcount))
  else if 2 ^ track ≤ tcount + 1 then
    (if baseline < history then (baseline + 1, 0) else if history < baseline then (baseline - 1, 0) else (baseline, 0))
  else (baseline, tcount + 1)

/-- The degradation test (R259). -/
def degradedTest (baseline history degAbs degRel : Nat) : Bool :=
  decide (baseline ≠ 0x3FF) && (decide (degAbs ≠ 0 ∧ degAbs ≤ baseline) || decide (baseline * degRel < history * 8))

/-- A CLOSED reading (R259). -/
def learnReading (i h : Nat) (s : State) : State :=
  let e := s.keyEntry i
  let w := s.healthEntry i
  let history := nextHistory (bitsOf e 0 10) h
  let learn := min 63 (bitsOf w 30 6 + 1)
  let b := nextBaseline (bitsOf e 10 10) history learn (max 1 (s.get Fld.GHOST_X_HEALTH_LEARN_N)) (bitsOf w 15 14)
    (min 14 (s.get Fld.GHOST_X_HEALTH_TRACK))
  let s := s.modKey i fun e => withBits (withBits e 0 10 history) 10 10 b.1
  let s := s.modHealth i fun w => withBits (withBits w 30 6 learn) 15 14 b.2
  if degradedTest b.1 history (s.get Fld.GHOST_BASIC_DEG_ABS) (max 9 (s.get Fld.GHOST_X_HEALTH_DEG_REL)) then setDegraded i history false s
  else s

/-- R(y) of a partner, none when unknown (R268). -/
def partnerR (s : State) (y : Nat) : Option Nat :=
  let e := s.keyEntry y
  let w := s.healthEntry y
  if bitsOf e 0 10 ≠ 0x3FF then some (bitsOf e 0 10)
  else if bitsOf e 10 10 ≠ 0x3FF then some (bitsOf e 10 10)
  else if bitsOf w 36 2 ≠ 2 ∧ bitsOf w 38 10 ≠ 0x3FF then some (bitsOf w 38 10)
  else none

/-- P_r of a rectangle of `i`; none when a partner is unknown (R269). -/
def pathR (s : State) (i : Nat) (r : Nat × Nat) : Option Nat :=
  (otherCorners i r).foldl (fun a y => match a, partnerR s y with | some p, some q => some (p + q) | _, _ => none)
    (some (2 * s.get Fld.GHOST_X_RESOLVE_LSEG))

/-- A SUSPECT reading (R269, R270). -/
def resolveReading (i h : Nat) (s : State) : State :=
  let paths := (withholding s (contactClosed s) i).map (pathR s i)
  if paths.isEmpty then s
  else if paths.any Option.isNone then s.raise Fld.GHOST_EVENTS_UNRESOLVED
  else
    let p := (paths.filterMap id).foldl min (2 ^ 48)
    if h < 1000 ∧ h * max 20 (s.get Fld.GHOST_X_RESOLVE_MARGIN) ≤ p * 16 then
      ghostOutcome i 1 (pressKey i (s.raise Fld.GHOST_EVENTS_CLEARED))
    else s

/-- The class of a reading (R258); in an isolated group a reading that would be SHADOWED is CLOSED (R272). -/
def readingClass (s : State) (i h : Nat) : Nat :=
  if s.keyStateOf i = keyHeldBack then 3
  else if h = 1000 ∨ contactClosed s i = false then 2
  else if shadowed s i && !isolated s (cpGroup i) then 1
  else 0

/-- The reading h of an ADC code in a group (R255). -/
def readingOf (s : State) (g code : Nat) : Nat :=
  if s.isLcd g ∧ vkMv s ≤ 2 * code + 20 then 1000 else min 1000 code

/-- One reading of a crosspoint with all it updates (R258 to R260, R269). -/
def takeReading (i h : Nat) (s : State) : State :=
  let cls := readingClass s i h
  let full := decide (h = 1000) && contactClosed s i && decide (s.keyStateOf i ≠ keyHeldBack) && !shadowed s i
  let s := s.modHealth i fun w => withBits (withBits w 38 10 h) 36 2 cls
  if cls = 3 then
    let s := { s with keys := { s.keys with
      readings := s.keys.readings + 1, measured := Table.put (fun _ => 0) s.keys.measured i (s.keys.readings + 1) } }
    resolveReading i h s
  else if cls = 0 then learnReading i h s
  else if full then setDegraded i 1000 true s
  else s

/-- A write of a key state entry (R241, R261). -/
def putKeyEntry (i : Nat) (v : Word) (s : State) : State :=
  let s := s.modKey i fun w => withBits (withBits w 45 3 (bitsOf v 45 3)) 10 10 (bitsOf v 10 10)
  s.modHealth i fun w => let w := withBits w 15 14 0; if bitsOf v 10 10 = 0x3FF then withBits w 30 6 0 else w

/-- A write of the entry on the tck of a reading wins over what the reading changed (R241). -/
def writeWins (i : Nat) (s : State) : State :=
  match s.keys.written with
  | none => s
  | some w => if w.1 = i ∧ w.2.2 = s.now then putKeyEntry i w.2.1 s else s

/-- A HEALTH field with KEY_SAMPLE on its cell's last tck: the RAW bits of the other key crosspoints, and the reading; a crosspoint whose ROLE
bit 47 was cleared meanwhile is not read (R235, R256). -/
def sampleHealth (g n : Nat) (mask : BitVec 32) (code : Nat) (s : State) : State :=
  let c := chosenOf s g
  let s := sLines.foldl (fun s x =>
    let i := crosspoint g n x
    if s.isKey i && !(c == some i) then putRaw i (rawOf mask x) s else s) s
  match c with
  | none => s
  | some i =>
    let s := { s with keys := { s.keys with pointer := Table.put (fun _ => 47) s.keys.pointer (16 * g + n) (cpLine i) } }
    if patKey (Table.get (fun _ => 0) s.pipe.pat i) then comboUpdate (writeWins i (takeReading i (readingOf s g code) s)) else s

/-! ### Writes of the KEY and GHOST pages -/

/-- A path writes a key state entry. -/
def writeKeyEntry (i : Nat) (v : Word) (s : State) : State :=
  putKeyEntry i v { s with keys := { s.keys with written := some (i, v, s.now) } }

/-- A write of a health table entry: DEGRADED written 0 clears it (R278). -/
def writeHealthEntry (i : Nat) (v : Word) (s : State) : State :=
  if bitAt v 29 then s else s.modHealth i fun w => withBits w 29 1 0

/-- A write of KEY.SENSEg (R234). -/
def writeSense (g : Nat) (v : Word) (s : State) : State :=
  if bitsOf v 42 6 = 0 then s.raise Fld.KEY_EVENTS_SET_REFUSED else s.putWord (Reg.KEY_SENSE g) v

/-- A write of KEY.BASIC (R253). -/
def writeKeyBasic (v : Word) (s : State) : State :=
  if bitsOf v 45 3 = 0 ∨ bitsOf v 42 3 = 0 then s.raise Fld.KEY_EVENTS_SET_REFUSED else s.putWord Reg.KEY_BASIC v

/-- A derived count of samples (R237). -/
def derivedCount (ms f : Nat) : Nat := max 1 (min 511 (ceilDiv (ms * 96000) (max 1 f)))

/-- The length F that profile times are derived with: the active bank's frame, or 192,000 tck before the first start (R237). -/
def profileFrame (s : State) : Nat :=
  if s.comb.started then frameLen s s.activeBank else 192000

/-- X_PROFILEp as derived from PROFILEp (R237). -/
def deriveProfile (p : Nat) (s : State) : State :=
  let w := s.reg (Reg.KEY_PROFILE p)
  s.setReg (Reg.KEY_X_PROFILE p) (packWord [(39, 9, derivedCount (bitsOf w 40 8) (profileFrame s)), (30, 9, derivedCount (bitsOf w 32 8) (profileFrame s)),
    (28, 2, bitsOf w 30 2), (20, 8, bitsOf w 22 8), (14, 6, bitsOf w 16 6), (6, 8, bitsOf w 8 8), (5, 1, bitsOf w 7 1), (4, 1, bitsOf w 6 1)])

/-- The derived profiles follow F at basic level (R237). -/
def deriveProfiles (s : State) : State := if s.expert 0x18 then s else s.forEach 8 deriveProfile

/-- A profile's values are refused (R238): the times, MODE, DELAY, RATE, LONG. -/
def profileBad (press release mode delay rate long : Nat) : Bool :=
  decide (press = 0 ∨ release = 0 ∨ mode = 3 ∨ delay < 10 ∨ rate = 0 ∨ 50 < rate ∨ long < 5)

/-- A write of KEY.PROFILEp at basic level (R236 to R238). -/
def writeProfile (p : Nat) (v : Word) (s : State) : State :=
  if profileBad (bitsOf v 40 8) (bitsOf v 32 8) (bitsOf v 30 2) (bitsOf v 22 8) (bitsOf v 16 6) (bitsOf v 8 8) then
    s.raise Fld.KEY_EVENTS_SET_REFUSED
  else deriveProfile p (s.putWord (Reg.KEY_PROFILE p) v)

/-- A write of KEY.X_PROFILEp at expert level (R236, R238). -/
def writeXProfile (p : Nat) (v : Word) (s : State) : State :=
  if profileBad (bitsOf v 39 9) (bitsOf v 30 9) (bitsOf v 28 2) (bitsOf v 20 8) (bitsOf v 14 6) (bitsOf v 6 8) then
    s.raise Fld.KEY_EVENTS_SET_REFUSED
  else s.putWord (Reg.KEY_X_PROFILE p) v

/-- A write of an entry of the point attribute table (R144); a cleared ROLE bit 47 is noted for the key engine (R246). -/
def writePat (i : Nat) (v : Word) (s : State) : State :=
  let was := patKey (Table.get (fun _ => 0) s.pipe.pat i)
  let s := putPat i v s
  if was && !patKey v then { s with keys := { s.keys with cleared := Table.put (fun _ => 0) s.keys.cleared i 1 } } else s

/-! ### Views -/

/-- KEY.STATUS with ACTIVE counted (R253). -/
def keyStatus (s : State) : Word :=
  withBits (s.reg Reg.KEY_STATUS) 0 13 (s.keys.entries.filter fun e => decide (bitsOf e.2 42 3 ≠ 0)).length

/-- GHOST.STATUS (R277). -/
def ghostStatus (s : State) : Word :=
  withBits (withBits (s.reg Reg.GHOST_STATUS) 19 13 (s.keys.entries.filter fun e => decide (bitsOf e.2 42 3 = keyHeldBack)).length)
    6 13 (s.keys.health.filter fun e => bitAt e.2 29).length

/-- A word of the raw sample map (R254) and of the held map (R278): entry 16g + n. -/
def rawMap (s : State) (k : Nat) : Word :=
  BitVec.ofNat 48 (sLines.foldl (fun a x => let i := crosspoint (k / 16) (k % 16) x; a + b2n (s.isKey i && keyRaw s i) * 2 ^ x) 0)
def heldMap (s : State) (k : Nat) : Word :=
  BitVec.ofNat 48 (sLines.foldl (fun a x => a + b2n (decide (s.keyStateOf (crosspoint (k / 16) (k % 16) x) = keyHeldBack)) * 2 ^ x) 0)

end Sys2Proof.Machine
end

