-- ==== Sys2Proof/Machine/KeyCommands.lean ====
section
/-! DEFINITION. The commands of the KEY, GHOST, EVENT and KLOCK pages (R234 to R308). -/
namespace Sys2Proof.Machine

/-- A write of a debounce profile in the register of the present level (R236 to R238). -/
def writeProfileHere (n : Nat) (v : Word) (s : State) : State :=
  if s.expert 0x18 then writeXProfile n v s else writeProfile n v s

/-- A tick of the 10 ms clock falls on a hive tick that is a multiple of 1,920,000 (R242). -/
def nextKeyTick (s : State) : State := keyTick (s.elapse (s.toNextGrid 1920000 s.keys.lastTick))

/-- The PANEL_RSTN pulse ends (R303). -/
def panelEnd (s : State) : State :=
  match s.klock.panelUntil with
  | none => s
  | some t =>
    let s := s.elapseTo t
    { s with klock := { s.klock with panelUntil := none } }

/-- KEY_SENSE_WRITE. -/
def execKeySenseWrite (p : Path) (g : Fin 8) (v : Word) (s : State) : Host.Outcome State Fault Refusal :=
  access s (fieldWrite p (Reg.KEY_SENSE g) true (writeSense g v))

/-- PROFILE_WRITE: KEY.PROFILEn at basic level, KEY.X_PROFILEn at expert level. -/
def execProfileWrite (p : Path) (n : Fin 8) (v : Word) (s : State) : Host.Outcome State Fault Refusal :=
  access s (levelWrite p 0x18 (writeProfileHere n v))

/-- KEY_ENTRY_WRITE. -/
def execKeyEntryWrite (i : Fin 4096) (v : Word) (s : State) : Host.Outcome State Fault Refusal := accessIn 0x18 s (writeKeyEntry i v)

/-- KEY_ENGINE_TICK. -/
def execKeyEngineTick (s : State) : Host.Outcome State Fault Refusal := actIn 0x18 s nextKeyTick

/-- HEALTH_ENTRY_WRITE. -/
def execHealthEntryWrite (i : Fin 4096) (v : Word) (s : State) : Host.Outcome State Fault Refusal := accessIn 0x19 s (writeHealthEntry i v)

/-- EVENT_ENQUEUE. -/
def execEventEnqueue (s : State) : Host.Outcome State Fault Refusal := act s enqueueEvent

/-- A pop of the queue through EVENT.POP: the fabric's takes place when the data returns, 2 tck after the arbiter served the read (R85, R287). -/
def popRead (p : Path) (s : State) : State := if p = .fabric then s.later 2 .fabricPop else (popByPath p s.settledNow).2

/-- EVENT_POP: a read of EVENT.POP by a path. -/
def execEventPop (p : Path) (s : State) : Host.Outcome State Fault Refusal := accessIn 0x1A s (popRead p)

/-- FABRIC_EVENT_POP: the event-queue port pops when its data returns, 2 tck after acceptance (R431, R433). -/
def execFabricEventPop (s : State) : Host.Outcome State Fault Refusal := actIn 0x1A s fun s => s.later 2 .portPop

/-- KEY_LOCK_WRITE. -/
def execKeyLockWrite (p : Path) (on : Bool) (s : State) : Host.Outcome State Fault Refusal :=
  access s (fieldWrite p Reg.KLOCK_CTRL true (writeLock on))

/-- CLEAR_FAILS. -/
def execClearFails (p : Path) (s : State) : Host.Outcome State Fault Refusal := access s (fieldWrite p Reg.KLOCK_CTRL false clearFails)

/-- SEAL. -/
def execSeal (p : Path) (s : State) : Host.Outcome State Fault Refusal := access s (fieldWrite p Reg.KLOCK_CTRL false sealPage)

/-- SEQ_WRITE: SEQ_A, SEQ_B or SEQ_LEN. -/
def execSeqWrite (p : Path) (k : Fin 3) (v : Word) (s : State) : Host.Outcome State Fault Refusal :=
  access s (fieldWrite p (Reg.KLOCK_SEQ_A + k) false (writeSeq k v))

/-- COMBO_WRITE: COMBO_KEYSn or COMBO_CTRLn. -/
def execComboWrite (p : Path) (n : Fin 4) (ctrl : Bool) (v : Word) (s : State) : Host.Outcome State Fault Refusal :=
  access s (fieldWrite p (Reg.KLOCK_COMBO_KEYS n) true (if ctrl then writeComboCtrl n v else writeComboKeys n v))

/-- KLOCK_BASIC_WRITE. -/
def execKlockBasicWrite (p : Path) (v : Word) (s : State) : Host.Outcome State Fault Refusal :=
  access s (fieldWrite p Reg.KLOCK_BASIC true (writeKlockBasic v))

/-- SEQ_GAP_TIMEOUT. -/
def execSeqGapTimeout (s : State) : Host.Outcome State Fault Refusal := act s seqGap

/-- LOCKOUT_ENDED. -/
def execLockoutEnded (s : State) : Host.Outcome State Fault Refusal := act s lockoutEnd

/-- COMBO_FIRE. -/
def execComboFire (s : State) : Host.Outcome State Fault Refusal := act s fireCombos

/-- PANEL_PULSE_END: the detector's own timer, which counts through a reset (R303). -/
def execPanelPulseEnd (s : State) : Host.Outcome State Fault Refusal :=
  if s.clock.coreStopped then .next s else actAlways s panelEnd

end Sys2Proof.Machine
end

