-- ==== Sys2Proof/Machine/Fabric.lean ====
section
/-! DEFINITION. Contexts, fabric resets, memory port windows and protected ranges (R430 to R452). -/
namespace Sys2Proof.Machine

/-- States of a context (R445), of the fabric (R452) and of a window (R441). -/
def ctxEmpty : Nat := 0
def ctxLoading : Nat := 1
def ctxUnverified : Nat := 2
def ctxVerified : Nat := 3
def fabRunning : Nat := 0
def fabReset : Nat := 1
def fabLoading : Nat := 2
def fabStarting : Nat := 3
def winClosed : Nat := 0
def winChecking : Nat := 1
def winOpen : Nat := 2
def winRefused : Nat := 3

namespace State

def ctxState (s : State) (c : Nat) : Nat := bitsOf (s.reg Reg.CONFIG_CTX_STATE) (32 + 2 * c) 2
def putCtx (s : State) (c v : Nat) : State := s.setReg Reg.CONFIG_CTX_STATE (withBits (s.reg Reg.CONFIG_CTX_STATE) (32 + 2 * c) 2 v)
def activeCtx (s : State) : Nat := s.get Fld.CONFIG_CTX_STATE_ACTIVE
def fstate (s : State) : Nat := s.get Fld.FABRIC_STATUS_FSTATE

/-- A context counts as verified at a commit (R445, R448). -/
def ctxOk (s : State) (c : Nat) : Bool := decide (s.ctxState c = ctxVerified) && decide (s.fstate = fabRunning)

/-- A declaration word of a context, word 5 to 8 of its stream (R454). -/
def decl (s : State) (c w : Nat) : Word := Table.get (fun _ => 0) s.config.decl (4 * c + (w - 5))

/-- A tile reserved by the device (R441): the queen's tiles, or the loader's staging area. -/
def reservedTile (s : State) (t : Nat) : Bool :=
  (s.flag Fld.HIVE_STATUS_QUEEN && decide (4016 ≤ t)) || staged s t

end State

/-- The gates of the regions that a context uses (R413, R449). -/
def regionGates (s : State) (c : Nat) : Nat := gateFabric + bitsOf (s.decl c 6) 40 8 * 2 ^ 23

/-- The clock managers that change their setting at a switch from one context to another stop until they relock (R449): the settings are in
the contexts' frames, so a manager keeps its lock only where neither or the same frames of its region say so. -/
def managersKept (s : State) (a b : Nat) : Nat :=
  if a = b then 255
  else (List.range 8).foldl (fun m r =>
    let used := fun c => bitAt (s.decl c 6) (24 + r)
    if used a && used b && (List.range 6).all fun j =>
        decide (Table.get (fun _ => 0) s.config.digests (48 * a + 6 * r + j) = Table.get (fun _ => 0) s.config.digests (48 * b + 6 * r + j))
    then m ||| 2 ^ r else m) 0

/-- The active context changes (R449). -/
def switchContext (c : Nat) (s : State) : State :=
  let a := s.activeCtx
  if a = c then s
  else
    let keep := managersKept s a c
    let s := gatesOn (regionGates s c) (s.abandonReads.set Fld.CONFIG_CTX_STATE_ACTIVE c)
    s.set Fld.FABRIC_STATUS_CM_LOCK (s.get Fld.FABRIC_STATUS_CM_LOCK &&& keep)

/-- A pending local set holds a context switch (R30, R447). -/
def ctxPending (s : State) : Bool := s.commit.sets.any fun t => t.ctx.isSome

/-- The target of the tied switch that waits, of those not made by DEVICE.COMMIT_CTRL (R451). -/
def switchWaits (s : State) : Option Nat := (s.commit.sets.find? fun t => t.ctx.isSome && !t.bound).bind (·.ctx)

/-- The node is ARMED with a set that holds a context switch (R447). -/
def hiveCtxArmed (s : State) : Bool := decide (s.get Fld.HIVE_MODE_ARM_STATE = 2) && s.hive.arming.ctx.isSome

/-- The cause that refuses a context switch request (R447). -/
def switchCause (s : State) (c : Nat) (tied : Bool) : Nat :=
  if s.ctxState c ≠ ctxVerified then 1
  else if ctxPending s || (!tied && hiveCtxArmed s) then 2
  else if s.fstate ≠ fabRunning then 3
  else 0

/-- A context switch is refused (R447). -/
def refuseSwitch (cause : Nat) (s : State) : State :=
  (s.set Fld.CONFIG_CTX_STATE_REFUSE_CAUSE cause).raise Fld.CONFIG_EVENTS_CTX_REFUSED

/-- A tied switch becomes pending as a set of one member (R23, R446). -/
def tieSwitch (c : Nat) (s : State) : State :=
  let s := { s with commit := { s.commit with sets := s.commit.sets ++ [(⟨false, 0, some c, false, false⟩ : LocalSet)] } }
  (s.set Fld.CONFIG_CTX_STATE_PENDING 1).set Fld.CONFIG_CTX_STATE_PEND_CTX c

/-- A request for a context switch (R446, R447): one that names the active context changes nothing, and an immediate switch is applied on the tck
after the one that judges it. -/
def requestSwitch (c : Nat) (tied : Bool) (s : State) : State :=
  if c = s.activeCtx ∧ s.fstate = fabRunning then s
  else
    let cause := switchCause s c tied
    if cause ≠ 0 then refuseSwitch cause s
    else if tied then tieSwitch c s
    else switchContext c s.nextTck

/-- A write of CONFIG.CTX_SWITCH (R451). -/
def writeCtxSwitch (v : Word) (s : State) : State :=
  let s := s.putWord Reg.CONFIG_CTX_SWITCH v
  if bitAt v 0 then requestSwitch (bitsOf v 45 3) (bitAt v 44) s else s

/-! ### Fabric reset (R450) -/

/-- The registers of the FABRIC page at their reset values; what R437 keeps stays. -/
def resetFabricPage (s : State) : State :=
  let spares := s.get Fld.FABRIC_STATUS_SPARES_LEFT
  let s := { s with regs := s.regs.filter fun e => !(e.1 / 256 == 0x38), winCtrl := s.winCtrl.filter fun e => !(e.1 % 64 == 0x38) }
  (s.set Fld.FABRIC_STATUS_SPARES_LEFT spares).set Fld.FABRIC_STATUS_FSTATE fabReset

/-- Step 1 of a fabric reset. -/
def holdFabric (s : State) : State :=
  let s := (resetFabricPage s).abandonReads
  let s := { s with
    fabric := { s.fabric with
      windows := [], dirty := [], dma := [], answers := [], tokens := 0, releaseAt := some (s.now + 1024), uioOn := false, gsrOn := false }
    clock := { s.clock with writesOn := false, stepDue := none, lockSince := none } }
  (s.set Fld.CLOCK_STATUS_STARTUP_POS 7).set Fld.CLOCK_STATUS_STARTUP_WAIT 0

/-- A fabric reset of its own (R450). -/
def fabricReset (s : State) : State := (holdFabric s).raise Fld.FABRIC_EVENTS_FABRIC_RESET

/-- A write of FABRIC.CTRL. -/
def writeFabricCtrl (v : Word) (s : State) : State := if bitAt v 0 then fabricReset s else s

/-! ### Memory port windows (R438, R441) -/

/-- A window's entry (R452). -/
def winEntry (st cause tile restarts : Nat) : Word := packWord [(46, 2, st), (43, 3, cause), (31, 12, tile), (28, 3, restarts)]

/-- The open of a window is refused. -/
def refuseWindow (w cause tile restarts : Nat) (s : State) : State :=
  (s.setWin w (winEntry winRefused cause tile restarts)).raise Fld.FABRIC_EVENTS_WINDOW_REFUSED

/-- The start-up order has passed its WRITES step (R421): the fabric is running, or the step has been done. -/
def writesOn (s : State) : Bool := decide (s.fstate = fabRunning) || s.clock.writesOn

/-- A window is forgotten among those a write has hit during their opening. -/
def cleanWindow (w : Nat) (s : State) : State := { s with fabric := { s.fabric with dirty := s.fabric.dirty.filter fun x => !(x == w) } }

/-- A request to open a window on a tile (R441): CHECKING, or refused at once. DESIGN CHOICE: where more than one cause holds, the lowest
code is given. -/
def openWindow (w t : Nat) (s : State) : State :=
  let s := cleanWindow w s
  if s.tileState t ≠ tileGood then refuseWindow w 1 t 0 s
  else if s.reservedTile t then refuseWindow w 2 t 0 s
  else if !writesOn s then refuseWindow w 4 t 0 s
  else s.setWin w (winEntry winChecking 0 t 0)

/-- The pass of a window's opening ends (R435, R438, R441). -/
def windowChecked (w : Nat) (found : Option (BitVec 32)) (s : State) : State :=
  let e := s.winWord w
  if bitsOf e 46 2 = winChecking then
    let t := bitsOf e 31 12
    let n := bitsOf e 28 3
    if w ∈ s.fabric.dirty then
      if 4 ≤ n then refuseWindow w 3 t n (cleanWindow w s) else (cleanWindow w s).setWin w (winEntry winChecking 0 t (n + 1))
    else
      let o := openTile s t 4 found
      if o.1 then o.2.setWin w (winEntry winOpen 0 t n) else refuseWindow w 1 t n o.2
  else s

/-- A close request (R441). -/
def closeWindow (w : Nat) (s : State) : State := (cleanWindow w s).setWin w 0

/-- The word of the memory layer behind word `a` of a window. -/
def windowWord (s : State) (w a : Nat) : Nat := 1024 * bitsOf (s.winWord w) 31 12 + a

/-- An access through a window (R431, R432, R441): one that is not OPEN refuses it with the error flag. A write acts, and read data returns 3 tck
after the bank served it. -/
def windowAccess (w a : Nat) (v : Option Word) (s : State) : State :=
  if bitsOf (s.winWord w) 46 2 ≠ winOpen then s.bridgeAnswers (8 + w) { error := true }
  else match v with
    | none => s.later 3 (.bridgeData (8 + w) { data := s.memRead (windowWord s w a) })
    | some x => (memWrite s (windowWord s w a) x).bridgeAnswers (8 + w) {}

/-! ### Tiles and protected ranges (R436, R442 to R444) -/

/-- A write of FABRIC.TILE_CTRL (R436). -/
def writeTileCtrl (v : Word) (s : State) : State :=
  let s := s.putWord Reg.FABRIC_TILE_CTRL v
  let t := bitsOf v 36 12
  if bitAt v 0 && decide (s.tileState t = tileFailed) then s.setTileState t tileGood else s

/-- A memory tile is protected (R443). -/
def protectedTile (s : State) (t : Nat) : Bool :=
  s.reservedTile t || (List.range 8).any fun n =>
    s.flag (Fld.FABRIC_PROT_EN n) && decide (s.get (Fld.FABRIC_PROT_FIRST n) ≤ t ∧ t ≤ s.get (Fld.FABRIC_PROT_LAST n))

/-- A protected access is refused and recorded (R442, R443, R452). -/
def protHit (service ext : Bool) (addr : Nat) (s : State) : State :=
  (s.setReg Reg.FABRIC_PROT_HIT (packWord [(47, 1, 1), (46, 1, b2n service), (45, 1, b2n ext), (0, 29, addr)])).raise
    Fld.FABRIC_EVENTS_PROT_REFUSED

/-- A write of FABRIC.PROTn (R444). -/
def writeProt (n : Nat) (v : Word) (s : State) : State :=
  if s.flag Fld.FABRIC_PROT_CTRL_FROZEN then s.raise Fld.FABRIC_EVENTS_PROT_REFUSED else s.putWord (Reg.FABRIC_PROT n) v

/-- FREEZE (R444). -/
def freezeProt (s : State) : State := s.set Fld.FABRIC_PROT_CTRL_FROZEN 1

/-- FABRIC window table 0x01, entry t (R452). -/
def tileEntry (s : State) (t : Nat) : Word := withBits (s.tileWord t) 0 32 (s.tileCrc t).toNat

/-! ### The frame-buffer and comb-cell ports (R123, R131, R431) -/

/-- A flip request on the FRAME page: a set of one member (R23, R131). -/
def flipRequest (g : Nat) (s : State) : State :=
  { s with commit := { s.commit with sets := s.commit.sets ++ [(⟨false, 2 ^ g, none, false, false⟩ : LocalSet)] } }

/-- A write of the frame-buffer port, and its flip strobe; ignored before the WRITES step (R421). -/
def frameBufferPort (g : Nat) (front : Bool) (w : Nat) (v : Word) (flip : Bool) (s : State) : State :=
  if !writesOn s then s
  else
  let b := if front then s.frontB g else !s.frontB g
  let s := (memWrite s (s.bufferBase g b + w) v).bridgeAnswers 3 {}
  if flip then flipRequest g s else s

/-- A write of the comb-cell port (R123, R431): refused with the error flag while PORT_EN is 0, at an index above 383 and while the bank is being
filled; ignored, without a flag, before the WRITES step (R421). -/
def combCellPort (cell : Nat) (v : Word) (s : State) : State :=
  if !writesOn s then s
  else if s.flag Fld.COMB_X_CTRL_PORT_EN = false ∨ 384 ≤ cell then s.bridgeAnswers 2 { error := true }
  else (writeShadowCell cell v s).bridgeAnswers 2 { error := decide (s.shadowState = bankFilling) }

/-! ### Commands -/

/-- MEM_WINDOW_OPEN. -/
def execMemWindowOpen (w : Fin 32) (t : Fin 4096) (s : State) : Host.Outcome State Fault Refusal := act s (openWindow w t)

/-- WINDOW_OPEN_DONE: `found` is the checksum read when an upset made it differ. -/
def execWindowOpenDone (w : Fin 32) (found : Option (BitVec 32)) (s : State) : Host.Outcome State Fault Refusal := act s (windowChecked w found)

/-- WINDOW_CLOSE. -/
def execWindowClose (w : Fin 32) (s : State) : Host.Outcome State Fault Refusal := act s (closeWindow w)

/-- MEM_WINDOW_ACCESS: a write with a value, else a read. -/
def execMemWindowAccess (w : Fin 32) (a : Fin 1024) (v : Option Word) (s : State) : Host.Outcome State Fault Refusal := act s (windowAccess w a v)

/-- TILE_CLEAR: a write of FABRIC.TILE_CTRL. -/
def execTileClear (p : Path) (v : Word) (s : State) : Host.Outcome State Fault Refusal := access s (regWrite p Reg.FABRIC_TILE_CTRL writeTileCtrl v)

/-- PROT_WRITE. -/
def execProtWrite (p : Path) (n : Fin 8) (v : Word) (s : State) : Host.Outcome State Fault Refusal :=
  access s (fieldWrite p (Reg.FABRIC_PROT n) true (writeProt n v))

/-- FREEZE. -/
def execFreeze (p : Path) (s : State) : Host.Outcome State Fault Refusal := access s (fieldWrite p Reg.FABRIC_PROT_CTRL false freezeProt)

/-- CTX_SWITCH: a write of CONFIG.CTX_SWITCH. -/
def execCtxSwitch (p : Path) (v : Word) (s : State) : Host.Outcome State Fault Refusal := access s (regWrite p Reg.CONFIG_CTX_SWITCH writeCtxSwitch v)

/-- FABRIC_RESET: a write of 1 to FABRIC.CTRL.RESET. -/
def execFabricReset (p : Path) (s : State) : Host.Outcome State Fault Refusal := access s (fieldWrite p Reg.FABRIC_CTRL false fabricReset)

/-- FB_PORT_WRITE. -/
def execFbPortWrite (g : Fin 8) (front : Bool) (w : BitVec 7) (v : Word) (flip : Bool) (s : State) : Host.Outcome State Fault Refusal :=
  act s (frameBufferPort g front w.toNat v flip)

/-- COMB_CELL_PORT_WRITE. -/
def execCombCellPortWrite (cell : BitVec 9) (v : Word) (s : State) : Host.Outcome State Fault Refusal := act s (combCellPort cell.toNat v)

end Sys2Proof.Machine
end

