-- ==== Sys2Proof/Machine/Bias.lean ====
section
/-! DEFINITION. The LCD bias generator: its states, its safe point and its target (R188 to R192). -/
namespace Sys2Proof.Machine

/-- States of the bias generator (R191). -/
def biasOff : Nat := 0
def biasStarting : Nat := 1
def biasOn : Nat := 2
def biasStopping : Nat := 3
def biasRestart : Nat := 4

def biasState (s : State) : Nat := s.get Fld.LCDB_STATUS_STATE

/-- The state with the generator's state set; it acts for LCD fields only once ON and a commit clock has passed (R184). -/
def putBias (st : Nat) (s : State) : State :=
  let s := s.set Fld.LCDB_STATUS_STATE st
  { s with lcd := { s.lcd with acts := s.lcd.acts && decide (st = biasOn) } }

/-- The LCD groups that are ON. -/
def lcdGroupsOn (s : State) : List Nat := (List.range 8).filter fun g => s.isLcd g && decide (s.grpState g = grpOn)

/-- STARTING is entered, the pump on from the present VLCD (R189, R191). -/
def startPump (fromRestart : Bool) (s : State) : State :=
  let s := ((putBias biasStarting s).set Fld.LCDB_STATUS_SAFE 0).set Fld.LCDB_STATUS_DISCHARGING 0
  { s with lcd := { s.lcd with fromRestart := fromRestart, startedAt := s.now } }

/-- LEVEL ends: SAFE, and DISCHARGE or the restart (R191). -/
def levelEnd (s : State) : State :=
  let s := (s.set Fld.LCDB_STATUS_SAFE 1).set Fld.LCDB_STATUS_ADV_LEFT 0
  if biasState s = biasRestart then startPump true s else s.set Fld.LCDB_STATUS_DISCHARGING 1

/-- The generator is in LEVEL. -/
def inLevel (s : State) : Bool :=
  decide (biasState s = biasStopping ∨ biasState s = biasRestart) && !s.flag Fld.LCDB_STATUS_SAFE

/-- LEVEL ends when ADV_LEFT is 0, no LCD group is ON or the comb is STOPPED (R191). -/
def checkLevel (s : State) : State :=
  if inLevel s && (decide (s.get Fld.LCDB_STATUS_ADV_LEFT = 0) || (lcdGroupsOn s).isEmpty || decide (s.runState = combStopped)) then levelEnd s
  else s

/-- STOPPING is entered and LEVEL begins (R191). -/
def startLevel (s : State) : State :=
  let d := (lcdGroupsOn s).foldl (fun a g => max a (s.duty g)) 0
  checkLevel (((putBias biasStopping s).set Fld.LCDB_STATUS_SAFE 0).set Fld.LCDB_STATUS_ADV_LEFT (d + 1))

/-- ENABLE of the generator written 1 (R191). -/
def enableBias (s : State) : State :=
  let s := s.set Fld.LCDB_BASIC_ENABLE 1
  if biasState s = biasOff then gatesOn gateLcdb (startPump false s)
  else if biasState s = biasStopping then
    if s.flag Fld.LCDB_STATUS_SAFE then startPump true (putBias biasRestart s) else putBias biasRestart s
  else s

/-- ENABLE of the generator written 0 (R191). -/
def disableBias (s : State) : State :=
  let s := s.set Fld.LCDB_BASIC_ENABLE 0
  if biasState s = biasStarting ∨ biasState s = biasOn then startLevel s
  else if biasState s = biasRestart then
    if s.flag Fld.LCDB_STATUS_SAFE then (putBias biasStopping s).set Fld.LCDB_STATUS_DISCHARGING 1 else putBias biasStopping s
  else s

/-- The bias generator is OFF at once, its pump off (R191). -/
def biasOffNow (s : State) : State :=
  ((putBias biasOff s).set Fld.LCDB_STATUS_SAFE 1).set Fld.LCDB_STATUS_DISCHARGING 0

/-- VLCD is measured, in units of 20 mV: READY shows whether it lies within 2 % of the target (R189, R201). -/
def measureVlcd (vlcd : Nat) (s : State) : State :=
  let t := s.get Fld.LCDB_STATUS_VLCD_TGT
  (s.set Fld.LCDB_STATUS_VLCD_NOW vlcd).setFlag Fld.LCDB_STATUS_READY (decide (49 * t ≤ 50 * vlcd ∧ 50 * vlcd ≤ 51 * t))

/-- READY for 1,024 tck while STARTING (R189). -/
def biasReady (s : State) : State :=
  if biasState s = biasStarting then
    let s := ((putBias biasOn s).set Fld.LCDB_STATUS_READY 1).raise Fld.LCDB_EVENTS_READY
    if s.lcd.fromRestart then s.raise Fld.LCDB_EVENTS_RESTARTED else s
  else s

/-- 5 ms of STARTING without ON (R189). -/
def pumpFail (s : State) : State :=
  if biasState s = biasStarting then
    let s := s.elapseTo (s.lcd.startedAt + 960000)
    startLevel ((s.set Fld.LCDB_BASIC_ENABLE 0).raise Fld.LCDB_EVENTS_PUMP_FAIL)
  else s

/-- VLCD below 90 % of its target for 50 µs while ON (R189). -/
def pumpOverload (s : State) : State :=
  if biasState s = biasOn then
    startLevel (((s.set Fld.LCDB_STATUS_READY 0).set Fld.LCDB_BASIC_ENABLE 0).raise Fld.LCDB_EVENTS_PUMP_OVERLOAD)
  else s

/-- VLCD, in units of 20 mV, is measured below 200 mV in DISCHARGE (R191). -/
def biasDischarged (vlcd : Nat) (s : State) : State :=
  if biasState s = biasStopping ∧ s.flag Fld.LCDB_STATUS_DISCHARGING = true ∧ vlcd < 10 then
    (measureVlcd vlcd (putBias biasOff s)).raise Fld.LCDB_EVENTS_STOPPED
  else s

/-- T of the bias generator in °C: 25 with no source or a faulty one (R188). -/
def biasTemp (s : State) : Int :=
  let src := s.get Fld.LCDB_BASIC_TSRC
  let t := tempOf s src (Config.lcdbSensor 0).val
  if src = 3 ∨ t.2 = true then 25 else t.1

/-- The target for the present settings, rounded to 20 mV (R188). DESIGN CHOICE: a target half way between two steps is rounded up. -/
def biasTarget (s : State) : Nat :=
  let mv20000 : Int := (s.get Fld.LCDB_BASIC_VSET : Int) * 50 * (20000 - (s.get Fld.LCDB_BASIC_TCOMP : Int) * (biasTemp s - 25))
  ((clampInt (2500 * 20000) (12000 * 20000) mv20000 + 200000) / 400000).toNat

/-- A 10 ms recomputation: the target in force moves by at most 20 mV, and VLCD is measured (R188, R189). -/
def updateTarget (vlcd : Nat) (s : State) : State :=
  let s := s.elapse (s.toNextGrid 1920000 s.lcd.lastUpdate)
  let t := moveToward (s.get Fld.LCDB_STATUS_VLCD_TGT) (biasTarget s) 1
  let s := { s with lcd := { s.lcd with lastUpdate := some s.now } }
  measureVlcd vlcd (s.set Fld.LCDB_STATUS_VLCD_TGT t)

/-- A write of BIAS and VSET (R190). -/
def writeBiasSet (bias vset : Nat) (s : State) : State :=
  let cur := s.get Fld.LCDB_BASIC_BIAS
  let biasBad := decide (bias < 2 ∨ 5 < bias ∨ bias ≠ cur ∧ biasState s ≠ biasOff)
  let vsetBad := decide (vset < 50 ∨ 240 < vset)
  let s := if vsetBad then s else s.set Fld.LCDB_BASIC_VSET vset
  let s := if biasBad || decide (bias = cur) then s else lapse (s.set Fld.LCDB_BASIC_BIAS bias)
  if biasBad || vsetBad then s.raise Fld.LCDB_EVENTS_SET_REFUSED else s

/-- A write of the whole of LCDB.BASIC: the settings, then ENABLE (R189, R190, R201). -/
def writeLcdbBasic (v : Word) (s : State) : State :=
  let s := writeBiasSet (bitsOf v 44 3) (bitsOf v 36 8) s
  let s := ((s.set Fld.LCDB_BASIC_TCOMP (bitsOf v 29 7)).set Fld.LCDB_BASIC_TSRC (bitsOf v 27 2)).set Fld.LCDB_BASIC_KEY_LVL (bitsOf v 23 4)
  if bitAt v 47 then enableBias s else disableBias s

/-- BIAS_ENABLE: LCDB ENABLE written 1 by a path. -/
def execBiasEnable (p : Path) (s : State) : Host.Outcome State Fault Refusal := access s (fieldWrite p Reg.LCDB_BASIC true enableBias)

/-- BIAS_DISABLE: LCDB ENABLE written 0 by a path. -/
def execBiasDisable (p : Path) (s : State) : Host.Outcome State Fault Refusal := access s (fieldWrite p Reg.LCDB_BASIC true disableBias)

/-- BIAS_READY. -/
def execBiasReady (s : State) : Host.Outcome State Fault Refusal := act s biasReady

/-- PUMP_FAIL. -/
def execPumpFail (s : State) : Host.Outcome State Fault Refusal := act s pumpFail

/-- PUMP_OVERLOAD. -/
def execPumpOverload (s : State) : Host.Outcome State Fault Refusal := act s pumpOverload

/-- BIAS_DISCHARGE_END with the measured VLCD. -/
def execBiasDischargeEnd (vlcd : BitVec 10) (s : State) : Host.Outcome State Fault Refusal := act s (biasDischarged vlcd.toNat)

/-- VLCD_TARGET_UPDATE with the measured VLCD. -/
def execVlcdTargetUpdate (vlcd : BitVec 10) (s : State) : Host.Outcome State Fault Refusal := act s (updateTarget vlcd.toNat)

/-- BIAS_SET_WRITE by a path. -/
def execBiasSetWrite (p : Path) (bias : BitVec 3) (vset : BitVec 8) (s : State) : Host.Outcome State Fault Refusal :=
  access s (fieldWrite p Reg.LCDB_BASIC true (writeBiasSet bias.toNat vset.toNat))

end Sys2Proof.Machine
end

