-- ==== Sys2Proof/Machine/Energy.lean ====
section
/-! DEFINITION. The energy counters' view of an LED cell: what the lit lines of a group add while they are driven (R325). Energy is
counted in units of 1 ÷ 30,720,000 µJ, in which 1 mA × 1 V × 1 tck ÷ 192,000 is 160. -/
namespace Sys2Proof.Machine

/-- Adds to the energy of the frame in progress. -/
def addEnergy (sup heat : Int) (s : State) : State :=
  { s with ledger := { s.ledger with supAcc := s.ledger.supAcc + sup, heatAcc := s.ledger.heatAcc + heat } }

/-- The S-lines of group `g` that the encoded word of a cell lights. -/
def litLines (s : State) (g : Nat) (w : Word) : Nat :=
  if s.lineOn g (cellCommon w) then
    countS ((encodedWord s g (cellCommon w) (cellPlane w)).toNat &&& s.linesOn g)
  else 0

/-- `len` tck of a cell in which group `g` drives its LED field (R325): I_seg × VLEDg and I_seg × DROP for each lit S-line. -/
def accountLed (g : Nat) (w : Word) (len : Nat) (s : State) : State :=
  if cellType w g = slotLed ∧ s.isLcd g = false ∧ s.get (Fld.GRP_STATUS_DAC_NOW g) ≠ 0 then
    let u := litLines s g w * s.inForce (Fld.GRP_X_DRIVE_ISEG g) * len
    addEnergy ((u * (s.grp g).vledLit : Nat) / 50 : Int) (u * s.inForce (Fld.GRP_X_DRIVE_DROP g) : Nat) s
  else s

/-- A cell of a lit frame drives the lines: in STANDBY no display field acts (R128), and after a frame's last cell none does. -/
def cellDrives (s : State) : Bool := decide (s.runState = combRunning) && !s.comb.frameEnded && !s.inStandby

/-- The cell now driving, and the tck it has driven display fields for. -/
def drivingCell (s : State) : Word := s.cell s.activeBank (s.get Fld.COMB_STATUS_CUR_CELL)
def drivenFor (s : State) : Nat := if cellDrives s then s.now - s.comb.cellStart else 0

end Sys2Proof.Machine
end

