-- ==== Sys2Proof/Machine/Led.lean ====
section
/-! DEFINITION. Drive groups: enabling, stopping and restarting LED and LCD groups, their settings with the hard limits, and what their
drivers report (R159 to R179, R185 to R187, R200). -/
namespace Sys2Proof.Machine

/-- The page of a group. -/
def grpPage (g : Nat) : Nat := 8 + g

/-- Clears or sets a group's ENABLE at the page's present level (R174, R178). -/
def putEnable (g v : Nat) (s : State) : State := setLive (grpPage g) (Fld.GRP_BASIC_ENABLE g) (Fld.GRP_X_DRIVE_ENABLE g) v s

/-- The active bank was checked with another kind, or with another duty of an LCD group, than the one in force (R186). -/
def bankStale (s : State) (g : Nat) : Bool :=
  s.comb.activeKinds.testBit g != s.isLcd g || s.isLcd g && decide (s.comb.activeDuties / 16 ^ g % 16 + 1 ≠ s.duty g)

/-- DUTY_STALE follows, with STALE_BANK when it begins (R186); it reads 0 in an LED group (R202) and before the comb has started. -/
def updateStale (g : Nat) (s : State) : State :=
  let st := s.comb.started && s.isLcd g && bankStale s g
  let was := s.flag (Fld.GRP_STATUS_DUTY_STALE g)
  let s := s.setFlag (Fld.GRP_STATUS_DUTY_STALE g) st
  if st && !was then s.raise (Fld.GRP_EVENTS_STALE_BANK g) else s

/-- J and W of a group's lines become 0, with their saturation marks (R200). -/
def zeroLedger (g : Nat) (s : State) : State :=
  { s with lcd := { s.lcd with
    j := s.lcd.j.filter fun e => !(e.1 / 48 == g), w := s.lcd.w.filter fun e => !(e.1 / 48 == g)
    jSat := s.lcd.jSat.filter fun k => !(k / 48 == g), wSat := s.lcd.wSat.filter fun k => !(k / 48 == g) } }

/-- A group's LED and PRECHARGE fields act: it is ON, or in RAMP (R99, R169). -/
def ledLit (s : State) (g : Nat) : Bool := decide (s.grpState g = grpOn) || decide ((s.grp g).phase = .ramp)

/-- A group reaches OFF (R176, R187). -/
def reachOff (g : Nat) (s : State) : State :=
  let s := ((s.set (Fld.GRP_STATUS_STATE g) grpOff).set (Fld.GRP_STATUS_SAFE g) 1).modGrp g fun x => { x with phase := .none }
  beginTest kindClamp ((if s.isLcd g then zeroLedger g s else s).raise (Fld.GRP_EVENTS_STOPPED g))

/-- DISCHARGE begins from its start (R170). -/
def startDischarge (g : Nat) (s : State) : State :=
  let d := s.get (Fld.GRP_X_DRIVE_DISCHARGE g)
  if d = 0 then reachOff g s
  else (s.set (Fld.GRP_STATUS_STATE g) grpStopping).modGrp g fun x => { x with phase := .discharge, due := s.now + 1024 * d }

/-- The current of a stopping LED group reaches 0: the safe point, up to which the cell now driving counts its energy (R169, R176, R325). -/
def safePoint (g : Nat) (s : State) : State :=
  let s := accountLed g (drivingCell s) (drivenFor s) s
  let s := ((s.set (Fld.GRP_STATUS_DAC_NOW g) 0).set (Fld.GRP_STATUS_SAFE g) 1).modGrp g fun x => { x with phase := .none }
  if s.grpState g = grpStopping then startDischarge g s else s

/-- An LCD group's count has ended: its safe point (R187). -/
def lcdSafe (g : Nat) (s : State) : State :=
  if s.grpState g = grpStopping then reachOff g s else s.set (Fld.GRP_STATUS_SAFE g) 1

/-- A group leaves ON and STOPPING begins (R169, R176, R187, R245). -/
def stopGroup (g : Nat) (s : State) : State :=
  let s := freezeGroupKeys g s
  let s := (s.set (Fld.GRP_STATUS_STATE g) grpStopping).set (Fld.GRP_STATUS_SAFE g) 0
  if s.isLcd g then
    let s := checkLevel (s.set (Fld.GRP_STATUS_ADV_LEFT g) (s.duty g + 1))
    if s.runState = combStopped then lcdSafe g s else s
  else
    let r := s.get (Fld.GRP_X_DRIVE_RAMP_STEP g)
    if r = 0 ∨ s.get (Fld.GRP_STATUS_DAC_NOW g) = 0 then safePoint g s
    else s.modGrp g fun x => { x with phase := .ramp, due := s.now + r, rampStep := r }

/-- A group is OFF at once, its lines at high impedance, with no ramp and no discharge (R176, R187, R245). -/
def groupOffNow (g : Nat) (s : State) : State :=
  let s := if s.grpState g = grpOn then freezeGroupKeys g s else s
  let s := ((s.set (Fld.GRP_STATUS_STATE g) grpOff).set (Fld.GRP_STATUS_SAFE g) 1).set (Fld.GRP_STATUS_START_PENDING g) 0
  let s := (s.set (Fld.GRP_STATUS_DAC_NOW g) 0).modGrp g fun x => { x with phase := .none }
  beginTest kindClamp (if s.isLcd g then zeroLedger g s else s)

/-- A pending restart is cancelled (R176, R187). -/
def cancelRestart (g : Nat) (s : State) : State :=
  let s := (s.set (Fld.GRP_STATUS_START_PENDING g) 0).set (Fld.GRP_STATUS_STATE g) grpStopping
  if s.flag (Fld.GRP_STATUS_SAFE g) then (if s.isLcd g then reachOff g s else startDischarge g s) else s

/-- ENABLE written 1 (R171, R176). -/
def enableGroup (g : Nat) (s : State) : State :=
  let s := putEnable g 1 s
  if s.grpState g = grpOff then gatesOn (gateGroup g) (s.set (Fld.GRP_STATUS_START_PENDING g) 1)
  else if s.grpState g = grpStopping then
    let s := (s.set (Fld.GRP_STATUS_STATE g) grpRestart).set (Fld.GRP_STATUS_START_PENDING g) 1
    if s.flag (Fld.GRP_STATUS_SAFE g) then s.modGrp g fun x => { x with phase := .none } else s
  else s

/-- ENABLE written 0 (R176). -/
def disableGroup (g : Nat) (s : State) : State :=
  let s := putEnable g 0 s
  if s.grpState g = grpOff then s.set (Fld.GRP_STATUS_START_PENDING g) 0
  else if s.grpState g = grpOn then stopGroup g s
  else if s.grpState g = grpRestart then cancelRestart g s
  else s

/-- The device stops a group of its own accord (R174). -/
def stopByDevice (g : Nat) (s : State) : State :=
  if s.grpState g = grpOn then stopGroup g (putEnable g 0 s)
  else if s.grpState g = grpRestart then cancelRestart g (putEnable g 0 s)
  else s

/-! ### An enable takes effect (R171 to R173) -/

/-- The cause that refuses an enable (R172). DESIGN CHOICE: where both causes hold it is VLED_LOW, the lower code. -/
def enableCause (s : State) (g : Nat) : Nat :=
  if s.flag (Fld.GRP_STATUS_VLED_OK g) = false then 1
  else if s.comb.activeKinds.testBit g != s.isLcd g then 2
  else 0

/-- An enable is refused (R172, R176, R187). -/
def refuseEnable (g cause : Nat) (s : State) : State :=
  let s := (putEnable g 0 (s.set (Fld.GRP_STATUS_START_PENDING g) 0)).set (Fld.GRP_STATUS_REFUSE_CAUSE g) cause
  let s := s.raise (Fld.GRP_EVENTS_ENABLE_REFUSED g)
  let s := if cause = 1 then s.raise (Fld.GRP_EVENTS_VLED_LOW g) else s
  if s.grpState g = grpRestart then (if s.isLcd g then reachOff g s else startDischarge g s) else s

/-- The levels of a group become 0 in every table of the pipeline (R143, R146, R173). -/
def zeroLevels (g : Nat) (s : State) : State :=
  let z := restoreGroup []
  { s with pipe := { s.pipe with
    held := z s.pipe.held g, fade := z s.pipe.fade g
    nextNormal := z s.pipe.nextNormal g, nextSag := z s.pipe.nextSag g
    litNormal := z s.pipe.litNormal g, litSag := z s.pipe.litSag g } }

/-- A group becomes ON (R173, R187, R200). -/
def becomeOn (g : Nat) (s : State) : State :=
  let again := decide (s.grpState g = grpRestart)
  let s := ((s.set (Fld.GRP_STATUS_STATE g) grpOn).set (Fld.GRP_STATUS_START_PENDING g) 0).set (Fld.GRP_STATUS_SAFE g) 0
  let s := (zeroLevels g s).modGrp g fun x => { x with phase := .none, passDone := false, lcdFrame := 0, pairStart := s.now }
  let s := if s.isLcd g then
      zeroLedger g (((s.set (Fld.GRP_STATUS_PTR g) 0).set (Fld.GRP_STATUS_POL g) 0).set (Fld.GRP_STATUS_ADV_LEFT g) 0)
    else s.set (Fld.GRP_STATUS_DAC_NOW g) (s.inForce (Fld.GRP_X_DRIVE_ISEG g))
  if again then s.raise (Fld.GRP_EVENTS_RESTARTED g) else s

/-- A CLINE_CLAMP test waits or runs on a group (R562). -/
def clampTesting (s : State) (g : Nat) : Bool := s.fault.tests.any fun t => t.kind == kindClamp && t.object / 2 ^ 21 == g

/-- The pending enable of a group takes effect or is refused at a commit clock or at the start of the comb (R171, R172). -/
def takeEnable (g : Nat) (s : State) : State :=
  if s.flag (Fld.GRP_STATUS_START_PENDING g) && !clampTesting s g &&
      (decide (s.grpState g = grpOff) || (decide (s.grpState g = grpRestart) && s.flag (Fld.GRP_STATUS_SAFE g))) then
    let c := enableCause s g
    if c = 0 then becomeOn g s else refuseEnable g c s
  else s

/-! ### Ramp and discharge -/

/-- One step of RAMP (R169). -/
def rampTick (g : Nat) (s : State) : State :=
  if (s.grp g).phase = .ramp then
    let s := s.elapseTo (s.grp g).due
    let dac := s.get (Fld.GRP_STATUS_DAC_NOW g) - 1
    if dac = 0 then safePoint g s
    else (s.set (Fld.GRP_STATUS_DAC_NOW g) dac).modGrp g fun x => { x with due := s.now + x.rampStep }
  else s

/-- The end of DISCHARGE (R170). -/
def dischargeEnd (g : Nat) (s : State) : State :=
  if (s.grp g).phase = .discharge then reachOff g (s.elapseTo (s.grp g).due) else s

/-! ### What the drivers report -/

/-- S-line sources of group `g` out of regulation in an LED cell in which they source (R162): mask with bit 0 for S-line 16. No line sources
with no current, as in DISCHARGE and at a safe point (R169, R170, R176). -/
def headroomLost (g : Nat) (lines : BitVec 32) (s : State) : State :=
  let w := drivingCell s
  let lit := bitsOf (encodedWord s g (cellCommon w) (cellPlane w)) 16 32 &&& (s.linesOn g / 65536)
  let low := lines.toNat &&& lit
  if cellDrives s = true ∧ cellType w g = slotLed ∧ ledLit s g = true ∧ s.get (Fld.GRP_STATUS_DAC_NOW g) ≠ 0 ∧ low ≠ 0 then
    let put := fun (low32 lc : Field) (s : State) => (s.set low32 (s.get low32 ||| low)).set lc (cellCommon w)
    let s := put (Fld.GRP_X_HEADROOM_LOW g) (Fld.GRP_X_HEADROOM_LAST_COMMON g) s
    let s := if s.expert (grpPage g) then s else put (Fld.GRP_HEADROOM_LOW g) (Fld.GRP_HEADROOM_LAST_COMMON g) s
    s.raise (Fld.GRP_EVENTS_HEADROOM g)
  else s

/-- A clear of the headroom record through the register of the present level clears both (R179). -/
def clearHeadroom (g : Nat) (v : Word) (s : State) : State :=
  let m := bitsOf (~~~v) 16 32
  let s := s.set (Fld.GRP_X_HEADROOM_LOW g) (s.get (Fld.GRP_X_HEADROOM_LOW g) &&& m)
  s.set (Fld.GRP_HEADROOM_LOW g) (s.get (Fld.GRP_HEADROOM_LOW g) &&& m)

/-- A C-line limiter has acted for 64 tck (R165). -/
def clineClamp (g c : Nat) (s : State) : State :=
  if s.grpState g = grpOn then
    stopByDevice g (startTest (s.raise (Fld.GRP_EVENTS_CLINE_CLAMP g)) kindClamp (objClamp g c))
  else s

/-- VLEDg falls below its threshold (R58, R174). -/
def vledLow (g : Nat) (s : State) : State :=
  stopByDevice g ((s.set (Fld.GRP_STATUS_VLED_OK g) 0).raise (Fld.GRP_EVENTS_VLED_LOW g))

/-- VLEDg reads `mv`: VLED_OK shows whether it is above its threshold of 2.70 V (R55, R58), and a reading that has fallen below it acts as the
fall does (R174). -/
def readVled (g mv : Nat) (s : State) : State :=
  if 2700 ≤ mv then s.set (Fld.GRP_STATUS_VLED_OK g) 1 else if s.flag (Fld.GRP_STATUS_VLED_OK g) then vledLow g s else s

/-! ### Settings -/

/-- The LCD fields of a group's STATUS, EVENTS and LCD_DC read 0 in an LED group (R178, R202): they are 0 from the tck on which it becomes one. -/
def clearLcdFields (g : Nat) (s : State) : State :=
  let s := s.setReg (Reg.GRP_STATUS g) (withBits (s.reg (Reg.GRP_STATUS g)) 0 16 0)
  (s.setReg (Reg.GRP_EVENTS g) (withBits (s.reg (Reg.GRP_EVENTS g)) 8 4 0)).setReg (Reg.GRP_LCD_DC g) 0

/-- A write of KIND (R114, R175). -/
def writeKind (g : Nat) (lcd : Bool) (s : State) : State :=
  if lcd = s.isLcd g then setLive (grpPage g) (Fld.GRP_BASIC_KIND g) (Fld.GRP_X_DRIVE_KIND g) (b2n lcd) s
  else if s.grpState g = grpOff ∧ s.flag (Fld.GRP_STATUS_START_PENDING g) = false then
    let s := setLive (grpPage g) (Fld.GRP_BASIC_KIND g) (Fld.GRP_X_DRIVE_KIND g) (b2n lcd) s
    let s := lapse (s.setFlag (Fld.GRP_STATUS_KIND_NOW g) lcd)
    let s := if lcd then s else clearLcdFields g s
    let s := if lcd && decide (s.runState ≠ combStopped) then gatesOn (gateGroup g) s else s
    updateStale g (checkCapping s)
  else s.raise (Fld.GRP_EVENTS_KIND_REFUSED g)

/-- A guarded write: `t` is the state with the value written, and `limit` says that the C-line limit holds in it; refused when a hard limit
would break (R164, R324). -/
def guarded (g : Nat) (limit : Bool) (t s : State) : State :=
  if limit && guardOk t then t else s.raise (Fld.GRP_EVENTS_LIMIT_REFUSED g)

/-- A write of ISEG, tested with the lines in use in force and pending, in a group of either kind (R164, R324). -/
def writeIseg (g code : Nat) (s : State) : State :=
  let t := setLive (grpPage g) (Fld.GRP_BASIC_ISEG g) (Fld.GRP_X_DRIVE_ISEG g) code s
  guarded g (decide (nSWorst t g * code ≤ clineLimit)) t s

/-- A write of DROP (R324). -/
def writeDrop (g code : Nat) (s : State) : State :=
  guarded g true (setLive (grpPage g) (Fld.GRP_BASIC_DROP g) (Fld.GRP_X_DRIVE_DROP g) code s) s

/-- A write of PC_LEVEL (R166). -/
def writePcLevel (g v : Nat) (s : State) : State := setLive (grpPage g) (Fld.GRP_BASIC_PC_LEVEL g) (Fld.GRP_X_DRIVE_PC_LEVEL g) v s

/-- A write of GRPg.LINE_USE, tested with the ISEG in force and pending, in a group of either kind (R50, R164). -/
def writeLineUse (g : Nat) (v : Word) (s : State) : State :=
  let t := s.setReg (Reg.GRP_LINE_USE g) v
  guarded g (decide (nSWritten t g * larger t (Fld.GRP_X_DRIVE_ISEG g) ≤ clineLimit)) t s

/-- The settings that GRPg.BASIC and X_DRIVE share, then ENABLE (R178). DESIGN CHOICE: the fields of one write are judged in the order KIND (on the
START_PENDING before the write), ISEG with the old DROP, DROP with the new ISEG, and ENABLE acts last. -/
def writeGrpShared (g : Nat) (v : Word) (s : State) : State :=
  let s := writePcLevel g (bitsOf v 32 6) (writeDrop g (bitsOf v 24 8) (writeIseg g (bitsOf v 38 8) (writeKind g (bitAt v 46) s)))
  if bitAt v 47 then enableGroup g s else disableGroup g s

/-- A write of GRPg.X_DRIVE at expert level (R178). -/
def writeXDrive (g : Nat) (v : Word) (s : State) : State :=
  writeGrpShared g v (((s.set (Fld.GRP_X_DRIVE_PC_DRIVE g) (bitsOf v 22 2)).set (Fld.GRP_X_DRIVE_RAMP_STEP g) (bitsOf v 18 4)).set
    (Fld.GRP_X_DRIVE_DISCHARGE g) (bitsOf v 10 8))

/-- A write of GRPg.LCD (R185); in an LED group LCD_REFUSED reads 0 (R202). -/
def writeLcd (g : Nat) (v : Word) (s : State) : State :=
  if bitsOf v 43 5 = bitsOf (s.reg (Reg.GRP_LCD g)) 43 5 then s
  else if s.grpState g = grpOff ∧ s.flag (Fld.GRP_STATUS_START_PENDING g) = false then updateStale g (lapse (s.putWord (Reg.GRP_LCD g) v))
  else if s.isLcd g then s.raise (Fld.GRP_EVENTS_LCD_REFUSED g)
  else s

/-- The values that GRPg.X_DRIVE derives from GRPg.BASIC (R178), treated as a write of the expert register (R79).
DESIGN CHOICE: a derived KIND, ISEG or DROP that R175, R164 or R324 refuses is refused here too, with its flag, and the expert field keeps its value. -/
def rederiveGroup (g : Nat) (s : State) : State :=
  let w := s.reg (Reg.GRP_BASIC g)
  let s := writeXDrive g (packWord [(24, 24, bitsOf w 24 24), (22, 2, 1), (18, 4, 4), (10, 8, 8)]) s
  s.setReg (Reg.GRP_HEADROOM g) (s.reg (Reg.GRP_X_HEADROOM g))

/-! ### Commands -/

/-- GROUP_ENABLE: ENABLE of group `g` written 1 in the register of the present level. -/
def execGroupEnable (p : Path) (g : Fin 8) (s : State) : Host.Outcome State Fault Refusal := access s (levelWrite p (grpPage g) (enableGroup g))

/-- GROUP_DISABLE. -/
def execGroupDisable (p : Path) (g : Fin 8) (s : State) : Host.Outcome State Fault Refusal := access s (levelWrite p (grpPage g) (disableGroup g))

/-- KIND_WRITE. -/
def execKindWrite (p : Path) (g : Fin 8) (lcd : Bool) (s : State) : Host.Outcome State Fault Refusal :=
  access s (levelWrite p (grpPage g) (writeKind g lcd))

/-- ISEG_WRITE. -/
def execIsegWrite (p : Path) (g : Fin 8) (code : BitVec 8) (s : State) : Host.Outcome State Fault Refusal :=
  access s (levelWrite p (grpPage g) (writeIseg g code.toNat))

/-- DROP_WRITE. -/
def execDropWrite (p : Path) (g : Fin 8) (code : BitVec 8) (s : State) : Host.Outcome State Fault Refusal :=
  access s (levelWrite p (grpPage g) (writeDrop g code.toNat))

/-- LINE_USE_WRITE. -/
def execLineUseWrite (p : Path) (g : Fin 8) (v : Word) (s : State) : Host.Outcome State Fault Refusal :=
  access s (fieldWrite p (Reg.GRP_LINE_USE g) true (writeLineUse g v))

/-- RAMP_STEP_TICK. -/
def execRampStepTick (g : Fin 8) (s : State) : Host.Outcome State Fault Refusal := act s (rampTick g)

/-- DISCHARGE_END. -/
def execDischargeEnd (g : Fin 8) (s : State) : Host.Outcome State Fault Refusal := act s (dischargeEnd g)

/-- HEADROOM: the S-lines (bit 0 for S-line 16) that were out of regulation for 16 tck. -/
def execHeadroom (g : Fin 8) (lines : BitVec 32) (s : State) : Host.Outcome State Fault Refusal := act s (headroomLost g lines)

/-- CLINE_CLAMP. -/
def execClineClamp (g : Fin 8) (c : Fin 16) (s : State) : Host.Outcome State Fault Refusal := act s (clineClamp g c)

/-- VLED_LOW. -/
def execVledLow (g : Fin 8) (s : State) : Host.Outcome State Fault Refusal := act s (vledLow g)

/-- LCD_WRITE. -/
def execLcdWrite (p : Path) (g : Fin 8) (v : Word) (s : State) : Host.Outcome State Fault Refusal :=
  access s (fieldWrite p (Reg.GRP_LCD g) true (writeLcd g v))

end Sys2Proof.Machine
end

