-- ==== Sys2Proof/Machine/LineCode.lean ====
section
/-! DEFINITION. The line code of the ring: 8b/10b code groups under running disparity, the ordered sets, and packets as code groups
(R334, R338, R339). PRESUMED: the tables of "the standard code", which the manual does not print, are the common ones; a code group is
written with its first bit on the line as the most significant. -/
namespace Sys2Proof.Machine

/-- The six-bit sub-blocks of D.0 to D.31 at negative running disparity. -/
def sixTable : List (BitVec 6) :=
  [0b100111, 0b011101, 0b101101, 0b110001, 0b110101, 0b101001, 0b011001, 0b111000, 0b111001, 0b100101, 0b010101, 0b110100, 0b001101, 0b101100,
   0b011100, 0b010111] ++
  [0b011011, 0b100011, 0b010011, 0b110010, 0b001011, 0b101010, 0b011010, 0b111010, 0b110011, 0b100110, 0b010110, 0b110110, 0b001110, 0b101110,
   0b011110, 0b101011]

/-- The four-bit sub-blocks of D.x.0 to D.x.7 and of K.x.0 to K.x.7 at negative running disparity; D.x.7 has a second form. -/
def fourTable : List (BitVec 4) := [0b1011, 0b1001, 0b0101, 0b1100, 0b1101, 0b1010, 0b0110, 0b1110]
def fourTableK : List (BitVec 4) := [0b1011, 0b0110, 0b1010, 0b1100, 0b1101, 0b0101, 0b1001, 0b0111]
def fourSecond : BitVec 4 := 0b0111

/-- The number of ones in a sub-block. -/
def onesIn {w : Nat} (v : BitVec w) : Nat := ((List.range w).filter fun i => v.getLsbD i).length

/-- The six-bit sub-block of a code group; running disparity is positive where `rd`. Unbalanced sub-blocks and D.7 are complemented then. -/
def sixOf (g : LineGroup) (rd : Bool) : BitVec 6 :=
  let x := g.byte.toNat % 32
  let c : BitVec 6 := if g.control && decide (x = 28) then 0b001111 else sixTable.getD x 0
  if rd && (decide (onesIn c ≠ 3) || decide (x = 7)) then ~~~c else c

/-- The second form of D.x.7 keeps five equal bits from the line. -/
def secondForm (x : Nat) (rd : Bool) : Bool := if rd then decide (x ∈ [11, 13, 14]) else decide (x ∈ [17, 18, 20])

/-- The four-bit sub-block of a code group, `rd` the disparity after its six-bit one. Those of control groups are always complemented at
positive disparity; of data groups, the unbalanced ones and D.x.3. -/
def fourOf (g : LineGroup) (rd : Bool) : BitVec 4 :=
  let x := g.byte.toNat % 32
  let y := g.byte.toNat / 32
  if g.control then (let c := fourTableK.getD y 0; if rd then ~~~c else c)
  else
    let c := if y = 7 ∧ secondForm x rd then fourSecond else fourTable.getD y 0
    if rd && (decide (onesIn c ≠ 2) || decide (y = 3)) then ~~~c else c

/-- A sub-block turns the running disparity round when it is unbalanced. -/
def turns {w : Nat} (c : BitVec w) : Bool := decide (2 * onesIn c ≠ w)

/-- A code group on the line, and the running disparity after it (R334). -/
def encodeGroup (rd : Bool) (g : LineGroup) : BitVec 10 × Bool :=
  let a := sixOf g rd
  let rd := xor rd (turns a)
  let b := fourOf g rd
  (a ++ b, xor rd (turns b))

/-- Code groups on the line, and the running disparity after them. -/
def encodeGroups (rd : Bool) : List LineGroup → List (BitVec 10) × Bool
  | [] => ([], rd)
  | g :: r =>
    let e := encodeGroup rd g
    let t := encodeGroups e.2 r
    (e.1 :: t.1, t.2)

/-! ### Ordered sets and packets (R334, R338) -/

/-- Data and control code groups by their numbers x.y. -/
def dataGroup (b : Byte) : LineGroup := ⟨false, b⟩
def kGroup (x y : Nat) : LineGroup := ⟨true, BitVec.ofNat 8 (32 * y + x)⟩

/-- The ordered sets; each begins with K28.5. -/
def idleSet : List LineGroup := [kGroup 28 5, dataGroup 0x50]
def sopSet : List LineGroup := [kGroup 28 5, kGroup 27 7]
def eopSet : List LineGroup := [kGroup 28 5, kGroup 29 7]
def abortSet : List LineGroup := [kGroup 28 5, kGroup 30 7]
def wordGroups (w : Word) : List LineGroup := (wordBytes w).map dataGroup
def lswSet (w : Word) : List LineGroup := kGroup 28 5 :: kGroup 28 0 :: wordGroups w
def timeSet (w : Word) : List LineGroup := kGroup 28 5 :: kGroup 28 4 :: wordGroups w
def epochSet (w : Word) : List LineGroup := kGroup 28 5 :: kGroup 28 6 :: wordGroups w

/-- The CRC-32C of a packet's header and payload (R339). -/
def packetCrc (k : Packet) : BitVec 32 := crc32cWords (k.header :: k.payload)

/-- The four bytes of a CRC, most significant first (R339). -/
def crcBytes (c : BitVec 32) : List Byte := (List.range 4).map fun i => c.extractLsb' (8 * (3 - i)) 8

/-- A packet without the sets inserted in it: SOP, header, payload, CRC and EOP. One that ends with ABORT ends after the words it carries
(R338, R340). -/
def packetGroups (k : Packet) : List LineGroup :=
  sopSet ++ (k.header :: k.payload).flatMap wordGroups ++
    (if k.aborts then abortSet else (crcBytes (packetCrc k)).map dataGroup ++ eopSet)

/-- The tck that code groups last: a pair lasts 4 (R334). -/
def groupsTck (gs : List LineGroup) : Nat := 2 * gs.length

end Sys2Proof.Machine
end

