-- ==== Sys2Proof/Machine/Ring.lean ====
section
/-! DEFINITION. The Umrus ring link: ports, receive links, wrap states, the bypass, clock recovery, queen lineage and hive time
(R330 to R367). -/
namespace Sys2Proof.Machine

/-- The index of a port: 0 for A, 1 for B; and the other port's. -/
def portNo : Port → Nat
  | .a => 0
  | .b => 1
def otherNo (x : Nat) : Nat := 1 - x

/-- Port states, link states, wrap states, bypass states and states of hive time (R345, R347, R352, R354, R363). -/
def portOff : Nat := 0
def portOn : Nat := 1
def portStopping : Nat := 2
def portRestart : Nat := 3
def linkDown : Nat := 0
def linkTraining : Nat := 1
def linkUp : Nat := 2
def wrapListening : Nat := 0
def wrapNormal : Nat := 1
def wrapA : Nat := 2
def wrapB : Nat := 3
def wrapIsolated : Nat := 4
def bypassClosed : Nat := 0
def bypassOpening : Nat := 1
def bypassOpen : Nat := 2
def bypassClosing : Nat := 3
def timeFree : Nat := 0
def timeSource : Nat := 1
def timeMeasuring : Nat := 2
def timeAligned : Nat := 3
def timeCoasting : Nat := 4

/-- HOPS of a node without lineage (R344). -/
def noHops : Nat := 0x7F

namespace State

def port (s : State) (x : Nat) : PortState := s.ring.ports.getD x {}

def modPort (s : State) (x : Nat) (f : PortState → PortState) : State :=
  { s with ring := { s.ring with ports := s.ring.ports.setIfInBounds x (f (s.port x)) } }

def portState (s : State) (x : Nat) : Nat := s.get (Fld.RING_STATUS_PORT_STATE x)
def link (s : State) (x : Nat) : Nat := s.get (Fld.RING_STATUS_LINK x)
def bypass (s : State) : Nat := s.get Fld.RINGA_BYPASS_STATE
def wrap (s : State) : Nat := s.get (Fld.RING_STATUS_NODE_WRAP 0)
def isQueen (s : State) : Bool := s.flag Fld.HIVE_STATUS_QUEEN
def timeState (s : State) : Nat := s.get Fld.HIVE_ALIGN_STATE
def addr (s : State) : Nat := s.get Fld.HIVE_ROLE_ADDR
def mcReady (s : State) : Bool := s.flag Fld.UPDATE_STATUS_MC_READY

/-- The core runs on a ring source (R352, R355, R405). -/
def onRing (s : State) : Bool := decide (s.get Fld.CLOCK_STATUS_CUR_SRC = 2)

/-- The node's time port (R358). -/
def timePort (s : State) : Option Nat :=
  if s.flag Fld.HIVE_ALIGN_PORT_VALID then some (s.get Fld.HIVE_ALIGN_TIME_PORT) else none

end State

/-- NODE_WRAP takes a value on both pages (R366). -/
def putWrap (v : Nat) (s : State) : State := (s.set (Fld.RING_STATUS_NODE_WRAP 0) v).set (Fld.RING_STATUS_NODE_WRAP 1) v

/-- An error counter of a port rises (R366). -/
def ringError (x : Nat) (f : Field) (s : State) : State := (s.bump f 1).raise (Fld.RING_EVENTS_ERRORS x)

/-! ### Hive time (R360 to R363) -/

/-- A 22-bit count read as a signed one. -/
def sext22 (v : Int) : Int := let r := v % 4194304; if r < 2097152 then r else r - 4194304

/-- Local time at the balls in units of 1/256 tck; `sub` is the part below one tck. -/
def ballTime (s : State) (sub : Nat) : Nat := s.hiveNow * 256 + sub

/-- The mean of a list of integers, rounded down. -/
def meanOf (xs : List Int) : Int := if xs.isEmpty then 0 else floorDiv (xs.foldl (· + ·) 0) xs.length

/-- FRAC of a port, the mean of its samples, of which RINGx.LINK shows the low 20 bits (R361). -/
def portFrac (s : State) (x : Nat) : Int := meanOf ((s.port x).samples.map (·.2))

/-- DELAY and FRAC of a port as the means of its samples, and MEASURED with 16 of them (R361). -/
def publishLink (x : Nat) (s : State) : State :=
  let xs := (s.port x).samples
  let s := s.setInt (Fld.RING_LINK_DELAY x) (meanOf (xs.map (·.1)))
  let s := s.setInt (Fld.RING_LINK_FRAC x) (portFrac s x)
  s.setFlag (Fld.RING_LINK_MEASURED x) (decide (xs.length = 16))

/-- The samples of a port start anew (R361). -/
def resetSamples (x : Nat) (s : State) : State :=
  let s := s.modPort x fun q => { q with samples := [] }
  s.set (Fld.RING_LINK_MEASURED x) 0

/-- The whole tck nearest to a count of 1/256 tck, so that the rest lies within ±128 (R363). -/
def nearestTck (frac : Int) : Int := floorDiv (frac + 128) 256

/-- Hive time moves by `d` tck; what the ports keep in local time moves with it (R363). -/
def shiftTime (d : Int) (s : State) : State :=
  let t := (((s.hiveNow : Int) + d) % ((4294967296 * ticksPerSecond : Nat) : Int)).toNat
  let s := { s with seconds := t / ticksPerSecond, tick := t % ticksPerSecond }
  let mv := fun (v : Nat) => (((v : Int) + 256 * d) % 4194304).toNat
  s.forEach 2 fun x s => publishLink x (s.modPort x fun q => { q with
    departures := q.departures.map fun e => (e.1, mv e.2)
    heard := q.heard.map fun e => (e.1, mv e.2)
    samples := q.samples.map fun e => (e.1, e.2 - 256 * d) })

/-- FRAC in force follows the time port's (R363). -/
def takeFrac (s : State) : State :=
  match s.timePort with
  | none => s
  | some x => s.setInt Fld.HIVE_ALIGN_FRAC (portFrac s x)

/-- The 10 ms clock ticks on the tck of a step from hive time `old` to `new`: the step skips one or more multiples of 10 ms, lands on one, or
both (R242). -/
def stepTicks (old new : Nat) : Bool := decide (new % 1920000 = 0) || decide (old ≤ new ∧ (old + 1919999) / 1920000 ≤ new / 1920000)

/-- The tick of the 10 ms clock at a step, at most one on its tck (R242). -/
def tickAtStep (old : Nat) (s : State) : State :=
  if stepTicks old s.hiveNow && decide (s.keys.lastTick ≠ some s.now) then keyTick s else s

/-- A step of hive time by `d` tck (R242, R363). -/
def stepTime (d : Int) (s : State) : State :=
  takeFrac (((tickAtStep s.hiveNow (shiftTime d s)).bump Fld.HIVE_ALIGN_STEPS 1).raise Fld.HIVE_EVENTS_TIME_STEP)

/-- The distance in tck from hive time to the queen's (R362): the whole time of the last EPOCH, corrected so that its residue modulo 16,384
tck is the one that FRAC gives. -/
def epochDistance (s : State) (x : Nat) : Int :=
  let frac := nearestTck (portFrac s x)
  match s.ring.epoch with
  | none => frac
  | some (sec, slot, arr) =>
    let coarse : Int := (sec * ticksPerSecond + slot * 1920000 + (s.now - arr) : Nat) - (s.hiveNow : Int)
    frac + 16384 * floorDiv (coarse - frac + 8192) 16384

/-- The time port is MEASURED and its recovered clock does not hold over. -/
def timeGood (s : State) (x : Nat) : Bool :=
  s.flag (Fld.RING_LINK_MEASURED x) && !s.flag (Fld.RING_STATUS_RCLK_HOLDOVER x)

/-- Hive time coasts (R363). -/
def coast (s : State) : State := (s.set Fld.HIVE_ALIGN_STATE timeCoasting).raise Fld.HIVE_EVENTS_COASTING

/-- The state machine of hive time, taken after each event that can move it (R363). -/
def timeSync (s : State) : State :=
  let st := s.timeState
  match s.timePort with
  | none =>
    if (st = timeMeasuring ∨ st = timeCoasting) ∧ s.bypass ≠ bypassOpen then s.set Fld.HIVE_ALIGN_STATE timeFree
    else if st = timeAligned then coast s
    else s
  | some x =>
    if st = timeFree then (if s.bypass = bypassOpen then s.set Fld.HIVE_ALIGN_STATE timeMeasuring else s)
    else if st = timeMeasuring then
      if s.flag (Fld.RING_LINK_MEASURED x) && s.ring.epoch.isSome then
        (stepTime (epochDistance s x) (s.set Fld.HIVE_ALIGN_STATE timeAligned)).raise Fld.HIVE_EVENTS_ALIGNED
      else s
    else if st = timeAligned then (if timeGood s x then s else coast s)
    else if st = timeCoasting then
      if timeGood s x then
        let s := s.set Fld.HIVE_ALIGN_STATE timeAligned
        let f := portFrac s x
        if 384 < f.natAbs then stepTime (nearestTck f) s else takeFrac s
      else s
    else s

/-- A new FRAC of the time port while ALIGNED (R363). -/
def newFrac (x : Nat) (s : State) : State :=
  if s.timeState = timeAligned ∧ s.timePort = some x then
    let f := portFrac s x
    if 384 < f.natAbs then stepTime (nearestTck f) s else takeFrac s
  else s

/-! ### Lineage and the time port (R357, R358) -/

/-- A port is live (R357). -/
def isLive (s : State) (x : Nat) : Bool :=
  decide (s.link x = linkUp) && decide (s.get (Fld.RING_STATUS_PEER_HOPS x) ≤ 95) &&
    (!s.flag (Fld.RING_STATUS_PEER_REF_VIA x) || decide (s.bypass ≠ bypassOpen))

/-- A port is live with HOLD 0. -/
def liveClean (s : State) (x : Nat) : Bool := isLive s x && !s.flag (Fld.RING_STATUS_PEER_HOLD x)

/-- HOPS that the node advertises (R357). DESIGN CHOICE: one more than the greatest count stays there, which is that of no lineage. -/
def hopsNow (s : State) : Nat :=
  if s.isQueen then 0
  else match s.timePort with
    | none => noHops
    | some x => min noHops (s.get (Fld.RING_STATUS_PEER_HOPS x) + 1)

/-- The time port becomes port `x` (R358). -/
def moveTimePort (x : Nat) (s : State) : State :=
  let was := s.timePort
  let s := (s.set Fld.HIVE_ALIGN_PORT_VALID 1).set Fld.HIVE_ALIGN_TIME_PORT x
  let s := { s with ring := { s.ring with epoch := none } }
  if was.isSome && decide (was ≠ some x) && decide (s.timeState = timeAligned) then coast s else s

/-- The choice of the time port (R358). The queen takes none (R34). -/
def chooseTimePort (s : State) : State :=
  if s.isQueen then s
  else match s.timePort with
    | none =>
      if liveClean s 0 && liveClean s 1 then
        moveTimePort (if s.get (Fld.RING_STATUS_PEER_HOPS 0) < s.get (Fld.RING_STATUS_PEER_HOPS 1) then 0 else 1) s
      else if liveClean s 1 then moveTimePort 1 s
      else if liveClean s 0 then moveTimePort 0 s
      else s
    | some x =>
      if s.flag Fld.HIVE_ALIGN_FOLLOW && !liveClean s x && liveClean s (otherNo x) then moveTimePort (otherNo x) s else s

/-- A recovered clock begins to hold over (R356). -/
def startHoldover (x : Nat) (s : State) : State :=
  let s := s.modPort x fun q => { q with holdSince := some s.now }
  (s.set (Fld.RING_STATUS_RCLK_HOLDOVER x) 1).raise (Fld.RING_EVENTS_HOLDOVER x)

/-- A recovered clock leaves holdover (R356, R358). -/
def leaveHoldover (x : Nat) (s : State) : State :=
  (s.set (Fld.RING_STATUS_RCLK_HOLDOVER x) 0).modPort x fun q => { q with holdSince := none }

/-- The recovered clock of a port with its link UP holds over while the port is the time port and not live, no move having been possible
(R358). DEDUCED: a time port that receives HOLD 1 is live and does not hold over. -/
def holdoverSync (x : Nat) (s : State) : State :=
  if s.link x = linkUp then
    if s.timePort = some x ∧ isLive s x = false then (if (s.port x).holdSince.isNone then startHoldover x s else s)
    else if (s.port x).holdSince.isSome then leaveHoldover x s
    else s
  else s

/-- LIVE, the time port, its holdover, HOPS and hive time follow a change of the links (R356 to R358, R363). -/
def lineageSync (s : State) : State :=
  let s := s.forEach 2 fun x s => s.setFlag (Fld.RING_STATUS_LIVE x) (isLive s x)
  let s := timeSync ((chooseTimePort s).forEach 2 holdoverSync)
  s.set Fld.HIVE_ALIGN_HOPS (hopsNow s)

/-! ### Receive links (R344 to R346, R356) -/

/-- READY of a recovered clock clears (R402, R404): the clock record is set when it is the source in use. -/
def ringReadyLost (x : Nat) (s : State) : State :=
  let f := if x = 0 then Fld.CLOCK_STATUS_RINGA_READY else Fld.CLOCK_STATUS_RINGB_READY
  let s := { s with clock := { s.clock with good := s.clock.good.filter fun e => !(e.1 == 2 + x) } }
  if s.flag f then
    let s := (s.set f 0).raise Fld.CLOCK_EVENTS_READY_LOST
    if s.onRing && s.timePort == some x then { s with clock := { s.clock with record := true } } else s
  else s

/-- The receive link of port `x` is DOWN: READY of its clock, USABLE and what was measured on the hop are gone (R345, R346, R361, R402). -/
def linkDrops (x : Nat) (s : State) : State :=
  let s := ringReadyLost x s
  let s := (s.set (Fld.RING_STATUS_LINK x) linkDown).set (Fld.RING_STATUS_USABLE x) 0
  resetSamples x (s.modPort x fun q => { q with lswRun := 0, rxUpRun := 0, lastLsw := none, heard := none })

/-- The receive link of port `x` goes DOWN; one that leaves UP leaves its clock in holdover (R345, R346, R356). -/
def linkGoesDown (x : Nat) (s : State) : State :=
  let up := decide (s.link x = linkUp)
  let s := linkDrops x s
  lineageSync (if up then startHoldover x (s.raise (Fld.RING_EVENTS_LINK_DOWN x)) else s)

/-- A port that receives, sends and trains: not OFF, with its microcode loaded (R354, R502). -/
def portLives (s : State) (x : Nat) : Bool := decide (s.portState x ≠ portOff) && s.mcReady

/-- Signal and K28.5 alignment are gained (R345). -/
def alignmentGained (x : Nat) (s : State) : State :=
  if portLives s x && decide (s.link x = linkDown) then
    (s.set (Fld.RING_STATUS_LINK x) linkTraining).modPort x fun q => { q with lswRun := 0, clockRuns := true }
  else s

/-- The receive link comes UP (R345, R356, R361). -/
def linkComesUp (x : Nat) (s : State) : State :=
  let s := (s.set (Fld.RING_STATUS_LINK x) linkUp).raise (Fld.RING_EVENTS_LINK_UP x)
  resetSamples x ((leaveHoldover x s).modPort x fun q => { q with rxUpRun := 0 })

/-- The PEER fields take those of an accepted link-state word (R344, R361, R366). -/
def takePeer (x : Nat) (w : Word) (s : State) : State :=
  let s := if bitsOf w 25 7 = s.get (Fld.RING_STATUS_PEER_ADDR x) then s else resetSamples x s
  ((((s.set (Fld.RING_STATUS_PEER_RX_UP x) (bitsOf w 42 1)).set (Fld.RING_STATUS_PEER_REF_VIA x) (bitsOf w 41 1)).set
    (Fld.RING_STATUS_PEER_HOLD x) (bitsOf w 24 1)).set (Fld.RING_STATUS_PEER_HOPS x) (bitsOf w 32 7)).set
    (Fld.RING_STATUS_PEER_ADDR x) (bitsOf w 25 7) |>.set (Fld.RING_STATUS_PEER_QUEEN x) (bitsOf w 39 1)

/-- USABLE after an accepted link-state word (R346). -/
def countUsable (x : Nat) (rxUp : Bool) (s : State) : State :=
  if s.link x = linkUp then
    if rxUp then
      let n := min 10 ((s.port x).rxUpRun + 1)
      let s := s.modPort x fun q => { q with rxUpRun := n }
      if n = 10 then s.set (Fld.RING_STATUS_USABLE x) 1 else s
    else (s.modPort x fun q => { q with rxUpRun := 0 }).set (Fld.RING_STATUS_USABLE x) 0
  else s

/-- An accepted link-state word (R344 to R346): the one that brings the link UP is not among the ten that make its side usable. -/
def acceptLsw (x : Nat) (w : Word) (s : State) : State :=
  let s := (takePeer x w s).modPort x fun q => { q with lastLsw := some s.now, lswRun := min 3 (q.lswRun + 1) }
  lineageSync (if s.link x = linkTraining ∧ (s.port x).lswRun = 3 then linkComesUp x s else countUsable x (bitAt w 42) s)

/-- A link-state word that is not accepted ends a run of consecutive accepted ones (R345, R346). -/
def rejectLsw (x : Nat) (s : State) : State :=
  s.modPort x fun q => { q with lswRun := 0, rxUpRun := if q.rxUpRun = 10 then 10 else 0 }

/-- The check byte of a word: CRC-8 of its first five bytes (R344). -/
def checkByte (w : Word) : Nat := (crc8 ((wordBytes w).take 5)).toNat

/-- A link-state word is correct but for the letter it names (R344). -/
def lswCorrect (w : Word) : Bool := decide (bitsOf w 44 4 = 1) && decide (bitsOf w 0 8 = checkByte w)

/-- `n` code errors that no packet counted, each in CODE: groups that are not valid or break running disparity, and each K28.5 outside the
first position of a pair, which realigns the receiver (R337). -/
def codeErrors (x n : Nat) (s : State) : State :=
  if n = 0 then s else (s.bump (Fld.RING_ERRORS_CODE x) n).raise (Fld.RING_EVENTS_ERRORS x)

/-- A link-state word is received, `n` code errors outside packets since the one before it (R344, R345, R330, R337). -/
def lswReceive (x : Nat) (w : Word) (n : Nat) (s : State) : State :=
  if portLives s x && decide (s.link x ≠ linkDown) then
    let s := codeErrors x n s
    if lswCorrect w && decide (bitsOf w 43 1 ≠ x) then acceptLsw x w (s.set (Fld.RING_STATUS_MISWIRED x) 0)
    else
      let s := rejectLsw x s
      if lswCorrect w && decide (s.link x = linkTraining) then (s.set (Fld.RING_STATUS_MISWIRED x) 1).raise (Fld.RING_EVENTS_MISWIRED x) else s
  else s

/-- Signal or alignment has been lost for 384 tck (R345). -/
def lossOfSignal (x : Nat) (s : State) : State := if s.link x = linkDown then s else linkGoesDown x s

/-- No link-state word has been accepted for 5,760 tck (R345). -/
def lswTimeout (x : Nat) (s : State) : State :=
  if s.link x = linkUp then
    match (s.port x).lastLsw with
    | none => s
    | some t => linkGoesDown x (s.elapseTo (t + 5760))
  else s

/-- 16 code errors within 1,024 code groups: the link goes DOWN; `n` of them fell outside packets, and are counted here (R337, R345). -/
def codeErrorLimit (x n : Nat) (s : State) : State :=
  let s := codeErrors x n s
  if s.link x = linkUp then linkGoesDown x s else s

/-! ### The wrap state (R346 to R348) -/

/-- The wrap state that the usable sides give (R347). -/
def wrapOf (s : State) : Nat :=
  if s.bypass ≠ bypassOpen then wrapListening
  else
    let a := s.flag (Fld.RING_STATUS_USABLE 0)
    let b := s.flag (Fld.RING_STATUS_USABLE 1)
    if a && b then wrapNormal else if b then wrapA else if a then wrapB else wrapIsolated

/-- A packet carries events of this node's queue (R289, R353). -/
def ownEvents (k : Packet) : Bool := decide (pktPlane k = planeData) && decide (pktType k = 3)

/-- Packets discarded for want of a way out are counted in DISCARD of the port they would have left by (R353). -/
def discardN (x n : Nat) (s : State) : State := (List.range n).foldl (fun s _ => ringError x (Fld.RING_ERRORS_DISCARD x) s) s

/-- The forwarding queues and the node's own packets but events are discarded (R347, R353); counted when `count`. -/
def discardQueues (count : Bool) (s : State) : State :=
  let gone := (s.ring.own.filter fun k => !ownEvents k).length
  let s := if count then discardN 1 (s.port 1).forward.length (discardN 0 ((s.port 0).forward.length + gone) s) else s
  let s := s.forEach 2 fun x s => s.modPort x fun q => { q with forward := [] }
  { s with ring := { s.ring with own := s.ring.own.filter ownEvents } }

/-! ### What a transmitter puts on the line (R334, R335, R338) -/

/-- Code groups leave transmitter `x`. -/
def putOnLine (x : Nat) (gs : List LineGroup) (s : State) : State :=
  let e := encodeGroups (s.port x).disparity gs
  s.modPort x fun q => { q with codes := e.1, disparity := e.2 }

/-- The first word boundary of transmitter `x` from local tck `t`, after the set it sends: between two words of the packet in progress, or
between packets (R335). -/
def wordBoundary (s : State) (x t : Nat) : Nat :=
  let q := s.port x
  let t := max t q.setEnd
  let n := ceilDiv (t - q.wordAt) 12
  if q.sendEnd ≤ t then t
  else if n < (q.sending.map fun k => k.payload.length).getD 0 then q.wordAt + 12 * n
  else q.sendEnd

/-- A maintenance set that falls due at local tck `due` leaves at the word boundary that follows; a packet around it lasts 16 tck longer
(R334, R335). -/
def sendSet (x due : Nat) (f : State → State) (s : State) : State :=
  let s := s.elapseTo (wordBoundary s x due)
  f (s.modPort x fun q =>
    let within := decide (s.now < q.sendEnd)
    { q with
      setEnd := s.now + 16, sendEnd := if within then q.sendEnd + 16 else q.sendEnd, wordAt := if within then q.wordAt + 16 else q.wordAt })

/-- A packet starts on transmitter `x` at local tck `t` (R338). -/
def startPacketAt (x t : Nat) (k : Packet) (s : State) : State :=
  (putOnLine x (packetGroups k) s).modPort x fun q => { q with sending := some k, wordAt := t + 16, sendEnd := t + groupsTck (packetGroups k) }

/-- A transmitter that is cut off sends no more of its packet (R353). -/
def cutPacket (x : Nat) (s : State) : State :=
  s.modPort x fun q => if s.now < q.sendEnd then { q with sending := none, sendEnd := s.now } else q

/-- A transmitter that may no longer send ends its packet in progress with ABORT at the word boundary that follows (R348). -/
def abortPacket (x : Nat) (s : State) : State :=
  let q := s.port x
  match q.sending with
  | none => s
  | some k =>
    if s.now < q.sendEnd then
      let e := wordBoundary s x s.now
      let k' : Packet := { k with payload := k.payload.take ((e - q.wordAt) / 12), aborts := true }
      let before := xor q.disparity (encodeGroups false (packetGroups k)).2
      let s := putOnLine x (packetGroups k') (s.modPort x fun q => { q with disparity := before })
      s.modPort x fun q => { q with sending := some k', sendEnd := if e < q.sendEnd then e + 4 else q.sendEnd }
    else s

/-- Side `x` is usable in a wrap state, and its transmitter sends packets (R347). -/
def sends (w x : Nat) : Bool := decide (w = wrapNormal) || decide (w = wrapA ∧ x = 1) || decide (w = wrapB ∧ x = 0)

/-- The wrap state becomes `new`; an ISOLATED node keeps only packets of events (R347). -/
def enterWrap (new : Nat) (s : State) : State :=
  let s := putWrap new s
  if new = wrapIsolated then discardQueues false s else s

/-- The wrap state follows the usable sides: at once where a side is lost, with ABORT; where one is only restored, once both transmitters are
between packets (R347, R348). -/
def wrapChange (s : State) : State :=
  let old := s.wrap
  let new := wrapOf s
  if old = new then s
  else if (List.range 2).any fun x => sends old x && !sends new x then
    enterWrap new (s.forEach 2 fun x s => if sends old x && !sends new x then abortPacket x s else s)
  else enterWrap new (s.elapseTo (max (s.port 0).sendEnd (s.port 1).sendEnd))

/-- The node's transmitter for its own packets and its delivering port (R341, R347). -/
def ownPort (s : State) : Option Nat :=
  if s.wrap = wrapNormal ∨ s.wrap = wrapB then some 0 else if s.wrap = wrapA then some 1 else none
def deliveringPort (s : State) : Option Nat :=
  if s.wrap = wrapNormal ∨ s.wrap = wrapA then some 1 else if s.wrap = wrapB then some 0 else none

/-- The transmitter to which a packet received on port `x` is forwarded (R347). -/
def forwardPort (s : State) (x : Nat) : Option Nat :=
  if s.wrap = wrapNormal then some (otherNo x)
  else if s.wrap = wrapA ∧ x = 1 then some 1
  else if s.wrap = wrapB ∧ x = 0 then some 0
  else none

/-! ### Ports and the bypass (R351 to R355) -/

/-- Both ports are ON. -/
def bothOn (s : State) : Bool := decide (s.portState 0 = portOn) && decide (s.portState 1 = portOn)

/-- A port is OFF: its receive link is DOWN with no event and its recovered clock stops (R345, R354, R356). -/
def portFalls (x : Nat) (s : State) : State :=
  let s := linkDrops x (s.set (Fld.RING_STATUS_PORT_STATE x) portOff)
  let s := (leaveHoldover x s).modPort x fun q => { q with clockRuns := false, lswDue := none, timeDue := none, epochDue := none }
  lineageSync (if s.timePort = some x then s.set Fld.HIVE_ALIGN_PORT_VALID 0 else s)

/-- A stopping port reaches OFF (R354). -/
def portGoesOff (x : Nat) (s : State) : State := portFalls x (s.raise (Fld.RING_EVENTS_STOPPED x))

/-- The bypass has reached CLOSED: stopping ports reach OFF, restarting ones ON (R354). -/
def portsAtClosed (s : State) : State :=
  s.forEach 2 fun x s =>
    if s.portState x = portStopping then portGoesOff x s
    else if s.portState x = portRestart then (s.set (Fld.RING_STATUS_PORT_STATE x) portOn).raise (Fld.RING_EVENTS_RESTARTED x)
    else s

/-- ENABLE of a port written 1 (R354). -/
def enablePort (x : Nat) (s : State) : State :=
  let s := s.set (Fld.RING_BASIC_ENABLE x) 1
  if s.portState x = portOff then gatesOn (gateRing (x == 1)) (s.set (Fld.RING_STATUS_PORT_STATE x) portOn)
  else if s.portState x = portStopping then s.set (Fld.RING_STATUS_PORT_STATE x) portRestart
  else s

/-- ENABLE of a port written 0 (R354, R355). -/
def disablePort (x : Nat) (s : State) : State :=
  if s.onRing && decide (s.timePort = some x) then s.raise (Fld.RING_EVENTS_ENABLE_REFUSED x)
  else
    let s := s.set (Fld.RING_BASIC_ENABLE x) 0
    if s.portState x = portOn then
      let s := s.set (Fld.RING_STATUS_PORT_STATE x) portStopping
      if s.bypass = bypassClosed then portGoesOff x s else s
    else if s.portState x = portRestart then s.set (Fld.RING_STATUS_PORT_STATE x) portStopping
    else s

/-- A write of RINGx.BASIC. -/
def writeRingBasic (x : Nat) (v : Word) (s : State) : State :=
  let s := if bitAt v 46 then s.setReg (Reg.RING_ERRORS x) 0 else s
  if bitAt v 47 = s.flag (Fld.RING_BASIC_ENABLE x) then s
  else if bitAt v 47 then enablePort x s else disablePort x s

/-- An open or an AT_TICK write is refused (R352, R366). -/
def refuseBypass (cause : Nat) (s : State) : State :=
  (s.set Fld.RINGA_BYPASS_REFUSE_CAUSE cause).raise (Fld.RING_EVENTS_BYPASS_REFUSED 0)

/-- The cause that refuses an open on this tck (R352). -/
def openCause (s : State) : Nat :=
  if !bothOn s then 1
  else if s.isQueen then 0
  else if s.onRing && (match s.timePort with | none => false | some x => isLive s x) then 0
  else 2

/-- The movement waits for AT_TICK (R352). -/
def waitsForTick (s : State) : Bool := s.flag Fld.RINGA_BYPASS_AT_EN

/-- The bypass is CLOSED with an open requested, or OPEN with a close requested (R352). -/
def wantsOpen (s : State) : Bool := decide (s.bypass = bypassClosed) && s.flag Fld.RINGA_BYPASS_INSERT
def wantsClose (s : State) : Bool := decide (s.bypass = bypassOpen) && !(s.flag Fld.RINGA_BYPASS_INSERT && bothOn s)

/-- The movement begins: AT_EN = 0, and it has settled 7,680 tck after the switch moves (R352). -/
def startMove (st at_ : Nat) (s : State) : State :=
  let s := (s.set Fld.RINGA_BYPASS_STATE st).set Fld.RINGA_BYPASS_AT_EN 0
  { s with ring := { s.ring with settleAt := at_ + 7680 } }

/-- The switch opens, or the open is refused; AT_EN stays set then, no movement having begun (R352). -/
def tryOpen (s : State) : State :=
  let c := openCause s
  if c = 0 then lineageSync (startMove bypassOpening s.now s)
  else refuseBypass c (s.set Fld.RINGA_BYPASS_INSERT 0)

/-- A controlled close begins (R353): the switch moves once both transmitters are between packets. -/
def controlledClose (s : State) : State :=
  let t := max s.now (max (s.port 0).sendEnd (s.port 1).sendEnd)
  let s := putWrap wrapListening (startMove bypassClosing t s)
  lineageSync (if t = s.now then discardQueues true { s with ring := { s.ring with drained := true } }
    else { s with ring := { s.ring with drained := false } })

/-- A movement begins, at once or on the hive tick AT_TICK (R352). An open without AT_EN waits until both ports are ON. -/
def bypassMove (s : State) : State :=
  let w := waitsForTick s
  let s := if w then s.elapse ((s.get Fld.RINGA_BYPASS_AT_TICK + ticksPerSecond - s.tick) % ticksPerSecond) else s
  if wantsOpen s then (if w || bothOn s then tryOpen s else s)
  else if wantsClose s then controlledClose s
  else s

/-- A movement has settled, on any tck from the first after the switch moved (R10, R352, R353). -/
def bypassSettled (s : State) : State :=
  let t := s.ring.settleAt - 7680
  if s.bypass = bypassOpening then
    let s := s.elapseTo (t + 1)
    let s := (s.set Fld.RINGA_BYPASS_STATE bypassOpen).raise (Fld.RING_EVENTS_BYPASS_CHANGED 0)
    let s := { s with ring := { s.ring with openedAt := s.now } }
    lineageSync (enterWrap (wrapOf s) s)
  else if s.bypass = bypassClosing then
    let s := s.elapseTo t
    let s := if s.ring.drained then s else discardQueues true s
    let s := s.elapseTo (t + 1)
    let s := (s.set Fld.RINGA_BYPASS_STATE bypassClosed).raise (Fld.RING_EVENTS_BYPASS_CHANGED 0)
    lineageSync (portsAtClosed s)
  else s

/-- A write of RINGA.BYPASS (R352, R366): ignored whole when AT_TICK is out of range. -/
def writeBypass (v : Word) (s : State) : State :=
  if ticksPerSecond ≤ bitsOf v 0 28 then refuseBypass 3 s
  else
    let s := s.putWord Reg.RINGA_BYPASS v
    if wantsOpen s && !waitsForTick s && bothOn s && decide (openCause s ≠ 0) then tryOpen s else s

/-- The switch moves at once: pulse train, VAUX, a reset or HOLD (R352 to R354). Ports are OFF. -/
def uncontrolledClose (s : State) : State :=
  let s := if s.bypass = bypassOpen ∨ s.bypass = bypassOpening then startMove bypassClosing s.now s else s
  let s := discardQueues false s
  let s := { s with ring := { s.ring with drained := true } }
  let s := s.forEach 2 fun x s => if s.portState x = portOff then cutPacket x s else portFalls x (cutPacket x s)
  lineageSync (putWrap wrapListening s)

/-! ### The core clock stops (R36, R356, R358) -/

/-- The core stops where it is; what the pulse train holds falls safe: the bypass closes, the groups, the bias generator and the ports are OFF
(R36, R176, R187, R191, R352, R354). -/
def stopCore (s : State) : State :=
  let s := uncontrolledClose (biasOffNow (s.forEach 8 groupOffNow))
  { s with clock := { s.clock with coreStopped := true } }

/-- The holdover of a recovered clock ends (R356, R358). -/
def holdoverEnd (x : Nat) (s : State) : State :=
  match (s.port x).holdSince with
  | none => s
  | some t =>
    let s := s.elapseTo (t + 49152)
    let s := (leaveHoldover x s).modPort x fun q => { q with clockRuns := false }
    if s.timePort = some x then
      if s.onRing then stopCore s else lineageSync (s.set Fld.HIVE_ALIGN_PORT_VALID 0)
    else s

/-! ### Maintenance sets (R335, R344, R357, R360, R362) -/

/-- The lineage passes through a clock in holdover (R357). -/
def holdNow (s : State) : Bool :=
  if s.isQueen then false
  else match s.timePort with
    | none => false
    | some x => s.flag (Fld.RING_STATUS_RCLK_HOLDOVER x) || s.flag (Fld.RING_STATUS_PEER_HOLD x)

/-- The link-state word that port `x` sends (R344, R357). -/
def lswWord (s : State) (x : Nat) : Word :=
  let w := packWord [(44, 4, 1), (43, 1, x), (42, 1, b2n (decide (s.link x = linkUp))), (41, 1, b2n (decide (s.timePort = some x))),
    (40, 1, b2n (decide (wrapA ≤ s.wrap))), (39, 1, b2n s.isQueen), (32, 7, hopsNow s), (25, 7, s.addr), (24, 1, b2n (holdNow s))]
  withBits w 0 8 (checkByte w)

/-- A set of a period falls due at a local tck. -/
def dueAt (last : Option Nat) (period now : Nat) : Nat := match last with | none => now | some t => t + period

/-- One LSW every 1,920 tck, at the first word boundary after it falls due (R335). -/
def lswSend (x : Nat) (s : State) : State :=
  if portLives s x then
    let due := dueAt (s.port x).lswDue 1920 s.now
    sendSet x due (fun s =>
      let w := lswWord s x
      putOnLine x (lswSet w) (s.modPort x fun q => { q with lswDue := some due, lswWord := w })) s
  else s

/-- A set of a period that has begun falls due by local tck `t`. -/
def dueBy (last : Option Nat) (period t : Nat) : Bool := match last with | none => false | some l => decide (l + period ≤ t)

/-- Of sets that fall due together the LSW goes first (R335). -/
def lswFirst (x t : Nat) (s : State) : State := if dueBy (s.port x).lswDue 1920 t then lswSend x s else s

/-- The TIME set that leaves now; `sub` is its departure at the balls below one tck (R360). -/
def putTime (x sub : Nat) (s : State) : State :=
  let dep := ballTime s sub
  let q := s.port x
  let dep' := (((dep : Int) + s.getInt Fld.HIVE_ALIGN_FRAC) % 4194304).toNat
  let turn := match q.heard with | none => 0x3FFFFF | some (_, arr) => (((dep : Int) - (arr : Int)) % 4194304).toNat
  let echo := match q.heard with | none => 0 | some (e, _) => e
  let w := packWord [(46, 2, q.nextSeq), (44, 2, echo), (22, 22, dep'), (0, 22, turn)]
  putOnLine x (timeSet w) (s.modPort x fun q => { q with
    nextSeq := (q.nextSeq + 1) % 4, departures := ((q.nextSeq, dep % 4194304) :: q.departures).take 4, timeWord := w })

/-- The TIME set that falls due at local tck `due`. -/
def sendTime (x sub due : Nat) (s : State) : State :=
  sendSet x due (fun s => putTime x sub (s.modPort x fun q => { q with timeDue := some due })) s

/-- One TIME set every 8,192 tck, after an LSW that falls due with it (R335, R360). -/
def timeSend (x sub : Nat) (s : State) : State :=
  if portLives s x then
    let due := dueAt (s.port x).timeDue 8192 s.now
    sendTime x sub due (lswFirst x (wordBoundary s x due) s)
  else s

/-- The EPOCH word of hive time (R362). -/
def epochWord (s : State) : Word :=
  let w := packWord [(16, 32, s.seconds), (9, 7, s.tick / 1920000), (8, 1, b2n (decide (s.timeState = timeSource ∨ s.timeState = timeAligned)))]
  withBits w 0 8 (checkByte w)

/-- One EPOCH set each 10 ms of hive time from a SOURCE or ALIGNED node, with the time at which it fell due, after an LSW and a TIME set that
fall due with it; `sub` is such a TIME set's departure below one tck (R335, R362). -/
def epochSend (x sub : Nat) (s : State) : State :=
  if portLives s x && decide (s.timeState = timeSource ∨ s.timeState = timeAligned) then
    let s := s.elapse (s.toNextGrid 1920000 (s.port x).epochDue)
    let due := s.now
    let w := epochWord s
    let b := wordBoundary s x due
    let s := lswFirst x b s
    let s := if dueBy (s.port x).timeDue 8192 b then sendTime x sub (dueAt (s.port x).timeDue 8192 s.now) s else s
    sendSet x due (fun s => putOnLine x (epochSet w) (s.modPort x fun q => { q with epochDue := some due, epochWord := w })) s
  else s

/-- A valid sample of a port (R361): once MEASURED, one whose d differs from DELAY by more than 64 is discarded. -/
def takeSample (x : Nat) (d frac : Int) (s : State) : State :=
  if s.flag (Fld.RING_LINK_MEASURED x) && decide (64 < (d - s.getInt (Fld.RING_LINK_DELAY x)).natAbs) then s
  else
    let s := s.modPort x fun q => { q with samples := ((d, frac) :: q.samples).take 16 }
    timeSync (newFrac x (publishLink x s))

/-- A TIME set is received; `sub` is its arrival at the balls below one tck (R360). The departure of a number not sent is not known, and the
set then yields no sample. -/
def timeReceive (x : Nat) (w : Word) (sub : Nat) (s : State) : State :=
  if portLives s x && decide (s.link x = linkUp) then
    let arr : Int := ballTime s sub
    let turn := bitsOf w 0 22
    let q := s.port x
    let s := s.modPort x fun q => { q with heard := some (bitsOf w 46 2, (arr % 4194304).toNat) }
    match q.departures.find? fun e => e.1 == bitsOf w 44 2 with
    | none => s
    | some e =>
      if turn = 0x3FFFFF then s
      else
        let rtt : Int := (arr - (e.2 : Int)) % 4194304 - (turn : Int)
        let d := floorDiv rtt 2
        takeSample x d (sext22 ((bitsOf w 22 22 : Int) + d - arr)) s
  else s

/-- An EPOCH set is received (R362). -/
def epochReceive (x : Nat) (w : Word) (s : State) : State :=
  if portLives s x && decide (s.link x = linkUp) && decide (bitsOf w 0 8 = checkByte w) && bitAt w 8 && decide (s.timePort = some x) then
    timeSync { s with ring := { s.ring with epoch := some (bitsOf w 16 32, bitsOf w 9 7, s.now) } }
  else s

/-! ### Writes of hive time (R365) and of FOLLOW -/

/-- A write of HIVE.SECONDS. -/
def writeSeconds (v : Nat) (s : State) : State :=
  if s.timeState = timeSource ∨ s.timeState = timeFree then { s with secondsPending := some v } else s.raise Fld.HIVE_EVENTS_SECONDS_REFUSED

/-- A write of HIVE.ALIGN. -/
def writeAlign (v : Word) (s : State) : State := lineageSync (s.putWord Reg.HIVE_ALIGN v)

/-- HIVE.TICK wraps to 0 (R35, R365). -/
def secondRollover (s : State) : State := s.elapse (ticksPerSecond - s.tick)

/-- HIVE.SECONDS and HIVE.TICK as read (R367). -/
def secondsWord (s : State) : Word := packWord [(16, 32, s.seconds)]
def tickWord (s : State) : Word := packWord [(28, 20, s.seconds % 2 ^ 20), (0, 28, s.tick)]

/-! ### Commands -/

/-- CORE_CLOCK_STOP: the source of the core clock stops. -/
def execCoreClockStop (s : State) : Host.Outcome State Fault Refusal := actAlways s stopCore

/-- ALIGNMENT_GAINED. -/
def execAlignmentGained (x : Port) (s : State) : Host.Outcome State Fault Refusal := act s (alignmentGained (portNo x))

/-- LSW_SEND. -/
def execLswSend (x : Port) (s : State) : Host.Outcome State Fault Refusal := act s (lswSend (portNo x))

/-- TIME_SEND. -/
def execTimeSend (x : Port) (sub : BitVec 8) (s : State) : Host.Outcome State Fault Refusal := act s (timeSend (portNo x) sub.toNat)

/-- EPOCH_SEND. -/
def execEpochSend (x : Departure) (s : State) : Host.Outcome State Fault Refusal := act s (epochSend (portNo x.port) x.sub.toNat)

/-- LSW_RECEIVE: a word, and the code errors outside packets since the last. -/
def execLswReceive (x : Port) (w : HeardLsw) (s : State) : Host.Outcome State Fault Refusal :=
  act s (lswReceive (portNo x) w.word w.errors.toNat)

/-- LOSS_OF_SIGNAL. -/
def execLossOfSignal (x : Port) (s : State) : Host.Outcome State Fault Refusal := act s (lossOfSignal (portNo x))

/-- LSW_TIMEOUT. -/
def execLswTimeout (x : Port) (s : State) : Host.Outcome State Fault Refusal := act s (lswTimeout (portNo x))

/-- CODE_ERROR_LIMIT. -/
def execCodeErrorLimit (x : Port) (n : BitVec 32) (s : State) : Host.Outcome State Fault Refusal :=
  act s (codeErrorLimit (portNo x) n.toNat)

/-- WRAP_CHANGE. -/
def execWrapChange (s : State) : Host.Outcome State Fault Refusal := act s wrapChange

/-- TIME_SET_RECEIVE. -/
def execTimeSetReceive (x : Port) (w : Word) (sub : BitVec 8) (s : State) : Host.Outcome State Fault Refusal :=
  act s (timeReceive (portNo x) w sub.toNat)

/-- EPOCH_RECEIVE. -/
def execEpochReceive (x : Port) (w : Word) (s : State) : Host.Outcome State Fault Refusal := act s (epochReceive (portNo x) w)

/-- HOLDOVER_END. -/
def execHoldoverEnd (x : Port) (s : State) : Host.Outcome State Fault Refusal := act s (holdoverEnd (portNo x))

/-- HIVE_SECONDS_WRITE. -/
def execHiveSecondsWrite (p : Path) (v : BitVec 32) (s : State) : Host.Outcome State Fault Refusal :=
  access s (fieldWrite p Reg.HIVE_SECONDS true (writeSeconds v.toNat))

/-- SECOND_ROLLOVER. -/
def execSecondRollover (s : State) : Host.Outcome State Fault Refusal := act s secondRollover

/-- CLEAR_ERR. -/
def execClearErr (p : Path) (x : Port) (s : State) : Host.Outcome State Fault Refusal :=
  access s (fieldWrite p (Reg.RING_BASIC (portNo x)) false fun s => s.setReg (Reg.RING_ERRORS (portNo x)) 0)

/-- PORT_ENABLE. -/
def execPortEnable (p : Path) (x : Port) (s : State) : Host.Outcome State Fault Refusal :=
  access s (fieldWrite p (Reg.RING_BASIC (portNo x)) true (enablePort (portNo x)))

/-- PORT_DISABLE. -/
def execPortDisable (p : Path) (x : Port) (s : State) : Host.Outcome State Fault Refusal :=
  access s (fieldWrite p (Reg.RING_BASIC (portNo x)) true (disablePort (portNo x)))

/-- BYPASS_INSERT_WRITE. -/
def execBypassInsertWrite (p : Path) (v : Word) (s : State) : Host.Outcome State Fault Refusal :=
  access s (fieldWrite p Reg.RINGA_BYPASS true (writeBypass v))

/-- BYPASS_MOVE. -/
def execBypassMove (s : State) : Host.Outcome State Fault Refusal := act s bypassMove

/-- BYPASS_SETTLED. -/
def execBypassSettled (s : State) : Host.Outcome State Fault Refusal := act s bypassSettled

end Sys2Proof.Machine
end

