-- ==== Sys2Proof/Machine/Hive.lean ====
section
/-! DEFINITION. Hive coordination: the queen's role, enumeration, presence, and the data plane's sequence spaces (R368 to R393, R399, R400). -/
namespace Sys2Proof.Machine

/-- States of a census entry (R401). -/
def entFree : Nat := 0
def entBound : Nat := 1
def entPresent : Nat := 2
def entGone : Nat := 3

namespace State

/-- A census word (R379). -/
def census (s : State) (a w : Nat) : Word := Table.get (fun _ => 0) s.hive.census (4 * a + w)
def putCensus (s : State) (a w : Nat) (v : Word) : State :=
  { s with hive := { s.hive with census := Table.put (fun _ => 0) s.hive.census (4 * a + w) v } }
def modCensus (s : State) (a : Nat) (f : Word → Word) : State := s.putCensus a 0 (f (s.census a 0))
def entState (s : State) (a : Nat) : Nat := bitsOf (s.census a 0) 45 3

/-- An address is bound in the census. -/
def bound (s : State) (a : Nat) : Bool := decide (1 ≤ a ∧ a ≤ 96 ∧ s.entState a ≠ entFree)

/-- The three words of a unit ID (R373). -/
def unitId (s : State) : List Word := [s.reg (Reg.HIVE_UNIT_ID 0), s.reg (Reg.HIVE_UNIT_ID 1), s.reg (Reg.HIVE_UNIT_ID 2)]

/-- The key of a peer's sequence spaces: its address on the queen, 0 on a node, whose one peer is the queen (R388). -/
def peerKey (s : State) (a : Nat) : Nat := if s.isQueen then a else 0

/-- The queen's address as a node knows it: the source of the last BEACON it accepted (R375). -/
def queenOf (s : State) : Nat := if s.isQueen then s.addr else s.hive.beaconFrom.getD (s.get Fld.HIVE_ROLE_QUEEN_ADDR)

def sendSeqOf (s : State) (p : Nat) : Nat := Table.get (fun _ => 0) s.hive.sendSeq p
def nextSeqOf (s : State) (p : Nat) : Nat := Table.get (fun _ => 0) s.hive.nextSeq p
def heldOf (s : State) (p : Nat) : List Held := s.hive.held.filter fun h => h.peer == p

end State

/-- The words of a unit ID agree; the last 16 bits of the third carry no ID (R373). -/
def sameUnit (a b : List Word) : Bool :=
  decide (a.getD 0 0 = b.getD 0 0 ∧ a.getD 1 0 = b.getD 1 0 ∧ bitsOf (a.getD 2 0) 16 32 = bitsOf (b.getD 2 0) 16 32)

/-- The unit ID with the unused bits 0. -/
def idWords (a : List Word) : List Word := [a.getD 0 0, a.getD 1 0, withBits (a.getD 2 0) 0 16 0]

/-- A JOIN. -/
def isJoin (k : Packet) : Bool := decide (pktPlane k = planeControl ∧ pktType k = 0x23)

/-- Words that the queen's receive ring holds (R400, R401). -/
def rxUsed (s : State) : Nat := (s.get Fld.HIVE_RX_HEAD + 16384 - s.get Fld.HIVE_RX_TAIL) % 16384

/-- A packet fits the receive ring. -/
def rxFits (s : State) (k : Packet) : Bool := decide (1 + k.payload.length ≤ 16383 - rxUsed s)

/-- Words are written to the receive ring from word `h`. -/
def rxWords (h : Nat) : List Word → State → State
  | [], s => s.set Fld.HIVE_RX_HEAD h
  | w :: r, s => rxWords ((h + 1) % 16384) r (memWrite s (1024 * 4016 + h) w)

/-- A packet is written to the receive ring (R400). -/
def rxWrite (k : Packet) (s : State) : State := rxWords (s.get Fld.HIVE_RX_HEAD) (k.header :: k.payload) s

/-- A packet joins those delivered that have not yet acted. -/
def toInbox (k : Packet) (s : State) : State := { s with ring := { s.ring with inbox := s.ring.inbox ++ [k] } }

/-- A management-plane request, which a node answers or acts on. -/
def isRequest (k : Packet) : Bool := decide (pktPlane k = planeManagement ∧ (pktType k ≤ 3 ∨ pktType k = 0x10))

/-- A management packet is delivered on the queen (R400): it enters the receive ring, or is discarded and counted at port `x`, and a request acts. -/
def queenTakes (x : Nat) (k : Packet) (s : State) : State :=
  let s := if rxFits s k then rxWrite k s else ringError x (Fld.RING_ERRORS_DISCARD x) s
  if isRequest k then toInbox k s else s

/-- A packet of the node's own is handed to its transmitter: a node without an address sends nothing but JOIN (R376), an ISOLATED one
keeps only packets of events (R347), and what the queen sends to its own address reaches it at once. -/
def ownSend (k : Packet) (s : State) : State :=
  if s.addr = 0 ∧ isJoin k = false then s
  else if s.isQueen = true ∧ pktDest k = s.addr then
    if pktPlane k = planeManagement then queenTakes ((deliveringPort s).getD 1) k s else toInbox k s
  else if s.wrap = wrapIsolated ∧ ownEvents k = false then s
  else { s with ring := { s.ring with own := s.ring.own ++ [k] } }

/-- A packet of the node to `dest`. -/
def nodePacket (s : State) (dest plane type seq : Nat) (payload : List Word) : Packet := mkPacket dest s.addr plane type seq payload

/-- The first packet of a plane and type among those delivered. -/
def findPacket (plane type : Nat) : List Packet → Option Packet
  | [] => none
  | k :: r => if pktPlane k = plane ∧ pktType k = type then some k else findPacket plane type r

/-- The list without its first packet of a plane and type. -/
def dropPacket (plane type : Nat) : List Packet → List Packet
  | [] => []
  | k :: r => if pktPlane k = plane ∧ pktType k = type then r else k :: dropPacket plane type r

/-- The oldest delivered packet of a plane and type leaves the inbox and acts as `f` says; without one nothing happens. -/
def takePacket (plane type : Nat) (f : Packet → State → State) (s : State) : State :=
  match findPacket plane type s.ring.inbox with
  | none => s
  | some k => f k { s with ring := { s.ring with inbox := dropPacket plane type s.ring.inbox } }

/-- A delivered packet is discarded and counted in DISCARD of the delivering port (R373, R374, R392, R400). -/
def discardDelivered (s : State) : State := let x := (deliveringPort s).getD 1; ringError x (Fld.RING_ERRORS_DISCARD x) s

/-! ### The queen's role (R368 to R372) -/

/-- The cause that refuses the role (R368). -/
def queenCause (s : State) : Nat := if s.onRing then 1 else if liveClean s 0 || liveClean s 1 then 2 else 0

/-- The role is taken (R363, R369). DESIGN CHOICE: QUEEN_REFUSE then reads 0, where the manual gives no value. -/
def queenStarts (s : State) : State :=
  let e := s.fresh
  let s := e.2
  let a := s.get Fld.HIVE_ROLE_QUEEN_ADDR
  let s := (s.set Fld.HIVE_ROLE_QUEEN_EN 1).set Fld.HIVE_ROLE_ADDR a
  let s := ((s.set Fld.HIVE_STATUS_QUEEN 1).set Fld.HIVE_STATUS_QUEEN_REFUSE 0).set Fld.HIVE_STATUS_EPOCH (bitsOf e.1 0 16)
  let s := ((s.set Fld.HIVE_ALIGN_STATE timeSource).set Fld.HIVE_ALIGN_FRAC 0).set Fld.HIVE_ALIGN_PORT_VALID 0
  let id := idWords s.unitId
  let s := (((s.putCensus a 1 (id.getD 0 0)).putCensus a 2 (id.getD 1 0)).putCensus a 3 (id.getD 2 0)).modCensus a fun w => withBits w 45 3 entPresent
  lineageSync { s with hive := { s.hive with beaconSent := none, heardFrom := [], silent := [], answered := [] } }

/-- QUEEN_EN written 1 (R368). -/
def takeQueen (s : State) : State :=
  if s.isQueen then s
  else
    let c := queenCause s
    if c ≠ 0 then ((s.set Fld.HIVE_ROLE_QUEEN_EN 0).set Fld.HIVE_STATUS_QUEEN_REFUSE c).raise Fld.HIVE_EVENTS_QUEEN_REFUSED else queenStarts s

/-- A waiting packet goes with the queen's role: a BEACON, or a packet of the retransmission store (R372). -/
def queensOwn (s : State) (k : Packet) : Bool :=
  decide (pktPlane k = planeControl ∧ pktType k = 8) || s.hive.held.any fun h => h.packet == k && h.peer != 0

/-- QUEEN_EN written 0: the role is released (R372). -/
def releaseQueen (s : State) : State :=
  if s.isQueen then
    let s := (s.set Fld.HIVE_ROLE_QUEEN_EN 0).set Fld.HIVE_STATUS_QUEEN 0
    let s := (s.set Fld.HIVE_ALIGN_STATE timeFree).set Fld.HIVE_TX_STAT_BUSY 0
    let s := s.setReg Reg.HIVE_MODE_CENSUS 0
    lineageSync { s with
      hive := { s.hive with
        census := [], held := s.hive.held.filter fun h => h.peer == 0, acks := [], beaconSent := none, heardFrom := []
        silent := [], quiet := none, txWaiting := none, answered := [] }
      ring := { s.ring with own := s.ring.own.filter fun k => !queensOwn s k } }
  else s

/-- LEAVE is written (R386). -/
def startLeaving (s : State) : State :=
  { s.set Fld.HIVE_STATUS_LEAVING 1 with hive := { s.hive with leaveSent := false } }

/-- The fields of HIVE.ROLE that take part in a write: a zero PRESENCE or GONE_N ignores it whole; QUEEN_ADDR is taken when legal and the
role is not held (R401). -/
def putRole (v : Word) (s : State) : State :=
  let a := bitsOf v 31 7
  let s := if 1 ≤ a ∧ a ≤ 96 ∧ s.isQueen = false then s.set Fld.HIVE_ROLE_QUEEN_ADDR a else s
  let s := (s.set Fld.HIVE_ROLE_ADMIT (bitsOf v 46 1)).set Fld.HIVE_ROLE_PRESENCE (bitsOf v 23 8)
  (s.set Fld.HIVE_ROLE_GONE_N (bitsOf v 20 3)).set Fld.HIVE_ROLE_SIV (bitsOf v 4 16)

/-- A write of HIVE.ROLE. -/
def writeRole (v : Word) (s : State) : State :=
  if bitsOf v 23 8 = 0 ∨ bitsOf v 20 3 = 0 then s
  else
    let s := putRole v s
    let s := if bitAt v 47 then takeQueen s else releaseQueen s
    if bitAt v 45 then startLeaving s else s

/-! ### The retransmission store (R382, R388, R399) -/

/-- A packet is dropped for a departed node: counted in its entry and in HIVE.GONE (R382). -/
def countDropped (a : Nat) (s : State) : State :=
  let s := s.modCensus a fun w => withBits w 21 12 (satAdd 12 (bitsOf w 21 12) 1)
  ((s.bump Fld.HIVE_GONE_DROPPED 1).set Fld.HIVE_GONE_LAST_ADDR a).raise Fld.HIVE_EVENTS_NODE_GONE

/-- Every packet held for an address is dropped (R382). -/
def dropPackets (a : Nat) (s : State) : State :=
  let gone := s.heldOf a
  let s := gone.foldl (fun s _ => countDropped a s) s
  { s with
    hive := { s.hive with held := s.hive.held.filter fun h => !(h.peer == a) }
    ring := { s.ring with own := s.ring.own.filter fun k => !(gone.any fun h => h.packet == k) } }

/-- An entry becomes GONE (R381, R382). -/
def markGone (a : Nat) (s : State) : State :=
  dropPackets a ((s.modCensus a fun w => withBits w 45 3 entGone).raise Fld.HIVE_EVENTS_NODE_GONE)

/-- The payload of an ASSIGN (R373). -/
def assignWords (id : List Word) (a : Nat) (fresh : Bool) (epoch : Nat) : List Word :=
  idWords id ++ [packWord [(41, 7, a), (40, 1, b2n fresh), (24, 16, epoch)]]

/-- The queen sends an ASSIGN. -/
def sendAssign (id : List Word) (a : Nat) (fresh : Bool) (s : State) : State :=
  ownSend (nodePacket s broadcast planeControl 0x11 0 (assignWords id a fresh (s.get Fld.HIVE_STATUS_EPOCH))) s

/-- The queen hears a packet of any plane from an address: a GONE entry is back (R381, R383). -/
def queenHears (a : Nat) (s : State) : State :=
  if s.isQueen && s.bound a then
    let back := decide (s.entState a = entGone)
    let s := { s with hive := { s.hive with heardFrom := if a ∈ s.hive.heardFrom then s.hive.heardFrom else a :: s.hive.heardFrom } }
    let s := s.modCensus a fun w => withBits w 45 3 entPresent
    if back then
      let s := { s.raise Fld.HIVE_EVENTS_NODE_BACK with hive := { s.hive with sendSeq := Table.put (fun _ => 0) s.hive.sendSeq a 0 } }
      sendAssign [s.census a 1, s.census a 2, s.census a 3] a false s
    else s
  else s

/-! ### Presence (R380, R381, R385) -/

/-- Tck from now to the next hive tick on which a BEACON is due (R380). -/
def beaconDelay (s : State) : Nat :=
  let d0 := s.toNextGrid 1920000 s.hive.beaconSent
  let slot := fun k => (s.tick + d0 + 1920000 * k) % ticksPerSecond / 1920000
  let p := s.get Fld.HIVE_ROLE_PRESENCE
  d0 + 1920000 * ((List.range 100).find? fun k => slot k % p == 0).getD 0

/-- A beacon period ends: silent entries are counted (R381). -/
def endPeriod (s : State) : State :=
  let silent := (List.range 97).foldl (fun t a =>
    if s.bound a && decide (s.entState a ≠ entGone) && !(a ∈ s.hive.heardFrom) then
      Table.put (fun _ => 0) t a (satAdd 3 (Table.get (fun _ => 0) t a) 1)
    else Table.put (fun _ => 0) t a 0) s.hive.silent
  { s with hive := { s.hive with silent := silent, heardFrom := [] } }

/-- The queen sends a BEACON (R373, R380). -/
def beaconSend (s : State) : State :=
  if s.isQueen then
    let s := s.elapse (beaconDelay s)
    let s := if s.hive.beaconSent.isSome then endPeriod s else { s with hive := { s.hive with heardFrom := [] } }
    let w := packWord [(32, 16, s.get Fld.HIVE_STATUS_EPOCH), (16, 16, s.get Fld.HIVE_ROLE_SIV), (12, 4, s.get Fld.HIVE_MODE_CUR)]
    ownSend (nodePacket s broadcast planeControl 8 0 [w]) { s with hive := { s.hive with beaconSent := some s.now } }
  else s

/-- GONE_N silent periods have ended (R381). -/
def nodeGone (a : Nat) (s : State) : State :=
  if s.isQueen && s.bound a && decide (s.entState a ≠ entGone ∧ a ≠ s.addr) &&
      decide (s.get Fld.HIVE_ROLE_GONE_N ≤ Table.get (fun _ => 0) s.hive.silent a) then markGone a s
  else s

/-- Events QUEUED and IN_FLIGHT. -/
def eventCount (s : State) : Nat := s.events.queued.length + s.events.flight.length

/-- A JOIN (R373, R375). -/
def joinPacket (s : State) (kept : Bool) : Packet :=
  nodePacket s s.queenOf planeControl 0x23 0
    (idWords s.unitId ++ [packWord [(47, 1, b2n kept), (38, 9, eventCount s), (34, 4, s.get Fld.HIVE_MODE_CUR)]])

/-- A BEACON reaches a queen (R370): its own, sent by itself, changes nothing. -/
def queenMeets (k : Packet) (s : State) : State :=
  let e := bitsOf (pktWord k 0) 32 16
  let own := s.get Fld.HIVE_STATUS_EPOCH
  if e < own ∨ e = own ∧ pktSource k = s.addr then s else (releaseQueen s).raise Fld.HIVE_EVENTS_QUEEN_LOST

/-- A BEACON reaches a node (R375, R380, R385): PRESENT is due 64 + ADDR × 2,048 tck after the BEACON's tick, and another EPOCH makes the node
join again with its queue and address kept. -/
def nodeHearsBeacon (k : Packet) (s : State) : State :=
  let s := { s with hive := { s.hive with beaconFrom := some (pktSource k) } }
  if s.addr = 0 then s
  else
    let s := { s with hive := { s.hive with presentAt := some (s.hiveNow - s.tick % 1920000 + 64 + s.addr * 2048) } }
    if bitsOf (pktWord k 0) 32 16 = s.get Fld.HIVE_STATUS_EPOCH then s
    else ownSend (joinPacket s true) { s with hive := { s.hive with rejoining := true } }

/-- A BEACON acts (R370, R380, R385): one that the queen strips is only examined. -/
def beaconActs (k : Packet) (s : State) : State :=
  let own := decide (pktSource k = s.addr)
  let t := if s.isQueen then queenMeets k s else s
  if s.isQueen && (!s.bound (pktSource k) || own && !t.isQueen) then t
  else
    let t := t.set Fld.HIVE_MODE_HIVE_SIV (bitsOf (pktWord k 0) 16 16)
    if t.isQueen then { t with hive := { t.hive with presentAt := some (t.hiveNow - t.tick % 1920000 + 64 + t.addr * 2048) } }
    else nodeHearsBeacon k t

/-- Hive time passes up to a hive time count. -/
def State.elapseHive (s : State) (t : Nat) : State := if s.hiveNow < t then s.elapse (t - s.hiveNow) else s

/-- PRESENT is sent (R380). -/
def presentSend (s : State) : State :=
  match s.hive.presentAt with
  | none => s
  | some t =>
    let s := s.elapseHive t
    let s := { s with hive := { s.hive with presentAt := none } }
    ownSend (nodePacket s s.queenOf planeControl 0x24 0 [packWord [(44, 4, s.get Fld.HIVE_MODE_CUR), (35, 9, eventCount s)]]) s

/-- The queen records a PRESENT (R401). -/
def presentReceive (k : Packet) (s : State) : State :=
  if s.isQueen && s.bound (pktSource k) then s.modCensus (pktSource k) fun w => withBits w 40 4 (bitsOf (pktWord k 0) 44 4) else s

/-! ### Enumeration (R375 to R379, R384) -/

/-- An unaddressed node sends JOIN, again every 10 ms + ID[3:0] ms (R375). -/
def joinSend (s : State) : State :=
  if s.addr = 0 ∧ s.timeState = timeAligned ∧ s.bypass = bypassOpen ∧ s.hive.beaconFrom.isSome = true then
    let wait := 1920000 + 192000 * bitsOf (s.reg (Reg.HIVE_UNIT_ID 2)) 16 4
    let s := match s.hive.joinSent with | none => s | some t => s.elapseHive (t + wait)
    ownSend (joinPacket s s.hive.queueKept) { s with hive := { s.hive with joinSent := some s.hiveNow } }
  else s

/-- The address whose entry is bound to a unit ID (R377). -/
def boundTo (s : State) (id : List Word) : Option Nat :=
  ((List.range 97).find? fun a => s.bound a && sameUnit [s.census a 1, s.census a 2, s.census a 3] id)

/-- The lowest FREE address, other than QUEEN_ADDR (R377). -/
def freeAddress (s : State) : Option Nat :=
  (List.range 97).find? fun a => decide (1 ≤ a ∧ s.entState a = entFree ∧ a ≠ s.get Fld.HIVE_ROLE_QUEEN_ADDR)

/-- The unit ID is written to the entry of an address (R377). -/
def putUnit (a : Nat) (id : List Word) (s : State) : State :=
  let w := idWords id
  ((s.putCensus a 1 (w.getD 0 0)).putCensus a 2 (w.getD 1 0)).putCensus a 3 (w.getD 2 0)

/-- A JOIN from a bound address is answered (R377, R378, R382, R384). -/
def answerJoin (a : Nat) (id : List Word) (kept : Bool) (s : State) : State :=
  let known := decide (s.entState a = entPresent ∨ s.entState a = entGone)
  let s := if known then dropPackets a s else s
  let s := if kept then s.modCensus a fun w => withBits w 44 1 0
    else if known then (s.modCensus a fun w => withBits w 44 1 1).raise Fld.HIVE_EVENTS_EVENTS_LOST
    else s
  let s := s.modCensus a fun w => withBits w 13 8 (satAdd 8 (bitsOf w 13 8) 1)
  let s := { s with hive := { s.hive with
    sendSeq := Table.put (fun _ => 0) s.hive.sendSeq a 0, nextSeq := Table.put (fun _ => 0) s.hive.nextSeq a 0 } }
  let s := s.modCensus a fun w => withBits w 45 3 (if bitsOf w 45 3 = entFree then entBound else entPresent)
  sendAssign id a true s

/-- The queen answers a JOIN (R377). -/
def joinReceive (k : Packet) (s : State) : State :=
  if s.isQueen then
    let id := k.payload.take 3
    let kept := bitAt (pktWord k 3) 47
    match boundTo s id with
    | some a => answerJoin a id kept s
    | none =>
      match (if s.flag Fld.HIVE_ROLE_ADMIT then none else freeAddress s) with
      | some a => answerJoin a id kept ((putUnit a id s).raise Fld.HIVE_EVENTS_NODE_JOINED)
      | none =>
        let s := putUnit 0 id s
        let s := if s.flag Fld.HIVE_ROLE_ADMIT then s.raise Fld.HIVE_EVENTS_JOIN_PENDING else s.raise Fld.HIVE_EVENTS_CENSUS_FULL
        sendAssign id 0 true s
  else s

/-- The payload of an EVENTS packet: each event word followed by its extension (R289). -/
def eventWords (es : List Ev) : List Word := es.flatMap fun e => [e.word, e.ext]

/-- A node's data-plane packet with the next number of its sequence space is held and sent (R388). -/
def sendHeld (p : Nat) (k : Packet) (s : State) : State :=
  let seq := s.sendSeqOf p
  let k := { k with header := withBits k.header 12 12 seq }
  let s := if (s.heldOf p).isEmpty then { s with hive := { s.hive with ackClock := Table.put (fun _ => 0) s.hive.ackClock p s.now } } else s
  let s := { s with hive := { s.hive with
    sendSeq := Table.put (fun _ => 0) s.hive.sendSeq p ((seq + 1) % 4096)
    held := s.hive.held ++ [⟨p, seq, k⟩] } }
  ownSend k s

/-- One EVENTS packet of the given events, which become IN_FLIGHT under its number (R287, R393). -/
def packEvents (es : List Ev) (s : State) : State :=
  let seq := s.sendSeqOf 0
  let s := { s with events := { s.events with flight := s.events.flight ++ es.map fun e => (seq, e) } }
  sendHeld 0 (nodePacket s s.queenOf planeData 3 seq (eventWords es)) s

/-- IN_FLIGHT events are packed again under new numbers (R378), at most `n` packets of 32. -/
def repack : Nat → List Ev → State → State
  | 0, _, s => s
  | n + 1, es, s => if es.isEmpty then s else repack n (es.drop 32) (packEvents (es.take 32) s)

/-- The node takes an address and an EPOCH; both of its sequence spaces start at 0 (R378). -/
def takeAddress (a epoch : Nat) (s : State) : State :=
  let es := s.events.flight.map (·.2)
  let s := ((s.set Fld.HIVE_ROLE_ADDR a).set Fld.HIVE_STATUS_EPOCH epoch).raise Fld.HIVE_EVENTS_JOINED
  let s := { s with
    hive := { s.hive with
      sendSeq := Table.put (fun _ => 0) s.hive.sendSeq 0 0, nextSeq := Table.put (fun _ => 0) s.hive.nextSeq 0 0
      held := s.hive.held.filter (fun h => !(h.peer == 0)), rejoining := false, joinSent := none }
    ring := { s.ring with own := s.ring.own.filter fun k => !ownEvents k }
    events := { s.events with flight := [] } }
  repack 8 es s

/-- An ASSIGN reaches a node (R378). One whose ADDR is 0 refuses a JOIN, whose answer the node then awaits no more (R377, R386): DEDUCED. -/
def assignReceive (k : Packet) (s : State) : State :=
  let w := pktWord k 3
  let a := bitsOf w 41 7
  if sameUnit s.unitId (k.payload.take 3) = false then s
  else if a = 0 then { s with hive := { s.hive with rejoining := false } }
  else if bitAt w 40 then
    if s.addr = 0 ∨ s.hive.rejoining = true then takeAddress a (bitsOf w 24 16) s else s
  else { s with hive := { s.hive with nextSeq := Table.put (fun _ => 0) s.hive.nextSeq 0 0 } }

/-- The bits of census word `k` of an entry that hold fields (R7, R401). -/
def censusMask (k : Nat) : Word := if k = 0 then 0xFFFFFFFFE000 else 0xFFFFFFFFFFFF

/-- A write of a census word (R379). -/
def writeCensus (i : Nat) (v : Word) (s : State) : State :=
  let a := i / 4
  if s.isQueen then
    if i % 4 = 0 ∧ bitsOf v 45 3 = entFree ∧ (s.entState a = entBound ∨ s.entState a = entGone) then s.modCensus a fun w => withBits w 45 3 entFree
    else s
  else s.putCensus a (i % 4) (v &&& censusMask (i % 4))

/-! ### Departure (R386, R387) -/

/-- A leaving node sends LEAVE (R386). -/
def leaveSend (s : State) : State :=
  if s.flag Fld.HIVE_STATUS_LEAVING && s.events.flight.isEmpty && !s.hive.leaveSent then
    let w := packWord [(28, 1, s.get Fld.RINGA_BYPASS_AT_EN), (0, 28, s.get Fld.RINGA_BYPASS_AT_TICK)]
    ownSend (nodePacket s s.queenOf planeControl 0x25 0 [w]) { s with hive := { s.hive with leaveSent := true } }
  else s

/-- The queen receives LEAVE (R381, R387). -/
def leaveReceive (k : Packet) (s : State) : State :=
  if s.isQueen && s.bound (pktSource k) then
    let s := markGone (pktSource k) s
    let w := pktWord k 0
    if bitAt w 28 then
      let d := (bitsOf w 0 28 + ticksPerSecond - s.tick) % ticksPerSecond
      { s with hive := { s.hive with quiet := some (s.now + d - 9244, s.now + d + 7680) } }
    else s
  else s

/-- The queen's quiet window holds its own packets (R387). -/
def inQuiet (s : State) : Bool :=
  match s.hive.quiet with
  | none => false
  | some (a, b) => decide (a ≤ s.now ∧ s.now < b)

/-! ### Data-plane delivery (R388 to R393) -/

/-- An acknowledgement is owed to an address (R390). -/
def oweAck (a : Nat) (s : State) : State :=
  if a ∈ s.hive.acks then s else { s with hive := { s.hive with acks := s.hive.acks ++ [a] } }

/-- NEXT of a sender rises by 1 (R389). -/
def advanceNext (p : Nat) (s : State) : State :=
  { s with hive := { s.hive with nextSeq := Table.put (fun _ => 0) s.hive.nextSeq p ((s.nextSeqOf p + 1) % 4096) } }

/-- A packet in sequence is accepted, when the receiver has `room` for it, and acts as `f`; a duplicate is acknowledged; any other is
discarded (R389, R390). -/
def inSequence (k : Packet) (room : Bool) (f : State → State) (s : State) : State :=
  let p := s.peerKey (pktSource k)
  let d := (s.nextSeqOf p + 4096 - pktSeq k) % 4096
  if d = 0 then (if room then oweAck (pktSource k) (advanceNext p (f s)) else s)
  else if d ≤ 2048 then oweAck (pktSource k) s
  else s

/-- The memory writes of a DISPLAY packet (R392). -/
def displayWrites (k : Packet) (s : State) : State :=
  let a := bitsOf (pktWord k 0) 26 22
  let ws := k.payload.drop 1
  if 4194304 < a + ws.length then discardDelivered s else memWriteRun s a ws

/-- DISPLAY. -/
def displayReceive (k : Packet) (s : State) : State := inSequence k true (displayWrites k) s

/-- EVENTS reaches the queen (R389, R400): refused, without acknowledgement, when the receive ring cannot hold it. -/
def eventsReceive (k : Packet) (s : State) : State :=
  if s.isQueen then inSequence k (rxFits s k) (rxWrite k) s else s

/-- The events acknowledged by a number become FREE (R393). -/
def freeFlight (next : Nat) (s : State) : State :=
  { s with events := { s.events with flight := s.events.flight.filter fun e => !decide (0 < (next + 4096 - e.1) % 4096 ∧ (next + 4096 - e.1) % 4096 ≤ 2048) } }

/-- ACK (R390, R391). -/
def ackReceive (k : Packet) (s : State) : State :=
  let p := s.peerKey (pktSource k)
  let next := bitsOf (pktWord k 0) 0 12
  let covered := fun (h : Held) => h.peer == p && decide (0 < (next + 4096 - h.seq) % 4096 ∧ (next + 4096 - h.seq) % 4096 ≤ 2048)
  let moved := s.hive.held.any covered
  let s := { s with hive := { s.hive with held := s.hive.held.filter fun h => !covered h } }
  let s := if moved then { s with hive := { s.hive with ackClock := Table.put (fun _ => 0) s.hive.ackClock p s.now } } else s
  if p = 0 then freeFlight next s else s

/-- An ACK is sent (R390). -/
def ackSend (s : State) : State :=
  match s.hive.acks with
  | [] => s
  | a :: r =>
    ownSend (nodePacket s a planeData 2 0 [packWord [(0, 12, s.nextSeqOf (s.peerKey a))]]) { s with hive := { s.hive with acks := r } }

/-- Every unacknowledged packet for a peer is sent again (R391). -/
def retransmit (p : Nat) (s : State) : State :=
  let hs := s.heldOf p
  if hs.isEmpty then s
  else
    let s := s.elapseTo (Table.get (fun _ => 0) s.hive.ackClock p + 38400)
    let s := { s with hive := { s.hive with ackClock := Table.put (fun _ => 0) s.hive.ackClock p s.now } }
    hs.foldl (fun s h => if h.packet ∈ s.ring.own then s else ownSend h.packet s) s

/-- The link engine may pop for the ring (R287, R386). -/
def ringPops (s : State) : Bool :=
  s.flag Fld.EVENT_BASIC_RING_EN && decide (s.addr ≠ 0) && !s.flag Fld.HIVE_STATUS_LEAVING && !s.events.queued.isEmpty

/-- The oldest events of the queue leave it. -/
def popEvents (n : Nat) (s : State) : State := { s with events := { s.events with queued := s.events.queued.drop n } }

/-- An EVENTS packet is formed (R393). -/
def formEvents (s : State) : State :=
  if ringPops s then
    let es := s.events.queued.take 32
    if (deliveringPort s).isNone then s
    else if s.isQueen then
      let k := nodePacket s s.addr planeData 3 0 (eventWords es)
      if rxFits s k then rxWrite k (popEvents 32 s) else s
    else if (s.heldOf 0).length < 16 then packEvents es (popEvents 32 s)
    else s
  else s

/-! ### The queen's submissions (R397, R399) -/

/-- A type of a plane (R86, R90, R373, R374, R490). -/
def knownType (plane type : Nat) : Bool :=
  if plane = planeData then decide (1 ≤ type ∧ type ≤ 3)
  else if plane = planeControl then decide ((1 ≤ type ∧ type ≤ 8) ∨ type = 0x11 ∨ (0x21 ≤ type ∧ type ≤ 0x25))
  else if plane = planeManagement then decide ((1 ≤ type ∧ type ≤ 3) ∨ type = 0x10 ∨ (0x21 ≤ type ∧ type ≤ 0x23) ∨ type = 0x30)
  else false

/-- An address that R32 reserves. -/
def reservedAddress (a : Nat) : Bool := decide (0x61 ≤ a ∧ a ≤ 0x7E)

/-- Words of the retransmission store in use. -/
def storeUsed (s : State) : Nat := s.hive.held.foldl (fun n h => n + 1 + h.packet.payload.length) 0

/-- A data-plane packet that takes a sequence number (R388). -/
def sequenced (k : Packet) : Bool := decide (pktPlane k = planeData ∧ pktType k ≠ 2)

/-- The result of a submission of a packet from word `offset` of its tile; `tileOk` is the tile's check (R399). -/
def submitResult (s : State) (k : Packet) (offset : Nat) (tileOk : Bool) : Nat :=
  let d := pktDest k
  if s.isQueen = false then 4
  else if tileOk = false then 5
  else if knownType (pktPlane k) (pktType k) = false ∨ reservedAddress d = true ∨ 768 < pktLen k ∨ 1024 < offset + 1 + pktLen k ∨
      (pktPlane k = planeData ∧ d = broadcast) then 2
  else if d ≠ broadcast ∧ (s.bound d = false ∨ s.entState d ≠ entPresent) then 1
  else if sequenced k = true ∧ (16 ≤ (s.heldOf d).length ∨ 65536 < storeUsed s + 1 + pktLen k) then 3
  else 0

/-- An ARM with a new TXN sets the answers of its entries to none (R397). -/
def censusArm (k : Packet) (s : State) : State :=
  let w := pktWord k 0
  if pktPlane k = planeControl ∧ pktType k = 1 ∧ bitsOf w 0 12 ≠ s.get Fld.HIVE_MODE_CENSUS_TXN then
    let hit := fun a => decide (pktDest k = broadcast ∨ pktDest k = a)
    let s := (List.range 97).foldl (fun s a => if hit a && s.bound a then s.modCensus a fun w => withBits w 37 3 0 else s) s
    let s := { s with hive := { s.hive with answered := s.hive.answered.filter fun a => !hit a } }
    (s.set Fld.HIVE_MODE_CENSUS_TXN (bitsOf w 0 12)).set Fld.HIVE_MODE_CENSUS_TARGET (bitsOf w 12 4)
  else s

/-- An accepted packet is queued (R399). -/
def queueSubmission (k : Packet) (s : State) : State :=
  let s := censusArm k (s.set Fld.HIVE_TX_STAT_BUSY 0)
  if sequenced k then sendHeld (pktDest k) k (s.set Fld.HIVE_TX_STAT_SEQ (s.sendSeqOf (pktDest k))) else ownSend k s

/-- The header of a submission as it is sent, before a number is given to it: the sequence field of a control-plane packet is 0 (R373), and so is
that of an ACK (R388). -/
def unsequenced (h : Word) : Word := if bitsOf h 30 4 = planeControl ∨ bitsOf h 30 4 = planeData then withBits h 12 12 0 else h

/-- SUBMIT (R387, R399): `found` is the checksum read when an upset made the tile's differ. -/
def submit (found : Option (BitVec 32)) (s : State) : State :=
  if s.flag Fld.HIVE_TX_STAT_BUSY then s
  else
    let t := s.get Fld.HIVE_TX_CTRL_TILE
    let o := s.get Fld.HIVE_TX_CTRL_OFFSET
    let c := if s.isQueen then openTile s t 3 found else (true, s)
    let s := c.2
    let h := s.memRead (1024 * t + o)
    let k : Packet := { header := unsequenced (withBits h 34 7 s.addr), payload := (List.range (bitsOf h 0 12)).map fun i => s.memRead (1024 * t + o + 1 + i) }
    let r := submitResult s k o c.1
    let s := s.set Fld.HIVE_TX_STAT_RESULT r
    if r = 1 then countDropped (pktDest k) s
    else if r ≠ 0 then s
    else if inQuiet s then { s.set Fld.HIVE_TX_STAT_BUSY 1 with hive := { s.hive with txWaiting := some k } }
    else queueSubmission k s

/-- A write of HIVE.TX_CTRL. -/
def writeTxCtrl (v : Word) (found : Option (BitVec 32)) (s : State) : State :=
  let s := s.putWord Reg.HIVE_TX_CTRL v
  if bitAt v 0 then submit found s else s

/-- The quiet window ends (R387). -/
def quietEnd (s : State) : State :=
  match s.hive.quiet with
  | none => s
  | some (_, b) =>
    let s := s.elapseTo b
    let k := s.hive.txWaiting
    let s := { s with hive := { s.hive with quiet := none, txWaiting := none } }
    match k with
    | none => s
    | some k => queueSubmission k s

/-! ### Commands -/

/-- QUEEN_EN_WRITE. -/
def execQueenEnWrite (p : Path) (s : State) : Host.Outcome State Fault Refusal := access s (fieldWrite p Reg.HIVE_ROLE true takeQueen)

/-- QUEEN_RELEASE. -/
def execQueenRelease (p : Path) (s : State) : Host.Outcome State Fault Refusal := access s (fieldWrite p Reg.HIVE_ROLE true releaseQueen)

/-- BEACON_SEND. -/
def execBeaconSend (s : State) : Host.Outcome State Fault Refusal := act s beaconSend

/-- BEACON_RECEIVE: the oldest BEACON delivered acts. -/
def execBeaconReceive (s : State) : Host.Outcome State Fault Refusal := act s (takePacket planeControl 8 beaconActs)

/-- PRESENT_SEND. -/
def execPresentSend (s : State) : Host.Outcome State Fault Refusal := act s presentSend

/-- PRESENT_RECEIVE. -/
def execPresentReceive (s : State) : Host.Outcome State Fault Refusal := act s (takePacket planeControl 0x24 presentReceive)

/-- JOIN_SEND. -/
def execJoinSend (s : State) : Host.Outcome State Fault Refusal := act s joinSend

/-- JOIN_RECEIVE. -/
def execJoinReceive (s : State) : Host.Outcome State Fault Refusal := act s (takePacket planeControl 0x23 joinReceive)

/-- ASSIGN_RECEIVE. -/
def execAssignReceive (s : State) : Host.Outcome State Fault Refusal := act s (takePacket planeControl 0x11 assignReceive)

/-- NODE_GONE. -/
def execNodeGone (a : Fin 97) (s : State) : Host.Outcome State Fault Refusal := act s (nodeGone a)

/-- LEAVE_WRITE. -/
def execLeaveWrite (p : Path) (s : State) : Host.Outcome State Fault Refusal := access s (fieldWrite p Reg.HIVE_ROLE false startLeaving)

/-- LEAVE_SEND. -/
def execLeaveSend (s : State) : Host.Outcome State Fault Refusal := act s leaveSend

/-- LEAVE_RECEIVE. -/
def execLeaveReceive (s : State) : Host.Outcome State Fault Refusal := act s (takePacket planeControl 0x25 leaveReceive)

/-- DISPLAY. -/
def execDisplay (s : State) : Host.Outcome State Fault Refusal := act s (takePacket planeData 1 displayReceive)

/-- EVENTS. -/
def execEvents (s : State) : Host.Outcome State Fault Refusal := act s (takePacket planeData 3 eventsReceive)

/-- ACK. -/
def execAck (s : State) : Host.Outcome State Fault Refusal := act s (takePacket planeData 2 ackReceive)

/-- ACK_SEND. -/
def execAckSend (s : State) : Host.Outcome State Fault Refusal := act s ackSend

/-- RETRANSMIT, for a peer: an address on the queen, 0 on a node. -/
def execRetransmit (a : Fin 97) (s : State) : Host.Outcome State Fault Refusal := act s (retransmit a)

/-- EVENTS_PACKET_FORM. -/
def execEventsPacketForm (s : State) : Host.Outcome State Fault Refusal := act s formEvents

/-- TX_SUBMIT: a write of HIVE.TX_CTRL. -/
def execTxSubmit (p : Path) (v : Word) (found : Option (BitVec 32)) (s : State) : Host.Outcome State Fault Refusal :=
  access s (fieldWrite p Reg.HIVE_TX_CTRL false (writeTxCtrl v found))

/-- CENSUS_WRITE: a write of entry i of HIVE window table 0x01. -/
def execCensusWrite (i : Fin 388) (v : Word) (s : State) : Host.Outcome State Fault Refusal := accessIn 0x05 s (writeCensus i v)

/-- QUIET_WINDOW_END. -/
def execQuietWindowEnd (s : State) : Host.Outcome State Fault Refusal := act s quietEnd

end Sys2Proof.Machine
end

