-- ==== Sys2Proof/Machine/Waggle.lean ====
section
/-! DEFINITION. Mode commits and scheduled waggles: a node's arming, its reports, and the queen's record of them (R394 to R398). -/
namespace Sys2Proof.Machine

/-- States of a node's arming (R395). -/
def armIdle : Nat := 0
def armPreparing : Nat := 1
def armArmed : Nat := 2
def armUnarmed : Nat := 3
def armLag : Nat := 4
def armLagPreparing : Nat := 5

def State.armState (s : State) : Nat := s.get Fld.HIVE_MODE_ARM_STATE

/-- An entry of the mode table (R393). -/
def State.modeEntry (s : State) (m : Nat) : Word := Table.get (fun _ => 0) s.hive.modes m

/-- A hive time count from a time pair (R373). -/
def pairTime (k : Packet) : Nat := bitsOf (pktWord k 0) 16 32 * ticksPerSecond + bitsOf (pktWord k 1) 0 28

/-- ARMED is answered with a cause (R373, R394). -/
def answerArmed (cause : Nat) (s : State) : State :=
  ownSend (nodePacket s s.queenOf planeControl 0x21 0
    [packWord [(44, 4, cause), (12, 4, s.get Fld.HIVE_MODE_TARGET), (0, 12, s.get Fld.HIVE_MODE_TXN)]]) s

/-- A MODE_REPORT is due 64 + ADDR × 2,048 tck after a hive time (R395). -/
def reportFrom (t : Nat) (s : State) : State := { s with hive := { s.hive with reportAt := some (t + 64 + s.addr * 2048) } }

/-- Preparation for the mode in TARGET begins (R394). -/
def prepare (s : State) : State :=
  let e := s.modeEntry (s.get Fld.HIVE_MODE_TARGET)
  let swap := bitAt e 46
  let busy := opActive s combPage
  let early := if bitAt e 47 = false then 1 else if s.inStandby then 6 else if swap && busy then 5 else 0
  let s := { s with hive := { s.hive with
    arming := { s.hive.arming with swap := swap, ctx := if bitAt e 33 then some (bitsOf e 30 3) else none, flips := bitsOf e 22 8 }
    early := early, preparing := swap && decide (early = 0) } }
  if swap && decide (early = 0) then startFilling (.load (bitsOf e 34 12) true) 1 s else s

/-- An earlier arming is dropped: the set that the freeze point took is due no more (R27, R28). -/
def dropArming (t : Option Nat) (s : State) : State :=
  { s with hive := { s.hive with arming := { time := t }, preparing := false }, commit := { s.commit with hiveDue := false } }

/-- A node begins to prepare for mode `m` at a tick (R395): TARGET and TXN are recorded and an earlier arming is dropped. -/
def startArming (m txn : Nat) (t : Option Nat) (s : State) : State :=
  let s := ((s.set Fld.HIVE_MODE_ARM_STATE armPreparing).set Fld.HIVE_MODE_TARGET m).set Fld.HIVE_MODE_TXN txn
  prepare (dropArming t s)

/-- The node's arming is for the same transaction, mode and tick. -/
def sameArming (s : State) (m txn t : Nat) : Bool :=
  decide (s.get Fld.HIVE_MODE_TARGET = m ∧ s.get Fld.HIVE_MODE_TXN = txn ∧ s.hive.arming.time = some t)

/-- A waggle that names an arming in progress or in force: received twice it acts as once, and an ARMED node answers again (R374, R395). -/
def armAgain (m txn t : Nat) (f : State → State) (s : State) : State :=
  if sameArming s m txn t ∧ s.armState = armArmed then answerArmed 0 s
  else if sameArming s m txn t ∧ s.armState = armPreparing then s
  else f s

/-- ARM (R395). -/
def armReceive (k : Packet) (s : State) : State :=
  if s.addr = 0 then s
  else
    let m := bitsOf (pktWord k 0) 12 4
    let txn := bitsOf (pktWord k 0) 0 12
    armAgain m txn (pairTime k) (fun s => startArming m txn (some (pairTime k)) { s with hive := { s.hive with txnMode := m } }) s

/-- COMMIT (R395). -/
def commitReceive (k : Packet) (s : State) : State :=
  if s.armState = armLag ∧ bitsOf (pktWord k 0) 0 12 = s.get Fld.HIVE_MODE_TXN then
    let s := s.set Fld.HIVE_MODE_ARM_STATE armLagPreparing
    prepare (dropArming none s)
  else s

/-- REVERT of a transaction that has not been applied (R395). -/
def cancelArming (s : State) : State :=
  let s := (s.set Fld.HIVE_MODE_ARM_STATE armIdle).set Fld.HIVE_EVENTS_MODE_LAG 0
  reportFrom s.hiveNow (dropArming none s)

/-- REVERT (R395). -/
def revertReceive (k : Packet) (s : State) : State :=
  let m := bitsOf (pktWord k 0) 12 4
  let txn := bitsOf (pktWord k 0) 0 12
  if s.addr = 0 ∨ txn ≠ s.get Fld.HIVE_MODE_TXN then s
  else armAgain m txn (pairTime k) (fun s =>
    if 2 ≤ s.armState then cancelArming s
    else if s.armState = armIdle ∧ s.get Fld.HIVE_MODE_CUR = s.hive.txnMode then startArming m txn (some (pairTime k)) s
    else s) s

/-- The load or the bank check of a preparation still runs. -/
def stillPreparing (s : State) : Bool :=
  s.hive.preparing || (s.hive.arming.swap && decide (s.hive.early = 0 ∧ s.shadowState = bankChecking))

/-- The freeze point of the arming's commit clock has passed (R27, R394). -/
def armLate (s : State) : Bool :=
  match s.hive.arming.time with
  | none => false
  | some t =>
    let started := decide (t + (s.now - s.comb.frameStart) ≤ s.hiveNow) && decide (s.runState = combRunning)
    let coming := s.commit.frozen && decide (t + s.now ≤ s.hiveNow + (s.comb.frameStart + frameLen s s.activeBank))
    started || coming

/-- The first cause found against a preparation (R394). -/
def prepareCause (s : State) : Nat :=
  if s.hive.early ≠ 0 then s.hive.early
  else if s.hive.arming.swap = true ∧ s.shadowState ≠ bankPassed then 2
  else if (match s.hive.arming.ctx with | none => false | some c => !s.ctxOk c) = true then 3
  else if armLate s then 4
  else 0

/-- Preparation fails (R395). -/
def prepareFails (cause : Nat) (s : State) : State :=
  let lag := decide (s.armState = armLagPreparing)
  let s := answerArmed cause ((s.set Fld.HIVE_MODE_CAUSE cause).raise Fld.HIVE_EVENTS_ARM_REFUSED)
  if lag then reportFrom s.hiveNow (s.set Fld.HIVE_MODE_ARM_STATE armLag) else s.set Fld.HIVE_MODE_ARM_STATE armUnarmed

/-- Preparation ends (R394, R395). -/
def armPrepared (s : State) : State :=
  if (s.armState = armPreparing ∨ s.armState = armLagPreparing) ∧ stillPreparing s = false then
    let c := prepareCause s
    if c = 0 then answerArmed 0 ((s.set Fld.HIVE_MODE_ARM_STATE armArmed).set Fld.HIVE_MODE_CAUSE 0) else prepareFails c s
  else s

/-- A node lags behind its transaction (R395, R427). -/
def enterLag (t : Nat) (s : State) : State := reportFrom t ((s.set Fld.HIVE_MODE_ARM_STATE armLag).raise Fld.HIVE_EVENTS_MODE_LAG)

/-- The commit tick passes for an UNARMED node, and for an ARMED one in STANDBY (R395, R427). -/
def tickPasses (s : State) : State :=
  match s.hive.arming.time with
  | none => s
  | some t =>
    if s.armState = armUnarmed then enterLag t (s.elapseHive t)
    else if s.armState = armArmed ∧ s.inStandby = true then enterLag t ((s.elapseHive t).set Fld.HIVE_MODE_CAUSE 6)
    else s

/-- The armed set is due at a commit clock that falls on hive time `t` (R27). -/
def armDue (s : State) (t : Nat) : Bool :=
  decide (s.armState = armArmed) && (match s.hive.arming.time with | none => true | some c => decide (c ≤ t))

/-- The commit clock applies the armed set (R395, R396). -/
def hiveApplied (s : State) : State :=
  let s := (s.set Fld.HIVE_MODE_PREV (s.get Fld.HIVE_MODE_CUR)).set Fld.HIVE_MODE_CUR (s.get Fld.HIVE_MODE_TARGET)
  let s := (s.set Fld.HIVE_MODE_ARM_STATE armIdle).raise Fld.HIVE_EVENTS_MODE_APPLIED
  reportFrom s.hiveNow (s.set Fld.HIVE_MODE_CAUSE 0)

/-- The commit clock refuses the armed set (R26, R395). -/
def hiveRefused (s : State) : State := enterLag s.hiveNow (s.set Fld.HIVE_MODE_CAUSE 7)

/-- A MODE_REPORT is sent (R373, R395). -/
def modeReport (s : State) : State :=
  match s.hive.reportAt with
  | none => s
  | some t =>
    let s := s.elapseHive t
    let s := { s with hive := { s.hive with reportAt := none } }
    let w := packWord [(44, 4, s.get Fld.HIVE_MODE_CUR), (40, 4, s.get Fld.HIVE_MODE_PREV), (39, 1, b2n (decide (armLag ≤ s.armState))),
      (35, 4, s.get Fld.HIVE_MODE_CAUSE), (0, 12, s.get Fld.HIVE_MODE_TXN)]
    ownSend (nodePacket s s.queenOf planeControl 0x22 0 [w]) s

/-! ### The queen's record (R397, R401) -/

/-- ARM of an entry takes a value with its cause. -/
def putAnswer (a arm cause : Nat) (s : State) : State := s.modCensus a fun w => withBits (withBits w 37 3 arm) 33 4 cause

/-- ARMED at the queen. -/
def recordArmed (k : Packet) (s : State) : State :=
  let a := pktSource k
  let w := pktWord k 0
  if s.isQueen && s.bound a && decide (bitsOf w 0 12 = s.get Fld.HIVE_MODE_CENSUS_TXN) then
    let r := bitsOf w 44 4
    let s := putAnswer a (if r = 0 then 1 else 2) r s
    if r = 0 ∧ a ∉ s.hive.answered then { s with hive := { s.hive with answered := a :: s.hive.answered } } else s
  else s

/-- MODE_REPORT at the queen. -/
def recordReport (k : Packet) (s : State) : State :=
  let a := pktSource k
  let w := pktWord k 0
  if s.isQueen && s.bound a then
    let s := s.modCensus a fun v => withBits v 40 4 (bitsOf w 44 4)
    if bitsOf w 0 12 = s.get Fld.HIVE_MODE_CENSUS_TXN then
      putAnswer a (if bitAt w 39 then 4 else if bitsOf w 44 4 = s.get Fld.HIVE_MODE_CENSUS_TARGET then 3 else 0) (bitsOf w 35 4) s
    else s
  else s

/-- The oldest ARMED or MODE_REPORT delivered is recorded. -/
def armedReceive (s : State) : State :=
  match s.ring.inbox.find? fun k => decide (pktPlane k = planeControl ∧ (pktType k = 0x21 ∨ pktType k = 0x22)) with
  | none => s
  | some k => takePacket planeControl (pktType k) (if pktType k = 0x21 then recordArmed else recordReport) s

/-- Entries of the census that satisfy a test. -/
def countEntries (s : State) (p : Nat → Bool) : Nat := ((List.range 97).filter fun a => s.bound a && p a).length

/-- HIVE.MODE_CENSUS as read: 0 except on the queen. -/
def modeCensus (s : State) : Word :=
  if s.isQueen then
    let arm := fun a => bitsOf (s.census a 0) 37 3
    packWord [(36, 12, s.get Fld.HIVE_MODE_CENSUS_TXN), (32, 4, s.get Fld.HIVE_MODE_CENSUS_TARGET),
      (24, 8, countEntries s fun a => decide (a ∈ s.hive.answered)), (16, 8, countEntries s fun a => arm a == 3),
      (8, 8, countEntries s fun a => arm a == 4), (0, 8, countEntries s fun a => decide (s.entState a = entPresent) && arm a == 0)]
  else 0

/-! ### Scheduled waggles (R398) -/

/-- A waggle whose time has passed raises WAGGLE_LATE (R398). -/
def lateWaggle (t : Nat) (s : State) : State := if t < s.hiveNow then s.raise Fld.HIVE_EVENTS_WAGGLE_LATE else s

/-- A waggle becomes the pending one of its type (R398). -/
def scheduleWaggle (k : Packet) (s : State) : State :=
  let t := pairTime k
  if pktType k = 4 then lateWaggle t { s with hive := { s.hive with blink := some (t, k) } }
  else if pktType k = 5 then lateWaggle t { s with hive := { s.hive with dim := some (t, k) } }
  else if pktType k = 6 then lateWaggle t { s with hive := { s.hive with hiveReset := some t } }
  else lateWaggle (bitsOf (pktWord k 0) 16 32 * ticksPerSecond) { s with hive := { s.hive with activate := some (pktWord k 0) } }

/-- The oldest BLINK, DIM, HIVE_RESET or ACTIVATE delivered is scheduled. -/
def waggleSchedule (s : State) : State :=
  match s.ring.inbox.find? fun k => decide (pktPlane k = planeControl ∧ 4 ≤ pktType k ∧ pktType k ≤ 7) with
  | none => s
  | some k => takePacket planeControl (pktType k) scheduleWaggle s

/-- HIVE.STATUS as read. -/
def hiveStatus (s : State) : Word :=
  let pend := b2n s.hive.blink.isSome * 8 + b2n s.hive.dim.isSome * 4 + b2n s.hive.hiveReset.isSome * 2 + b2n s.hive.activate.isSome
  withBits (withBits (pageStatus s 5) 9 4 pend) 0 7 (if s.isQueen then countEntries s fun a => decide (s.entState a = entPresent) else 0)

/-! ### Commands -/

/-- ARM. -/
def execArm (s : State) : Host.Outcome State Fault Refusal := act s (takePacket planeControl 1 armReceive)

/-- ARM_PREPARED. -/
def execArmPrepared (s : State) : Host.Outcome State Fault Refusal := act s armPrepared

/-- COMMIT. -/
def execCommit (s : State) : Host.Outcome State Fault Refusal := act s (takePacket planeControl 2 commitReceive)

/-- REVERT. -/
def execRevert (s : State) : Host.Outcome State Fault Refusal := act s (takePacket planeControl 3 revertReceive)

/-- COMMIT_TICK_PASS. -/
def execCommitTickPass (s : State) : Host.Outcome State Fault Refusal := act s tickPasses

/-- MODE_REPORT_SEND. -/
def execModeReportSend (s : State) : Host.Outcome State Fault Refusal := act s modeReport

/-- ARMED_RECEIVE. -/
def execArmedReceive (s : State) : Host.Outcome State Fault Refusal := act s armedReceive

/-- WAGGLE_SCHEDULE. -/
def execWaggleSchedule (s : State) : Host.Outcome State Fault Refusal := act s waggleSchedule

end Sys2Proof.Machine
end

