-- ==== Sys2Proof/Machine/Packets.lean ====
section
/-! DEFINITION. Packets at the ring ports: the start of a packet (R19, R343, R347, R371), and the checks, delivery and forwarding of a
received one (R340 to R343, R370, R373, R374, R376). -/
namespace Sys2Proof.Machine

/-! ### The start of a packet -/

/-- Class of a packet for R19: 0 control, 1 data, 2 management. -/
def txClass (k : Packet) : Nat := if pktPlane k = planeControl then 0 else if pktPlane k = planeData then 1 else 2

/-- The class that a transmitter takes next: control first, data and management by turns (R19). DESIGN CHOICE: where both wait and neither has been
sent since reset, management goes first. -/
def nextClass (s : State) (x : Nat) (ks : List Packet) : Option Nat :=
  let waits := fun c => ks.any fun k => txClass k == c
  if waits 0 then some 0
  else if waits 1 && waits 2 then some (if (s.port x).lastMgmt then 1 else 2)
  else if waits 1 then some 1
  else if waits 2 then some 2
  else none

/-- The node's own packets that transmitter `x` may start now (R347, R387). -/
def ownReady (s : State) (x : Nat) : List Packet :=
  if ownPort s = some x ∧ (s.isQueen && inQuiet s) = false then s.ring.own else []

/-- The packet of a class that is taken, without the first of its equals in the list. -/
def takeFirst (c : Nat) : List Packet → Option (Packet × List Packet)
  | [] => none
  | k :: r =>
    if txClass k = c then some (k, r)
    else match takeFirst c r with
      | none => none
      | some (j, l) => some (j, k :: l)

/-- A packet starts on a transmitter at local tck `t`, and its plane has had its turn (R19). -/
def startPacket (x t : Nat) (k : Packet) (s : State) : State :=
  (startPacketAt x t k s).modPort x fun q => { q with lastMgmt := if txClass k = 0 then q.lastMgmt else decide (txClass k = 2) }

/-- The queen acts on each waggle but HIVE_RESET as if it had been delivered to it (R371); a waggle is a broadcast. -/
def ownWaggle (k : Packet) (s : State) : State :=
  if s.isQueen = true ∧ pktPlane k = planeControl ∧ pktDest k = broadcast ∧ pktType k ≤ 8 ∧ pktType k ≠ 6 then
    { s with ring := { s.ring with inbox := s.ring.inbox ++ [k] } }
  else s

/-- Transmitter `x` starts the next waiting packet, a forwarded one before the node's own within a plane (R19, R343). -/
def txStart (x : Nat) (s : State) : State :=
  let s := s.elapseTo (max (s.port x).sendEnd (s.port x).setEnd)
  if portLives s x && sends s.wrap x then
    match nextClass s x ((s.port x).forward ++ ownReady s x) with
    | none => s
    | some c =>
      match takeFirst c (s.port x).forward with
      | some (k, r) => startPacket x s.now k (s.modPort x fun q => { q with forward := r })
      | none =>
        match takeFirst c (ownReady s x) with
        | some (k, r) => ownWaggle k (startPacket x s.now k { s with ring := { s.ring with own := r } })
        | none => s
  else s

/-! ### A received packet -/

/-- Words of a plane that wait in a transmitter's forwarding queue; a queue holds two packets of the greatest length (R343). -/
def queueWords (s : State) (y plane : Nat) : Nat :=
  ((s.port y).forward.filter fun k => pktPlane k == plane).foldl (fun n k => n + 1 + k.payload.length) 0

/-- Transmitter `y` has been idle from local tck `t` with nothing to send before a forwarded packet (R343). -/
def idleFrom (s : State) (y t : Nat) : Bool :=
  decide ((s.port y).sendEnd ≤ t ∧ (s.port y).setEnd ≤ t) && (s.port y).forward.isEmpty && (ownReady s y).isEmpty

/-- A packet whose SOP reached port `x` at local tck `t` is forwarded (R343, R347): its SOP leaves an idle transmitter 48 to 64 tck after it
came, the device's own choice; otherwise it joins the queue of its plane, or is discarded where that is full. -/
def forwardPacket (x t : Nat) (k : Packet) (s : State) : State :=
  match forwardPort s x with
  | none => s
  | some y =>
    if idleFrom s y (t + 48) then
      let f := s.fresh
      startPacket y (t + 48 + f.1.toNat % 17) k f.2
    else if 1538 < queueWords s y (pktPlane k) + 1 + k.payload.length then
      (ringError x (Fld.RING_ERRORS_DISCARD x) s).raise (Fld.RING_EVENTS_QUEUE_FULL x)
    else s.modPort y fun q => { q with forward := q.forward ++ [k] }

/-- A packet is delivered (R342, R400). A type that no rule lists does nothing more. -/
def deliver (x : Nat) (k : Packet) (s : State) : State :=
  if s.isQueen = true ∧ pktPlane k = planeManagement then queenTakes x k s
  else if knownType (pktPlane k) (pktType k) then toInbox k s else s

/-- A control-plane packet of a type not listed, or a data-plane broadcast (R373, R374). -/
def illTyped (k : Packet) : Bool :=
  decide (pktPlane k = planeControl) && !knownType planeControl (pktType k) || decide (pktPlane k = planeData ∧ pktDest k = broadcast)

/-- The queen strips packets from sources that its census does not bind, JOIN excepted (R342, R376). -/
def queenStrips (s : State) (k : Packet) : Bool := s.isQueen && !isJoin k && !s.bound (pktSource k)

/-- The queen's own BEACON has come round the ring. -/
def ownBeacon (s : State) (k : Packet) : Bool :=
  decide (pktSource k = s.addr ∧ bitsOf (pktWord k 0) 32 16 = s.get Fld.HIVE_STATUS_EPOCH)

/-- A BEACON at a queen, which examines it before the rows of R342 (R370). -/
def isBeaconAtQueen (s : State) (k : Packet) : Bool := s.isQueen && decide (pktPlane k = planeControl ∧ pktType k = 8)

/-- What the delivering port does with a packet: deliver it, forward it (R342, R370, R373, R374, R376). -/
def rowOf (s : State) (k : Packet) : Bool × Bool :=
  let own := s.addr
  if isBeaconAtQueen s k then (!ownBeacon s k, decide (pktSource k ≠ own) && !queenStrips s k)
  else if pktSource k = own ∧ own ≠ 0 ∨ queenStrips s k = true then (false, false)
  else if pktDest k = own ∧ own ≠ 0 then (true, false)
  else (decide (pktDest k = broadcast), true)

/-- A packet from the unassigned address that is no JOIN is discarded by the next node (R376). -/
def unaddressed (k : Packet) : Bool := decide (pktSource k = 0) && !isJoin k

/-- A packet received on port `x` goes on to a transmitter: the header decides it before the packet ends (R341 to R343, R370, R373, R376). -/
def goesOn (s : State) (x : Nat) (k : Packet) : Bool :=
  if unaddressed k then false
  else if deliveringPort s ≠ some x then true
  else !illTyped k && (rowOf s k).2

/-- A packet on the delivering port, its copy forwarded (R342, R370, R373, R374, R383): the queen hears its source. -/
def deliverRow (x : Nat) (k : Packet) (s : State) : State :=
  if illTyped k then ringError x (Fld.RING_ERRORS_DISCARD x) s
  else if (rowOf s k).1 then (if isBeaconAtQueen s k then toInbox k else deliver x k) (queenHears (pktSource k) s)
  else queenHears (pktSource k) s

/-- A whole packet whose SOP came at local tck `t`, after the checks of R340 (R341, R376): only the delivering port acts on it. -/
def wholePacket (x t : Nat) (k : Packet) (s : State) : State :=
  if unaddressed k then s
  else
    let u := if goesOn s x k then forwardPacket x t k s else s
    if deliveringPort s = some x then deliverRow x k u else u

/-- The forwarded copy of a packet with a fault carries the words that came, at most LENGTH, and ends with ABORT (R340). -/
def faultyCopy (x t : Nat) (k : Packet) (s : State) : State :=
  if goesOn s x k then forwardPacket x t { k with payload := k.payload.take (pktLen k), aborts := true } s else s

/-- The CRC errors of a port within the last 10 ms (R556). -/
def crcTimes (s : State) (x : Nat) : List Nat := (if x = 0 then s.fault.crcTimesA else s.fault.crcTimesB).filter fun t => decide (s.now < t + 1920000)

/-- A CRC mismatch: counted, and the fourth of a port within 10 ms starts its self-test (R340, R556). -/
def crcError (x : Nat) (s : State) : State :=
  let s := ringError x (Fld.RING_ERRORS_CRC x) s
  let ts := s.now :: crcTimes s x
  let full := decide (4 ≤ ts.length)
  let keep := if full then [] else ts
  let s := { s with fault := if x = 0 then { s.fault with crcTimesA := keep } else { s.fault with crcTimesB := keep } }
  if full then startTest s kindRingCrc (objPort (x == 1)) else s

/-- A packet whose SOP came at local tck `t` ends at receiver `x` (R337, R339, R340). -/
def packetEnds (x t : Nat) (k : Packet) (e : PacketEnd) (s : State) : State :=
  if pktPlane k ≠ planeData ∧ pktPlane k ≠ planeControl ∧ pktPlane k ≠ planeManagement ∨ reservedAddress (pktDest k) = true ∨ 768 < pktLen k then
    ringError x (Fld.RING_ERRORS_DISCARD x) s
  else match e with
    | .whole crc =>
      if pktLen k < k.payload.length then ringError x (Fld.RING_ERRORS_TRUNC x) (faultyCopy x t k s)
      else if k.payload.length = pktLen k ∧ crc = packetCrc k then wholePacket x t k s
      else crcError x (faultyCopy x t k s)
    | .codeError n => codeErrors x (max 1 n.toNat) (faultyCopy x t k s)
    | .truncated => ringError x (Fld.RING_ERRORS_TRUNC x) (faultyCopy x t k s)
    | .aborted => faultyCopy x t k s

/-- A packet ends on port `x`, `ago` tck after its SOP came: a LISTENING node reads only maintenance sets, and an OPEN one takes packets from the
first SOP after the switch settled (R347, R353). -/
def packetReceived (x : Nat) (k : Packet) (e : PacketEnd) (ago : Nat) (s : State) : State :=
  if portLives s x && decide (s.link x = linkUp ∧ s.wrap ≠ wrapListening ∧ s.ring.openedAt + ago ≤ s.now) then
    packetEnds x (s.now - ago) k e s
  else s

/-! ### Commands -/

/-- TX_PACKET_START. -/
def execTxPacketStart (x : Port) (s : State) : Host.Outcome State Fault Refusal := act s (txStart (portNo x))

/-- PACKET_RECEIVED: a packet's end. -/
def execPacketReceived (x : Port) (k : Packet) (e : Arrival) (s : State) : Host.Outcome State Fault Refusal :=
  act s (packetReceived (portNo x) k e.ended e.ago.toNat)

end Sys2Proof.Machine
end

