-- ==== Sys2Proof/Machine/Store.lean ====
section
/-! DEFINITION. The non-volatile store: its map and wear, piece writes, and STORE.PIECE_CTRL (R481 to R485, R507). -/
namespace Sys2Proof.Machine

/-- The STORE page, and the areas of the logical store (R481). -/
def storePage : Nat := 0x2A
def logicalSectors : Nat := 1792
def firstUser : Nat := 80
def endurance : Nat := 100000

/-- States of the receive slot (R493). -/
def slotEmpty : Nat := 0
def slotReceiving : Nat := 1
def slotVerifying : Nat := 2
def slotReady : Nat := 3
def slotRejected : Nat := 4
def slotActivating : Nat := 5
def slotChecking : Nat := 6

namespace State

/-- The physical sector of a logical sector (R481). -/
def physOf (s : State) (l : Nat) : Nat := Table.get id s.store.map l

/-- The write counter of a physical sector (R482). -/
def writesOf (s : State) (p : Nat) : Nat := Table.get (fun _ => 0) s.store.writes p

/-- A physical sector is read-only (R483). -/
def readOnly (s : State) (p : Nat) : Bool := decide (endurance ≤ s.writesOf p)

/-- A byte of the logical store. -/
def storeByte (s : State) (a : Nat) : Byte := Table.get (fun _ => 0) s.store.bytes (65536 * s.physOf (a / 65536) + a % 65536)

/-- Six bytes of the logical store as a word. -/
def storeWord (s : State) (a : Nat) : Word := bytesWord ((List.range 6).map fun k => s.storeByte (a + k))

def slot (s : State) : Nat := s.get Fld.UPDATE_STATUS_SLOT
def putSlot (s : State) (v : Nat) : State := s.set Fld.UPDATE_STATUS_SLOT v

/-- The slot's state is recorded in SYSTEM; a byte of the slot's image in its reserved sectors (R492). -/
def imageByteStored (s : State) (a : Nat) : Byte := Table.get (fun _ => 0) s.store.bytes (65536 * s.store.reserved.getD (a / 65536) 0 + a % 65536)

end State

/-- The counts of STORE.STATUS follow the pool (R507). -/
def poolSync (s : State) : State :=
  ((s.set Fld.STORE_STATUS_POOL_FREE s.store.pool.length).set Fld.STORE_STATUS_RESERVED s.store.reserved.length).set
    Fld.STORE_STATUS_RETIRED s.store.retired.length

/-- `n` writes are counted on a physical sector; at 100,000 it becomes read-only (R482, R483). -/
def countWrites (p n : Nat) (s : State) : State :=
  let was := s.readOnly p
  let s := { s with store := { s.store with writes := Table.put (fun _ => 0) s.store.writes p (s.writesOf p + n) } }
  if !was && s.readOnly p then s.raise Fld.STORE_EVENTS_READ_ONLY else s

/-- The pool sector with the fewest writes; of equals the lowest. -/
def bestPool (s : State) : Option Nat :=
  match s.store.pool with
  | [] => none
  | p :: r => some (r.foldl (fun b q => if s.writesOf q < s.writesOf b ∨ (s.writesOf q = s.writesOf b ∧ q < b) then q else b) p)

/-- A pool sector leaves the pool. -/
def leavePool (p : Nat) (s : State) : State := poolSync { s with store := { s.store with pool := s.store.pool.filter fun q => !(q == p) } }

/-- The bytes of a physical sector are copied to another. -/
def copySector (old new : Nat) (s : State) : State :=
  { s with store := { s.store with
    bytes := (List.range 65536).foldl (fun t k =>
      Table.put (fun _ => 0) t (65536 * new + k) (Table.get (fun _ => 0) s.store.bytes (65536 * old + k))) s.store.bytes } }

/-- A worn physical sector is replaced by a pool sector: its pieces are copied, but for the one being written, and it is retired (R483).
The result is none where no pool sector is free (R484). -/
def moveSector (old : Nat) (s : State) : Option (Nat × State) :=
  match bestPool s with
  | none => none
  | some new =>
    let s := countWrites new 15 (copySector old new (leavePool new s))
    let s := { s with store := { s.store with
      map := (s.store.map.filter fun e => !(e.2 == old))
      reserved := s.store.reserved.map fun p => if p = old then new else p
      retired := old :: s.store.retired } }
    some (new, (poolSync s).raise Fld.STORE_EVENTS_SPARE_USED)

/-- As `moveSector`, for the sector of logical sector `l`. -/
def moveLogical (l : Nat) (s : State) : Option (Nat × State) :=
  match moveSector (s.physOf l) s with
  | none => none
  | some (new, t) => some (new, { t with store := { t.store with map := Table.put id s.store.map l new } })

/-- The 4,096 bytes of a piece packed in 683 words (R490). -/
def pieceBytes (ws : List Word) : List Byte := ((wordBytes (ws.getD 0 0)).drop 2) ++ (((List.range 682).map fun k => ws.getD (k + 1) 0).flatMap wordBytes)

/-- 4,096 bytes packed in 683 words; [47:32] of the first reads 0. -/
def packPiece (bs : List Byte) : List Word :=
  bytesWord (0 :: 0 :: bs.take 4) :: (List.range 682).map fun k => bytesWord ((bs.drop (4 + 6 * k)).take 6)

/-- A piece is programmed in a physical sector (R482). -/
def programPiece (p piece : Nat) (ws : List Word) (s : State) : State :=
  let s := { s with store := { s.store with bytes := Table.putList (fun _ => 0) s.store.bytes (65536 * p + 4096 * piece) (pieceBytes ws) } }
  countWrites p 1 s

/-- A piece is written in logical sector `l`, which moves when its sector is worn; the result says where, none for WORN (R482 to R484). -/
def writeLogical (l piece : Nat) (ws : List Word) (s : State) : Option (Nat × State) :=
  if s.readOnly (s.physOf l) then
    match moveLogical l s with
    | none => none
    | some (p, t) => some (p, programPiece p piece ws t)
  else some (s.physOf l, programPiece (s.physOf l) piece ws s)

/-- A piece is written in image sector `i` of the receive slot. -/
def writeReserved (i piece : Nat) (ws : List Word) (s : State) : Option (Nat × State) :=
  let p := s.store.reserved.getD i 0
  if s.readOnly p then
    match moveSector p s with
    | none => none
    | some (q, t) => some (q, programPiece q piece ws t)
  else some (p, programPiece p piece ws s)

/-- A record of the SYSTEM area is written: one write of its sector, which moves when it is worn (R482 to R484). -/
def systemWrite (record : Nat) (s : State) : State :=
  let l := (Config.systemSector record).val
  if s.readOnly (s.physOf l) then
    match moveLogical l s with
    | none => s.raise Fld.STORE_EVENTS_WORN
    | some (p, t) => countWrites p 1 t
  else countWrites (s.physOf l) 1 s

/-! ### STORE.PIECE_CTRL (R485) -/

/-- `n` fresh free values. -/
def State.freshRun (s : State) (n : Nat) : List Word × State :=
  ((List.range n).map fun k => Config.freeValue (s.freeCount + k), { s with freeCount := s.freeCount + n })

/-- The piece of a logical sector as STORE.PIECE_CTRL reads it (R485): a SYSTEM sector reads 0, and no value is stated past the last sector. -/
def readPiece (l piece : Nat) (s : State) : List Word × State :=
  if l < 16 then (List.replicate 683 0, s)
  else if l < logicalSectors then (packPiece ((List.range 4096).map fun k => s.storeByte (65536 * l + 4096 * piece + k)), s)
  else s.freshRun 683

/-- GO of STORE.PIECE_CTRL (R71, R485). -/
def pieceCtrl (s : State) : State :=
  let l := s.get Fld.STORE_PIECE_CTRL_SECTOR
  let k := s.get Fld.STORE_PIECE_CTRL_PIECE
  if opActive s storePage then opRefused s storePage
  else if s.flag Fld.STORE_PIECE_CTRL_WRITE then
    if l < firstUser ∨ logicalSectors ≤ l ∨ s.slot = slotActivating then s.raise Fld.STORE_EVENTS_AREA_REFUSED
    else
      let data := (List.range 683).map fun i => Table.get (fun _ => 0) s.store.buffer i
      opStart { s with store := { s.store with jobs := s.store.jobs ++ [⟨true, l, k, data, none⟩] } } storePage 1 |> fun s => s.set ⟨storePage * 256 + 5, 0, 32⟩ k
  else
    let r := readPiece l k s
    let s := r.2
    { s with store := { s.store with buffer := Table.putList (fun _ => 0) [] 0 r.1 } }.raise Fld.STORE_EVENTS_DONE

/-- A write of STORE.PIECE_CTRL. -/
def writePieceCtrl (v : Word) (s : State) : State :=
  let s := s.putWord Reg.STORE_PIECE_CTRL v
  if bitAt v 0 then pieceCtrl s else s

/-- A write of an entry of the STORE piece buffer: [47:32] of entry 0 reads 0 (R507). -/
def writeStoreBuf (i : Nat) (v : Word) (s : State) : State :=
  { s with store := { s.store with buffer := Table.put (fun _ => 0) s.store.buffer i (if i = 0 then withBits v 32 16 0 else v) } }

/-- The read-back of a piece write differs: the sector's self-test begins (R556). -/
def checkReadBack (ok : Bool) (p piece : Nat) (s : State) : State := if ok then s else startTest s kindStoreSector (objSector p piece)

/-- The piece write of STORE.PIECE_CTRL at the head of the store's work completes (R482 to R484). -/
def ctrlWriteDone (j : StoreJob) (ok : Bool) (s : State) : State :=
  match writeLogical j.sector j.piece j.data s with
  | none => (opStop s storePage).raise Fld.STORE_EVENTS_WORN
  | some (p, t) => (checkReadBack ok p j.piece (opDone t storePage j.piece)).raise Fld.STORE_EVENTS_DONE

/-- STORE window tables 0x02 and 0x03 (R507). -/
def sectorEntry (s : State) (p : Nat) : Word :=
  let l := (List.range logicalSectors).find? fun l => s.physOf l == p
  let st := if p ∈ s.store.retired then 3 else if p ∈ s.store.reserved then 2 else if l.isSome then 1 else 0
  packWord [(46, 2, st), (45, 1, b2n (s.readOnly p)), (34, 11, l.getD 0x7FF), (17, 17, s.writesOf p)]
def mapEntry (s : State) (l : Nat) : Word := packWord [(37, 11, s.physOf l)]

/-- PIECE_CTRL_GO: a write of STORE.PIECE_CTRL. -/
def execPieceCtrlGo (p : Path) (v : Word) (s : State) : Host.Outcome State Fault Refusal := access s (regWrite p Reg.STORE_PIECE_CTRL writePieceCtrl v)

end Sys2Proof.Machine
end

