-- ==== Sys2Proof/Machine/Strings.lean ====
section
/-! DEFINITION. Lamp strings: patterns, current, steering of the supply, samples, faults, starting and stopping (R203 to R226). -/
namespace Sys2Proof.Machine

/-- The phase, state and copies of a string (R223, R225). -/
def putString (n st : Nat) (s : State) : State :=
  let s := s.set (Fld.STRING_STAT_STATE n) st
  s.set ⟨Reg.STRING_STATUS, 2 * n, 2⟩ st

/-- The current code that a string's current moves to: 0 when stopping or going dark, else IREF in force (R209, R222 to R224). -/
def stringGoal (s : State) (n : Nat) : Nat :=
  if s.strState n = grpOn ∧ (s.str n).phase = .none ∧ s.flag (Fld.STRING_STAT_DARK n) = false then s.inForce (Fld.STRING_CTRL_IREF n) else 0

/-- The next current step of a string is RAMP_STEP tck from now. -/
def nextStep (n : Nat) (s : State) : State := s.modStr n fun x => { x with due := s.now + s.get (Fld.STRING_X_SEQ_RAMP_STEP n) }

/-! ### Patterns (R203 to R206, R219) -/

/-- Lamps that are dark in every pattern for a clamp (R219). -/
def clamped (s : State) (n : Nat) : Nat := s.get (Fld.STRING_STAT_FAILED n) ||| (s.str n).returning

/-- The pattern of plane `b` in the frame now lit (R226). -/
def litPlane (s : State) (n b : Nat) : Nat := litPattern s n b &&& (65535 - clamped s n)

/-- The pattern that the shunt switches of a string follow now: bit k set, lamp k open (R203, R205, R206). -/
def patternNow (s : State) (n : Nat) : Nat :=
  if (s.str n).lit then
    match (s.str n).held with
    | some h => h.1 &&& (65535 - clamped s n)
    | none => match (s.str n).plane with | none => 0 | some b => litPlane s n b
  else 0

/-- A lamp table entry (R226). -/
def lampDefault : Nat → Word := fun _ => 0x000800000000
def State.lampEntry (s : State) (i : Nat) : Word := Table.get lampDefault s.lamps.table i

/-- The fitted lamps of a string as a mask (R203). -/
def fitted (s : State) (n : Nat) : Nat := (List.range 16).foldl (fun a k => a + b2n (bitAt (s.lampEntry (16 * n + k)) 47) * 2 ^ k) 0

/-- The number of lamps in a mask. -/
def lampCount (m : Nat) : Nat := (List.range 16).foldl (fun a k => a + b2n (m.testBit k)) 0

/-- VF of a lamp in units of 50 mV (R217). -/
def lampVf (s : State) (n k : Nat) : Nat := bitsOf (s.lampEntry (16 * n + k)) 10 8

/-! ### Steering (R214, R215) -/

/-- I_ff of a pattern for the settings as written, which the freeze point takes (R214): V_need in mV × RSNS over K × RSNS, rounded up. -/
def feedForward (s : State) (n pattern : Nat) : Nat :=
  let iref := s.get (Fld.STRING_CTRL_IREF n)
  let rs := max 1 (s.get (Fld.STRING_CTRL_RSNS n))
  let k := s.get (Fld.STRING_SUP_K n)
  let lit := pattern &&& fitted s n
  let vf := (List.range 16).foldl (fun a j => a + b2n (lit.testBit j) * lampVf s n j) 0
  let closed := lampCount (fitted s n) - lampCount lit
  let need := (50 * vf + 2 * iref + hmarginMv (s.get (Fld.STRING_X_SEQ_HMARGIN n))) * rs + closed * 120 * iref
  if k = 0 then 0 else ceilDiv (need - 50 * s.get (Fld.STRING_SUP_VLOW n) * rs) (k * rs)

/-- I_ff of the planes of the frame now lit. -/
def litFfs (s : State) (n : Nat) : List Nat := if s.flag Fld.LEDGER_STATUS_SAG_PLAN then (s.str n).litFfSag else (s.str n).litFf

/-- I_ff of the pattern in force: of the plane in force, or of the pattern held (R206, R215). -/
def ffNow (s : State) (n : Nat) : Nat :=
  match (s.str n).held with
  | some h => h.2
  | none => match (s.str n).plane with | none => 0 | some b => (litFfs s n).getD b 0

/-- The supply state is SAG or RECOVERING. -/
def sagging (s : State) : Bool := decide (s.get Fld.LEDGER_STATUS_SUP_STATE ≠ 0)

/-- A swap is in the sets that the coming commit clock applies: the armed set when it is due, which the local sets wait behind, else the frozen
local ones (R25, R312). A bank that was not PASSED at the freeze point is not swapped in (R117). -/
def swapComes (s : State) : Bool :=
  s.commit.combOk && (if s.commit.hiveDue then s.hive.arming.swap else s.commit.sets.any fun t => t.frozen && t.swap)

/-- The bank that lights the coming frame: the shadow bank when a swap is in the frozen sets (R312). -/
def planBank (s : State) : Nat := if swapComes s then s.shadowBank else s.activeBank

/-- The cells of this frame that are to come, and the tck until the first of them begins, or until the next frame begins where none is. -/
def restCells (s : State) : List (Word × Nat) × Nat :=
  if s.runState = combRunning ∧ s.comb.frameEnded = false then
    let cells := timedCells s s.activeBank
    let i := s.get Fld.COMB_STATUS_CUR_CELL
    (cells.drop (i + 1), s.comb.cellStart + ((cells.drop i).headD (0, 0)).2 - s.now)
  else ([], if s.runState = combAligning then s.toGrid (s.period s.activeBank) else 0)

/-- The cells of the coming frame with I_ff and plane count of a string in it: from the freeze point on as planned, before it as in the frame now
lit; none in STANDBY (R215, R312). DESIGN CHOICE: the manual gives no I_ff of the coming frame before its freeze point. -/
def comingFrame (s : State) (n : Nat) : List (Word × Nat) × List Nat × Nat :=
  if s.inStandby then ([], [], 0)
  else if s.commit.frozen then
    (timedCells s (planBank s), if sagging s then (s.str n).nextFfSag else (s.str n).nextFf, s.atFreeze (Fld.STRING_CTRL_PLANES n))
  else (timedCells s s.activeBank, litFfs s n, s.inForce (Fld.STRING_CTRL_PLANES n))

/-- I_ff of the planes of a string whose cells begin within `horizon` tck, in a list of timed cells the first of which begins in `t` tck (R215). -/
def ffWithin (n horizon : Nat) (ff : List Nat) : List (Word × Nat) → Nat → List Nat
  | [], _ => []
  | (w, len) :: r, t =>
    if horizon < t then []
    else
      let rest := ffWithin n horizon ff r (t + len)
      if cellType w (4 + n) = slotString then (match ff[cellPlane w]? with | some f => f :: rest | none => rest) else rest

/-- The length of a list of timed cells. -/
def cellsLen (cells : List (Word × Nat)) : Nat := cells.foldl (fun a c => a + c.2) 0

/-- I_H clamped from a feed-forward value: min(HMAX, max(0, TRIM + I)) with HMAX at most 200 (R215). -/
def clampIh (s : State) (n ff : Nat) : Nat :=
  (min (min 200 (s.get (Fld.STRING_SUP_HMAX n)) : Int) (max 0 (s.getInt (Fld.STRING_STAT_TRIM n) + (ff : Int)))).toNat

/-- I_H that the device drives in a lit or ramping string (R215). -/
def steeredIh (s : State) (n : Nat) : Nat :=
  let horizon := 16 * s.get (Fld.STRING_X_SEQ_LEAD n)
  let rest := restCells s
  let next := comingFrame s n
  clampIh s n ((ffWithin n horizon (litFfs s n) rest.1 rest.2 ++ ffWithin n horizon next.2.1 next.1 (rest.2 + cellsLen rest.1)).foldl max (ffNow s n))

/-- The string is steered by its patterns: current flows or starts; else I_H is held, falls in RELEASE, or is 0 (R215, R223, R224). -/
def isSteered (s : State) (n : Nat) : Bool := decide (s.strState n ≠ grpOff) && !s.flag (Fld.STRING_STAT_SAFE n)

/-- I_H now driven, in µA (R215, R225). -/
def ihNow (s : State) (n : Nat) : Nat := if isSteered s n then steeredIh s n else s.get (Fld.STRING_STAT_IH_NOW n)

/-- STRING.STATn with I_H as driven now (R225). -/
def stringStat (s : State) (n : Nat) : Word := withBits (s.reg (⟨Fld.STRING_STAT_STATE n |>.reg, 0, 48⟩ : Field).reg) 24 8 (ihNow s n)

/-! ### Energy (R218, R325) -/

/-- SUPPLY of `len` tck of a pattern of string `n` at I_H = `ih`, and the HEAT of `closed` shunts, in units of 1 ÷ 30,720,000 µJ (R218); `val` gives
the settings. -/
def holdEnergy (val : Field → Nat) (n ih closed len : Nat) : Int × Int :=
  let iref := val (Fld.STRING_CTRL_IREF n)
  let rs := max 1 (val (Fld.STRING_CTRL_RSNS n))
  let mv := 50 * val (Fld.STRING_SUP_VLOW n) + val (Fld.STRING_SUP_K n) * ih
  (((mv * iref * len * 32 / rs : Nat) : Int), ((closed * 3840 * iref * iref * len / (rs * rs) : Nat) : Int))

/-- HEAT of the regulator of string `n` over `len` tck, from the mean of V(STRn_L00) (R218). -/
def regulatorHeat (s : State) (val : Field → Nat) (n len : Nat) : Int :=
  let iref := val (Fld.STRING_CTRL_IREF n)
  let mv : Int := 10 * (s.get (Fld.STRING_MEAS_VL00_MEAN n) : Int) - 2 * (iref : Int)
  floorDiv (mv * (iref * len * 32 : Nat)) (max 1 (val (Fld.STRING_CTRL_RSNS n)))

/-- The fitted lamps of a string that a pattern leaves closed. -/
def closedLamps (s : State) (n pattern : Nat) : Nat := lampCount (fitted s n) - lampCount (pattern &&& fitted s n)

/-- The energy of a string is accounted up to this tck, while it is ON and lit by its patterns; nothing in STANDBY (R218, R325). -/
def countString (n : Nat) (s : State) : State :=
  let len := s.now - (s.str n).countedTo
  let t := s.modStr n fun x => { x with countedTo := s.now }
  if s.strState n = grpOn ∧ s.flag (Fld.STRING_STAT_DARK n) = false ∧ s.inStandby = false then
    let t := t.modStr n fun x => { x with onTck := x.onTck + len }
    if (s.str n).plane.isSome then
      let e := holdEnergy s.inForce n (clampIh s n (ffNow s n)) (closedLamps s n (patternNow s n)) len
      addEnergy e.1 e.2 t
    else t
  else t

/-! ### Starting and stopping (R221 to R224) -/

/-- A string reaches OFF (R223). -/
def stringOff (n : Nat) (s : State) : State :=
  ((putString n grpOff s).set (Fld.STRING_STAT_IH_NOW n) 0).modStr n (fun x => { x with phase := .none }) |>.raise (Fld.STRING_EVENTS_STOPPED n)

/-- RELEASE begins, or goes on from the present I_H (R223). -/
def startRelease (n : Nat) (s : State) : State :=
  if s.get (Fld.STRING_STAT_IH_NOW n) = 0 then stringOff n (putString n grpStopping s)
  else (putString n grpStopping s).modStr n fun x =>
    { x with phase := .discharge, due := s.now + 256 * s.get (Fld.STRING_X_SEQ_RELEASE_STEP n) }

/-- The current has reached 0: every shunt closes and I_H is held (R223, R224). -/
def stringSafe (n : Nat) (s : State) : State :=
  let ih := ihNow s n
  let s := ((s.set (Fld.STRING_STAT_IREF_NOW n) 0).set (Fld.STRING_STAT_SAFE n) 1).set (Fld.STRING_STAT_IH_NOW n) ih
  let s := (s.set (Fld.STRING_STAT_RAMPING n) 0).modStr n fun x => { x with phase := .none, lit := false, plane := none, held := none, passDone := false }
  if s.strState n = grpStopping then startRelease n s
  else if s.strState n = grpOn then s.set (Fld.STRING_STAT_DARK n) 1
  else s

/-- The current of a string begins to fall to 0 (R223, R224). -/
def stringRamp (n : Nat) (s : State) : State :=
  if s.get (Fld.STRING_STAT_IREF_NOW n) = 0 then stringSafe n s
  else nextStep n ((s.set (Fld.STRING_STAT_RAMPING n) 0).modStr n fun x => { x with phase := .ramp })

/-- A string that is ON begins to stop; one that is dark in STANDBY is at its safe point already (R223, R224). -/
def stopString (n : Nat) (s : State) : State :=
  let s := countString n s
  if s.flag (Fld.STRING_STAT_DARK n) then startRelease n (s.set (Fld.STRING_STAT_DARK n) 0) else stringRamp n (putString n grpStopping s)

/-- A pending restart is cancelled (R223). -/
def cancelString (n : Nat) (s : State) : State :=
  let s := (putString n grpStopping s).set (Fld.STRING_STAT_START_PENDING n) 0
  if s.flag (Fld.STRING_STAT_SAFE n) then startRelease n s else s

/-- ENABLE written 1 (R221, R223). -/
def enableString (n : Nat) (s : State) : State :=
  let s := s.set (Fld.STRING_CTRL_ENABLE n) 1
  if s.strState n = grpOff then gatesOn gateStrings (s.set (Fld.STRING_STAT_START_PENDING n) 1)
  else if s.strState n = grpStopping then
    let s := (putString n grpRestart s).set (Fld.STRING_STAT_START_PENDING n) 1
    if s.flag (Fld.STRING_STAT_SAFE n) then s.modStr n fun x => { x with phase := .none } else s
  else s

/-- ENABLE written 0 (R223). -/
def disableString (n : Nat) (s : State) : State :=
  let s := s.set (Fld.STRING_CTRL_ENABLE n) 0
  if s.strState n = grpOff then s.set (Fld.STRING_STAT_START_PENDING n) 0
  else if s.strState n = grpOn then stopString n s
  else if s.strState n = grpRestart then cancelString n s
  else s

/-- IREF and RSNS give a current from 10 mA to 350 mA (R208). -/
def currentOk (iref rsns : Nat) : Bool := decide (10 * rsns ≤ 200 * iref ∧ 200 * iref ≤ 350 * rsns)

/-- The cause that refuses a string's enable (R221); STRn_TOP in units of 62.5 mV. -/
def stringCause (s : State) (n : Nat) : Nat :=
  if currentOk (s.inForce (Fld.STRING_CTRL_IREF n)) (s.inForce (Fld.STRING_CTRL_RSNS n)) = false then 1
  else if s.get (Fld.STRING_MEAS_VTOP n) < 72 then 2
  else 0

/-- The start ramp begins (R222). -/
def startRamp (n : Nat) (s : State) : State :=
  let s := (((countString n s).set (Fld.STRING_STAT_RAMPING n) 1).set (Fld.STRING_STAT_DARK n) 0).set (Fld.STRING_STAT_SAFE n) 0
  nextStep n (s.modStr n fun x => { x with phase := .none, lit := false, plane := none, held := none, passDone := false })

/-- A string becomes ON (R222, R223); in STANDBY it waits dark (R224). -/
def stringBecomesOn (n : Nat) (s : State) : State :=
  let again := decide (s.strState n = grpRestart)
  let s := (putString n grpOn (countString n s)).set (Fld.STRING_STAT_START_PENDING n) 0
  let s := { s with lamps := { s.lamps with fade := s.lamps.fade.filter fun e => !(e.1 / 16 == n) } }
  let s := if again then s.raise (Fld.STRING_EVENTS_RESTARTED n) else s.setInt (Fld.STRING_STAT_TRIM n) 0
  if s.inStandby then s.set (Fld.STRING_STAT_DARK n) 1 else startRamp n s

/-- The enable is refused (R221, R223). -/
def refuseString (n cause : Nat) (s : State) : State :=
  let s := ((s.set (Fld.STRING_STAT_START_PENDING n) 0).set (Fld.STRING_CTRL_ENABLE n) 0).set (Fld.STRING_STAT_REFUSE_CAUSE n) cause
  let s := s.raise (Fld.STRING_EVENTS_ENABLE_REFUSED n)
  if s.strState n = grpRestart then startRelease n s else s

/-- The pending enable of a string takes effect or is refused (R221). -/
def takeString (n : Nat) (s : State) : State :=
  if s.flag (Fld.STRING_STAT_START_PENDING n) &&
      (decide (s.strState n = grpOff) || (decide (s.strState n = grpRestart) && s.flag (Fld.STRING_STAT_SAFE n))) then
    let c := stringCause s n
    if c = 0 then stringBecomesOn n s else refuseString n c s
  else s

/-- One step of a string's current (R209, R222, R223). -/
def stringStep (n : Nat) (s : State) : State :=
  let cur := s.get (Fld.STRING_STAT_IREF_NOW n)
  let goal := stringGoal s n
  if s.strState n = grpOff ∨ cur = goal then s
  else
    let s := s.elapseTo (s.str n).due
    let v := if cur < goal then cur + 1 else cur - 1
    let s := nextStep n (s.set (Fld.STRING_STAT_IREF_NOW n) v)
    if v = 0 then stringSafe n s
    else if v = goal then s.set (Fld.STRING_STAT_RAMPING n) 0
    else s

/-- One µA of RELEASE (R223). -/
def releaseStep (n : Nat) (s : State) : State :=
  if (s.str n).phase = .discharge then
    let s := s.elapseTo (s.str n).due
    let v := s.get (Fld.STRING_STAT_IH_NOW n) - 1
    let s := (s.set (Fld.STRING_STAT_IH_NOW n) v).modStr n fun x => { x with due := s.now + 256 * s.get (Fld.STRING_X_SEQ_RELEASE_STEP n) }
    if v = 0 then stringOff n s else s
  else s

/-- STANDBY is entered: ON strings ramp to dark (R224). -/
def stringsDark (s : State) : State :=
  s.forEach 4 fun n s => if s.strState n = grpOn ∧ s.flag (Fld.STRING_STAT_DARK n) = false then stringRamp n s else s

/-- STANDBY is left: ON strings run the start ramp (R224). -/
def stringsLight (s : State) : State := s.forEach 4 fun n s => if s.strState n = grpOn then startRamp n s else s

/-! ### Samples and measurements (R216, R217, R225) -/

/-- The tck until the first cell that changes a string's plane, in a list of timed cells the first of which begins in `t` tck (R205, R206). -/
def nextPlane (n planes : Nat) : List (Word × Nat) → Nat → Option Nat
  | [], _ => none
  | (w, len) :: r, t => if cellType w (4 + n) = slotString ∧ cellPlane w < planes then some t else nextPlane n planes r (t + len)

/-- Tck from the start of the plane in force to the next STRING cell of the string, and from now to that cell (R205). -/
def planeHold (s : State) (n : Nat) : Option (Nat × Nat) :=
  let rest := restCells s
  let next := comingFrame s n
  let t := match nextPlane n (s.inForce (Fld.STRING_CTRL_PLANES n)) rest.1 rest.2 with
    | some t => some t
    | none => nextPlane n next.2.2 next.1 (rest.2 + cellsLen rest.1)
  t.map fun t => (s.now + t - (s.str n).planeStart, t)

/-- One lamp's sample in mV (R217): `k` is the lamp. -/
def sampleLamp (n k mv : Nat) (s : State) : State :=
  let i := 16 * n + k
  let vf := lampVf s n k
  let u := min 255 (ceilDiv mv 50)
  let x := s.str n
  let v := if vf < u then u else if u < vf ∧ x.fellNow.testBit k = false then vf - 1 else vf
  let t := { s with lamps := { s.lamps with table := Table.put lampDefault s.lamps.table i (withBits (s.lampEntry i) 10 8 v) } }
  let t := t.modStr n fun x => { x with fellNow := if u < vf then x.fellNow ||| 2 ^ k else x.fellNow }
  if mv < 1000 then
    let t := t.modStr n fun x => { x with shortNow := x.shortNow ||| 2 ^ k }
    if 2 ≤ Table.get (fun _ => 0) x.shortRun k then
      (t.set (Fld.STRING_MEAS_SHORT n) (t.get (Fld.STRING_MEAS_SHORT n) ||| 2 ^ k)).raise (Fld.STRING_EVENTS_LAMP_SHORT n)
    else t
  else t

/-- The sample of V(STRn_L00) in a plane (R216, R225): `hold` is the length of the plane's hold. -/
def sampleL00 (n hold mv : Nat) (s : State) : State :=
  let goal := 2 * s.inForce (Fld.STRING_CTRL_IREF n) + hmarginMv (s.inForce (Fld.STRING_X_SEQ_HMARGIN n))
  let steered := decide (0 < ffNow s n)
  s.modStr n fun x => { x with
    vl00Sum := x.vl00Sum + mv * hold, vl00Time := x.vl00Time + hold
    minNow := if steered then min x.minNow (min 1023 (mv / 10)) else x.minNow
    sawSteered := x.sawSteered || steered
    sawLow := x.sawLow || (steered && decide (mv + 100 < goal))
    sawNotHigh := x.sawNotHigh || (steered && decide (mv ≤ goal + 500)) }

/-- The samples of the plane in force, 64 tck before its hold ends: V(STRn_L00) and each open fitted lamp's voltage, in mV (R216, R217). They are
taken while the patterns stay in force, in RAMP too (R223). -/
def lampSample (n mv : Nat) (lamps : List Nat) (s : State) : State :=
  match planeHold s n with
  | none => s
  | some (hold, left) =>
    if (s.str n).plane.isSome = true ∧ (s.str n).lit = true ∧ 128 ≤ hold then
      let s := s.elapse (left - 64)
      let lit := patternNow s n &&& fitted s n
      let s := sampleL00 n hold mv s
      s.forEach 16 fun k s => if lit.testBit k then sampleLamp n k (lamps.getD k 0) s else s
    else s

/-- TRIM at a commit clock (R216). -/
def updateTrim (n : Nat) (s : State) : State :=
  let x := s.str n
  let t := s.getInt (Fld.STRING_STAT_TRIM n)
  let v : Int := if x.sawLow then t + (s.get (Fld.STRING_X_SEQ_HUP n) : Int)
    else if x.sawSteered && !x.sawNotHigh then t - (s.get (Fld.STRING_X_SEQ_HDOWN n) : Int)
    else t
  s.setInt (Fld.STRING_STAT_TRIM n) (clampInt (-32) 31 v)

/-- The mean of V(STRn_L00) in units of 10 mV (R225). A string that was ON without a sample has no stated mean: a free value. -/
def publishMean (n : Nat) (s : State) : State :=
  let x := s.str n
  if x.vl00Time ≠ 0 then s.set (Fld.STRING_MEAS_VL00_MEAN n) (min 1023 (x.vl00Sum / (10 * x.vl00Time)))
  else if x.onTck ≠ 0 then let f := s.fresh; f.2.set (Fld.STRING_MEAS_VL00_MEAN n) f.1.toNat
  else s

/-- A string's measurements over the frame just ended (R216, R217, R225). -/
def publishString (n : Nat) (s : State) : State :=
  let s := publishMean n (updateTrim n s)
  let s := s.set (Fld.STRING_MEAS_VL00_MIN n) (s.str n).minNow
  s.modStr n fun x => { x with
    sawLow := false, sawNotHigh := false, sawSteered := false, vl00Sum := 0, vl00Time := 0, minNow := 0x3FF, fellNow := 0, returning := 0
    shortNow := 0
    shortRun := ((List.range 16).filter fun k => x.shortNow.testBit k).map fun k => (k, Table.get (fun _ => 0) x.shortRun k + 1) }

/-- The STRING fields of a cell at its first tck (R100, R205, R206). -/
def stringFields (w : Word) (s : State) : State :=
  s.forEach 4 fun n s =>
    if cellType w (4 + n) = slotString ∧ cellPlane w < s.inForce (Fld.STRING_CTRL_PLANES n) then
      s.modStr n fun x => { x with plane := some (cellPlane w), planeStart := s.now, held := none }
    else s

/-- At a commit clock a string that has finished its start ramp is lit from a lamp pass's patterns (R222). -/
def lightString (n : Nat) (s : State) : State :=
  let x := s.str n
  if s.strState n = grpOn ∧ x.phase = .none ∧ s.flag (Fld.STRING_STAT_DARK n) = false ∧ s.flag (Fld.STRING_STAT_RAMPING n) = false ∧
      x.passDone = true ∧ x.lit = false then
    s.modStr n fun x => { x with lit := true, plane := none, held := none }
  else s

/-- After a bank swap, and where the plane in force leaves the plane count, the last pattern holds until the next STRING cell (R206): `before` is the
state in which it was driven. -/
def holdPattern (before : State) (n : Nat) (s : State) : State :=
  match (before.str n).plane with
  | none => s
  | some b =>
    if (before.str n).held = none ∧ (before.activeBank ≠ s.activeBank ∨ s.inForce (Fld.STRING_CTRL_PLANES n) ≤ b) then
      s.modStr n fun x => { x with held := some (litPattern before n b, ffNow before n) }
    else s

/-! ### Faults -/

/-- A shunt clamp acts (R219). -/
def lampOpen (n k : Nat) (s : State) : State :=
  let s := countString n s
  let s := (s.set (Fld.STRING_STAT_FAILED n) (s.get (Fld.STRING_STAT_FAILED n) ||| 2 ^ k)).raise (Fld.STRING_EVENTS_LAMP_OPEN n)
  faultLasting s kindLampOpen 1 (objLamp n k)

/-- The sense voltage has stayed low for 100 µs while current should flow (R220, R556): nothing is mapped out (R557). A string that stops already
goes on with its RAMP. -/
def stringOpenFault (n : Nat) (s : State) : State :=
  if s.get (Fld.STRING_STAT_IREF_NOW n) = 0 then s
  else
    let s := faultLasting ((s.set (Fld.STRING_CTRL_ENABLE n) 0).raise (Fld.STRING_EVENTS_STRING_OPEN n)) kindStringOpen 0 (objString n)
    if s.strState n = grpOn then stopString n s else if s.strState n = grpRestart then cancelString n s else s

/-- The regulator lacks its margin while current should flow (R210). -/
def stringHeadroom (n : Nat) (s : State) : State :=
  if s.get (Fld.STRING_STAT_IREF_NOW n) ≠ 0 then s.raise (Fld.STRING_EVENTS_HEADROOM n) else s

/-! ### Settings -/

/-- A plane count takes a value; the pass lapses when it changes (R114, R225). -/
def writeStringPlanes (n v : Nat) (s : State) : State :=
  if v = s.get (Fld.STRING_CTRL_PLANES n) then s else lapse (s.set (Fld.STRING_CTRL_PLANES n) v)

/-- IREF and RSNS take values together, or keep theirs with SET_REFUSED (R208, R324). -/
def writeCurrent (n iref rsns : Nat) (s : State) : State :=
  let t := (s.set (Fld.STRING_CTRL_IREF n) iref).set (Fld.STRING_CTRL_RSNS n) rsns
  if currentOk iref rsns && decide (50 ≤ rsns ∧ rsns ≤ 500) && guardOk t then t else s.raise (Fld.STRING_EVENTS_SET_REFUSED n)

/-- A write of STRING.CTRLn (R208, R223, R225). With PLANES 0 or above 10 it is ignored whole, as a write of FRAME.PLANES is (R157). -/
def writeStringCtrl (n : Nat) (v : Word) (s : State) : State :=
  if bitsOf v 26 4 = 0 ∨ 10 < bitsOf v 26 4 then s.raise Fld.FRAME_EVENTS_PLANES_RANGE
  else
    let s := writeStringPlanes n (bitsOf v 26 4) (writeCurrent n (bitsOf v 39 8) (bitsOf v 30 9) s)
    let s := s.set (Fld.STRING_CTRL_TSRC n) (bitsOf v 24 2)
    if bitAt v 47 then enableString n s else disableString n s

/-- VLOW and K take values together, or keep theirs (R324). -/
def writeSupply (n vlow k : Nat) (s : State) : State :=
  let t := (s.set (Fld.STRING_SUP_VLOW n) vlow).set (Fld.STRING_SUP_K n) k
  if guardOk t then t else s.raise (Fld.STRING_EVENTS_SET_REFUSED n)

/-- A write of STRING.SUPn (R324). -/
def writeStringSup (n : Nat) (v : Word) (s : State) : State :=
  writeSupply n (bitsOf v 38 10) (bitsOf v 28 10) (s.set (Fld.STRING_SUP_HMAX n) (bitsOf v 20 8))

/-- A write of HMARGIN (R324). -/
def writeHmargin (n v : Nat) (s : State) : State :=
  let t := s.set (Fld.STRING_X_SEQ_HMARGIN n) v
  if guardOk t then t else s.raise (Fld.STRING_EVENTS_SET_REFUSED n)

/-- A write of STRING.X_SEQn (R225, R324). -/
def writeXSeq (n : Nat) (v : Word) (s : State) : State :=
  let old := s.get (Fld.STRING_X_SEQ_HMARGIN n)
  writeHmargin n (bitsOf v 18 6) ((s.putWord (Fld.STRING_X_SEQ_RAMP_STEP n).reg v).set (Fld.STRING_X_SEQ_HMARGIN n) old)

/-- X_SEQn at its derived values, as a write of the expert register (R79, R225). DESIGN CHOICE: a derived HMARGIN that the guard of R324
refuses is refused here too, with SET_REFUSED, and HMARGIN keeps its value. -/
def rederiveStrings (s : State) : State :=
  s.forEach 4 fun n s => writeXSeq n (packWord [(44, 4, 4), (40, 4, 8), (32, 8, 0x40), (28, 4, 4), (24, 4, 1), (18, 6, 0x14)]) s

/-- A clear of FAILED bits: the lamps follow their patterns from the next commit clock (R219). -/
def clearFailed (n : Nat) (v : Word) (s : State) : State :=
  let m := bitsOf v 0 16 &&& s.get (Fld.STRING_STAT_FAILED n)
  (s.set (Fld.STRING_STAT_FAILED n) (s.get (Fld.STRING_STAT_FAILED n) &&& (65535 - m))).modStr n fun x => { x with returning := x.returning ||| m }

/-- A write of a lamp table entry (R217, R226). -/
def writeLamp (i : Nat) (v : Word) (s : State) : State :=
  { s with lamps := { s.lamps with table := Table.put lampDefault s.lamps.table i (withBits v 0 10 0) } }

/-- STRING window table 0x02: FAILED, class and E of a lamp in the frame now lit (R226). -/
def litCode (s : State) (i : Nat) : Word :=
  let e := litLamp s i
  packWord [(12, 1, b2n ((s.get (Fld.STRING_STAT_FAILED (i / 16))).testBit (i % 16))), (10, 2, e / 1024 % 4), (0, 10, e % 1024)]

/-! ### Commands -/

/-- STRING_ENABLE. -/
def execStringEnable (p : Path) (n : Fin 4) (s : State) : Host.Outcome State Fault Refusal :=
  access s (fieldWrite p (Fld.STRING_CTRL_ENABLE n).reg true (enableString n))

/-- STRING_DISABLE. -/
def execStringDisable (p : Path) (n : Fin 4) (s : State) : Host.Outcome State Fault Refusal :=
  access s (fieldWrite p (Fld.STRING_CTRL_ENABLE n).reg true (disableString n))

/-- STRING_CTRL_WRITE: IREF and RSNS. -/
def execStringCtrlWrite (p : Path) (n : Fin 4) (iref : BitVec 8) (rsns : BitVec 9) (s : State) : Host.Outcome State Fault Refusal :=
  access s (fieldWrite p (Fld.STRING_CTRL_ENABLE n).reg true (writeCurrent n iref.toNat rsns.toNat))

/-- STRING_SUP_WRITE: VLOW and K. -/
def execStringSupWrite (p : Path) (n : Fin 4) (vlow k : BitVec 10) (s : State) : Host.Outcome State Fault Refusal :=
  access s (fieldWrite p (Fld.STRING_SUP_K n).reg true (writeSupply n vlow.toNat k.toNat))

/-- HMARGIN_WRITE. -/
def execHmarginWrite (p : Path) (n : Fin 4) (v : BitVec 6) (s : State) : Host.Outcome State Fault Refusal :=
  access s (fieldWrite p (Fld.STRING_X_SEQ_HMARGIN n).reg false (writeHmargin n v.toNat))

/-- STRING_RAMP_TICK. -/
def execStringRampTick (n : Fin 4) (s : State) : Host.Outcome State Fault Refusal := act s (stringStep n)

/-- RELEASE_STEP. -/
def execReleaseStep (n : Fin 4) (s : State) : Host.Outcome State Fault Refusal := act s (releaseStep n)

/-- LAMP_OPEN. -/
def execLampOpen (n : Fin 4) (k : Fin 16) (s : State) : Host.Outcome State Fault Refusal := act s (lampOpen n k)

/-- STRING_OPEN. -/
def execStringOpen (n : Fin 4) (s : State) : Host.Outcome State Fault Refusal := act s (stringOpenFault n)

/-- STRING_HEADROOM. -/
def execStringHeadroom (n : Fin 4) (s : State) : Host.Outcome State Fault Refusal := act s (stringHeadroom n)

/-- LAMP_SAMPLE: V(STRn_L00) and the voltage of each lamp, in mV. -/
def execLampSample (n : Fin 4) (mv : Nat) (lamps : List Nat) (s : State) : Host.Outcome State Fault Refusal := act s (lampSample n mv lamps)

end Sys2Proof.Machine
end

