-- ==== Sys2Proof/Machine/Hold.lean ====
section
/-! DEFINITION. Blocks that stop at once, the entry to HOLD, and the end of a post-activation check (R61, R176, R191, R223, R353, R409,
R499, R504). -/
namespace Sys2Proof.Machine

/-- A string is OFF at once: zero current, shunts closed, I_H 0 (R223). -/
def stringOffNow (n : Nat) (s : State) : State :=
  let s := ((putString n grpOff s).set (Fld.STRING_STAT_IREF_NOW n) 0).set (Fld.STRING_STAT_IH_NOW n) 0
  let s := ((s.set (Fld.STRING_STAT_SAFE n) 1).set (Fld.STRING_STAT_RAMPING n) 0).set (Fld.STRING_STAT_DARK n) 0
  (s.set (Fld.STRING_STAT_START_PENDING n) 0).modStr n fun x => { x with phase := .none, plane := none, held := none, lit := false, passDone := false }

/-- Every group, every string and the bias generator. -/
def driveOffNow (s : State) : State := biasOffNow ((s.forEach 8 groupOffNow).forEach 4 stringOffNow)

/-- A clock source takes over from the ring without the tests of R406 (R409). -/
def holdSource (s : State) : State :=
  if s.onRing then
    if s.flag Fld.CLOCK_STATUS_XTAL_READY then ((s.set Fld.CLOCK_STATUS_CUR_SRC 0).set Fld.CLOCK_BASIC_SRC 0).raise Fld.CLOCK_EVENTS_SWITCHED
    else if s.flag Fld.CLOCK_STATUS_REFIN_READY then ((s.set Fld.CLOCK_STATUS_CUR_SRC 1).set Fld.CLOCK_BASIC_SRC 1).raise Fld.CLOCK_EVENTS_SWITCHED
    else s
  else s

/-- The HOLD record (R504). -/
def holdRecord (cause image : Nat) (s : State) : State :=
  systemWrite 4 (s.setReg Reg.UPDATE_HOLD (packWord [(47, 1, 1), (46, 1, 1), (43, 3, cause), (11, 32, image)]))

/-- The effects of HOLD on the part; the fabric stays in reset until the next device reset (R504). -/
def holdEffects (s : State) : State :=
  let s := uncontrolledClose (driveOffNow s)
  let s := holdFabric s
  let s := { s with
    fabric := { s.fabric with releaseAt := none }
    clock := { s.clock with switchTo := none }
    klock := { s.klock with actions := [], panelUntil := none } }
  ((holdSource s).set Fld.CLOCK_POWER_STATE powerHold).raise Fld.CLOCK_EVENTS_POWER_CHANGED

/-- The device enters HOLD (R504); the slot of a failed check is empty. -/
def enterHold (cause image : Nat) (s : State) : State :=
  let s := if s.slot = slotChecking then s.putSlot slotEmpty else s
  holdEffects (holdRecord cause image s)

/-- IMAGE_ID of the slot's image. -/
def slotImage (s : State) : Nat := s.get Fld.UPDATE_IMAGE_IMAGE_ID

/-- A post-activation check passes: the slot is EMPTY and the activation reported (R493, R501). -/
def activated (s : State) : State :=
  let s := (s.putSlot slotEmpty).set Fld.UPDATE_STATUS_ACTIVATED 1
  opDone (s.raise Fld.UPDATE_EVENTS_ACTIVATED) 0x2B ((s.now - s.update.checkStart.getD s.now) / 1920000)

/-- The post-activation check of a station-class image passes when every STREAM load has ended with LOAD_DONE, its context is VERIFIED,
and ACCEPT has been written where the image asks for it, all within CHECK_TIME (R499); a KEY image has no CHECK_TIME. -/
def checkPass (s : State) : State :=
  let inTime := decide (s.update.checkTime = 0 ∨ s.now ≤ s.update.checkStart.getD s.now + 1920000 * s.update.checkTime)
  let loadsDone := s.update.toLoad.isEmpty && !s.update.loadFailed && (match s.config.load with | none => true | some l => !l.forActivation)
  let ok := s.update.streams.all fun e => decide (s.ctxState e.1 = ctxVerified)
  if s.slot = slotChecking ∧ s.update.marker = false ∧ s.update.checkStart.isSome ∧ inTime = true ∧ loadsDone = true ∧ ok = true ∧
      (s.update.requireAccept = true → s.update.accepted = true) then
    activated s
  else s

end Sys2Proof.Machine
end

