-- ==== Sys2Proof/Machine/Frames.lean ====
section
/-! DEFINITION. Configuration frames: their check field, their place in the configuration layer, the tile bits and tile checks, and the
map memory (R445, R455 to R457, R472, R473, R475, R476, R479). -/
namespace Sys2Proof.Machine

/-! ### The check field (R456) -/

/-- The codeword position of data bit `k`: the positions that are no power of two, in ascending order. -/
def hamPos (k : Nat) : Nat :=
  let p := k + 2 + Nat.log2 (k + 1)
  if p < k + 2 + Nat.log2 p then p + 1 else p

/-- Data bit `k` of a frame's 64 words (R455). -/
def frameBit (ws : List Word) (k : Nat) : Bool := bitAt (ws.getD (k / 48) 0) (47 - k % 48)

/-- The XOR of the positions of the data bits that are 1 (the check bits), and the number of such bits. -/
def hamSums (ws : List Word) : Nat × Nat :=
  (List.range 3072).foldl (fun a k => if frameBit ws k then (a.1 ^^^ hamPos k, a.2 + 1) else a) (0, 0)

/-- The parity of the low 12 bits of a number. -/
def parity12 (n : Nat) : Nat := (List.range 12).foldl (fun a j => a + b2n (n.testBit j)) 0 % 2

/-- The check field of a frame's data. -/
def checkField (ws : List Word) : Nat :=
  let r := hamSums ws
  r.1 % 4096 + 4096 * ((r.2 + parity12 r.1) % 2)

/-- What a frame's check field decodes to: clean, one bit at a codeword position (0 for P), or uncorrectable. -/
inductive Decoded where
  | clean
  | single (pos : Nat)
  | bad
  deriving DecidableEq, Repr

/-- Decodes 64 data words under a 16-bit check field (R456). -/
def decodeFrame (field : Nat) (ws : List Word) : Decoded :=
  let r := hamSums ws
  let c := field % 4096
  let sn := c ^^^ (r.1 % 4096)
  let p := (r.2 + parity12 c + field / 4096) % 2
  if 8192 ≤ field then .bad
  else if sn = 0 ∧ p = 0 then .clean
  else if p = 1 then (if 3084 < sn then .bad else .single sn)
  else .bad

/-- The data bit at a codeword position; none for a check bit or P. -/
def dataBitAt (pos : Nat) : Option Nat := (List.range 3072).find? fun k => hamPos k == pos

/-- The words of a frame, check field first, with one bit inverted: data bits 0 to 3,071, then the bits of the check field. -/
def flipFrameBit (fr : List Word) (b : Nat) : List Word :=
  if b < 3072 then fr.modify (1 + b / 48) fun w => w ^^^ (1 <<< (47 - b % 48))
  else fr.modify 0 fun w => w ^^^ (1 <<< (b - 3072))

/-- A frame with the error at a codeword position corrected. -/
def correctFrame (fr : List Word) (pos : Nat) : List Word :=
  match dataBitAt pos with
  | some k => flipFrameBit fr k
  | none => if pos = 0 then flipFrameBit fr (3072 + 12) else flipFrameBit fr (3072 + Nat.log2 pos)

/-- Decodes a frame held as 65 words, check field first. -/
def decodeWords (fr : List Word) : Decoded := decodeFrame (bitsOf (fr.getD 0 0) 0 16) (fr.drop 1)

/-! ### Frames and tiles in the configuration layer -/

/-- The 65 words of frame `fa` of context `c`. -/
def frameWords (s : State) (c fa : Nat) : List Word := Table.getRun (fun _ => 0) s.config.frames ((12288 * c + fa) * 65) 65

/-- The data words of a configuration tile (R457). -/
def tileData (s : State) (c t : Nat) : List Word := (List.range 256).flatMap fun f => (frameWords s c (256 * t + f)).drop 1

/-- The CRC-32C of a configuration tile as it stands. -/
def configCrc (s : State) (c t : Nat) : Nat := (crc32cWords (tileData s c t)).toNat

def digestOf (s : State) (c t : Nat) : Nat := bitsOf (Table.get (fun _ => 0) s.config.digests (48 * c + t)) 0 32
def sourceOf (s : State) (c t : Nat) : Word := Table.get (fun _ => 0) s.config.sources (48 * c + t)
def tileBit (s : State) (c t : Nat) : Bool := bitAt (s.reg (Reg.CONFIG_TILE_OK c)) t

/-- Context 0 becomes active after a fabric reset: on the next tck the fabric is STARTING and its start-up order runs (R421, R450). -/
def startFabric (s : State) : State :=
  let s := gatesOn (regionGates s 0) (switchContext 0 s)
  let s := { s with clock := { s.clock with startup := s.reg Reg.CLOCK_STARTUP, stepNo := 0, stepDue := some s.now, lockSince := none } }
  let s := (s.set Fld.CLOCK_STATUS_STARTUP_POS 0).set Fld.CLOCK_STATUS_STARTUP_WAIT 0
  (s.elapse 1).set Fld.FABRIC_STATUS_FSTATE fabStarting

/-- A fabric that waits for context 0 starts once that context is VERIFIED and its load has ended (R450). -/
def fabricReady (s : State) : State :=
  if s.fstate = fabLoading ∧ s.ctxState 0 = ctxVerified ∧ s.config.load.isNone = true then startFabric s else s

/-- A loaded context is VERIFIED while all its tile bits are 1, else UNVERIFIED (R445). -/
def ctxSync (c : Nat) (s : State) : State :=
  if s.ctxState c = ctxUnverified ∨ s.ctxState c = ctxVerified then
    s.putCtx c (if s.reg (Reg.CONFIG_TILE_OK c) = BitVec.ofNat 48 (2 ^ 48 - 1) then ctxVerified else ctxUnverified)
  else s

/-- A tile bit takes a value (R445). -/
def putTileBit (c t : Nat) (b : Bool) (s : State) : State :=
  ctxSync c (s.setReg (Reg.CONFIG_TILE_OK c) (withBits (s.reg (Reg.CONFIG_TILE_OK c)) t 1 (b2n b)))

/-- A frame is written: its tile bit becomes 0, and between a freeze point and its commit clock the context counts as written (R26, R445). -/
def writeFrame (c fa : Nat) (fr : List Word) (s : State) : State :=
  let s := { s with config := { s.config with frames := Table.putList (fun _ => 0) s.config.frames ((12288 * c + fa) * 65) fr } }
  let s := if s.commit.frozen then { s with commit := { s.commit with busyCtx := c :: s.commit.busyCtx } } else s
  putTileBit c (fa / 256) false s

/-! ### Essential frames (R476) -/

/-- A frame of a tile is essential: its map bit is 1, or its map word was found uncorrectable (R454, R475). -/
def essentialFrame (s : State) (c fa : Nat) : Bool :=
  let k := 288 * c + 6 * (fa / 256) + fa % 256 / 48
  (k ∈ s.config.mapLost) || bitAt (Table.get (fun _ => 0) s.config.map k) (fa % 256 % 48)

/-- The error is essential: a lost tile counts when any of its frames is. -/
def essentialError (s : State) (e : EssWait) : Bool :=
  if e.kind = 4 then (List.range 256).any fun f => essentialFrame s e.ctx (e.fa / 256 * 256 + f)
  else essentialFrame s e.ctx e.fa

/-- ESS_ACTION is taken (R476). -/
def essentialAction (s : State) : State :=
  let a := bitsOf s.config.basic 43 2
  if a = 1 then requestSwitch (bitsOf s.config.basic 40 3) true s
  else if a = 2 then holdFabric s
  else s

/-- An error's kind is enabled by ON_CORRECT, ON_RELOAD or ON_LOST. -/
def essentialEnabled (s : State) (kind : Nat) : Bool :=
  if kind = 0 then bitAt s.config.basic 39 else if kind = 1 then bitAt s.config.basic 38 else bitAt s.config.basic 37

/-- An error is judged (R476). -/
def judgeEssential (e : EssWait) (s : State) : State :=
  if essentialError s e then
    let s := s.raise Fld.SCRUB_EVENTS_ESSENTIAL
    let last := decide (s.get Fld.SCRUB_LAST_ERR_CTX = e.ctx ∧ s.get Fld.SCRUB_LAST_ERR_FA = e.fa ∧ s.get Fld.SCRUB_LAST_ERR_KIND = e.kind)
    let s := if last then s.set Fld.SCRUB_LAST_ERR_ESSENTIAL 1 else s
    if e.ctx = s.activeCtx ∧ s.fstate = fabRunning ∧ essentialEnabled s e.kind = true then essentialAction s else s
  else s

/-- An error is judged at once, or when the map scrub of this pass completes (R476). -/
def essential (kind c fa : Nat) (s : State) : State :=
  if s.flag Fld.SCRUB_STATUS_MAP_DONE then judgeEssential ⟨kind, c, fa⟩ s
  else { s with config := { s.config with waits := s.config.waits ++ [⟨kind, c, fa⟩] } }

/-! ### Errors, reloads and tile checks (R471 to R473) -/

/-- SCRUB.LAST_ERR takes an error. -/
def lastError (kind c fa bit : Nat) (s : State) : State :=
  s.setReg Reg.SCRUB_LAST_ERR (packWord [(47, 1, 1), (44, 3, kind), (42, 1, b2n (decide (c = s.activeCtx))), (39, 3, c), (25, 14, fa), (13, 12, bit)])

/-- A tile is lost (R473). -/
def loseTile (c t : Nat) (report : Bool) (s : State) : State :=
  if 48 * c + t ∈ s.config.lost then putTileBit c t false s
  else
    let s := { s with config := { s.config with lost := (48 * c + t) :: s.config.lost } }
    let s := ((putTileBit c t false s).raise Fld.SCRUB_EVENTS_TILE_LOST).bump Fld.SCRUB_COUNTS_TILE_LOST 1
    essential 4 c (256 * t) (if report then lastError 4 c (256 * t) 0xFFF s else s)

/-- The record of a frame in the store, check field first, when its source is valid and it is accepted (R472). -/
def storeRecord (s : State) (c fa : Nat) : Option (List Word) :=
  let src := sourceOf s c (fa / 256)
  if !bitAt src 47 then none
  else
    let ws := (List.range 65).map fun k => s.storeWord (bitsOf src 20 27 + 390 * (fa % 256) + 6 * k)
    if bitsOf (ws.getD 0 0) 34 14 ≠ fa then none
    else
      let fr := BitVec.ofNat 48 (bitsOf (ws.getD 0 0) 0 16) :: ws.drop 1
      match decodeWords fr with
      | .clean => some fr
      | .single p => some (correctFrame fr p)
      | .bad => none

/-- A frame is reloaded from the store (R472). -/
def reloadFrame (c fa : Nat) (s : State) : State :=
  match storeRecord s c fa with
  | some fr =>
    let s := (writeFrame c fa fr s).raise Fld.SCRUB_EVENTS_RELOADED
    let s := lastError 1 c fa 0xFFF (s.bump Fld.SCRUB_COUNTS_RELOADED 1)
    essential 1 c fa (startTest s kindConfigFrame (objFrame c fa))
  | none =>
    let s := lastError 2 c fa 0xFFF (s.raise Fld.SCRUB_EVENTS_RELOAD_FAILED)
    loseTile c (fa / 256) false (essential 2 c fa s)

/-- A single error is corrected in place (R471). -/
def correctInPlace (c fa pos : Nat) (s : State) : State :=
  let s := (writeFrame c fa (correctFrame (frameWords s c fa) pos) s).raise Fld.SCRUB_EVENTS_CORRECTED
  let s := lastError 0 c fa ((dataBitAt pos).getD 0xFFF) (s.bump Fld.SCRUB_COUNTS_CORRECTED 1)
  essential 0 c fa (startTest s kindConfigFrame (objFrame c fa))

/-- The check at the end of a tile (R473). -/
def checkTile (c t : Nat) (s : State) : State :=
  let k := 48 * c + t
  if k ∈ s.config.lost then putTileBit c t false s
  else if configCrc s c t = digestOf s c t then
    let s := { s with config := { s.config with rebuilt := s.config.rebuilt.filter fun x => !(x == k) } }
    fabricReady (checkPass (putTileBit c t true s))
  else
    let s := lastError 3 c (256 * t) 0xFFF ((putTileBit c t false s).raise Fld.SCRUB_EVENTS_TILE_CRC)
    if k ∈ s.config.rebuilt then loseTile c t true s
    else { s with config := { s.config with rebuilt := k :: s.config.rebuilt, detours := s.config.detours ++ [⟨[k], true⟩] } }

/-- CONFIG window table 0x02 and 0x01 entries, and an essential-map word (R479). -/
def digestEntry (s : State) (i : Nat) : Word := Table.get (fun _ => 0) s.config.digests i
def sourceEntry (s : State) (i : Nat) : Word := Table.get (fun _ => 0) s.config.sources i
def mapWord (s : State) (i : Nat) : Word := Table.get (fun _ => 0) s.config.map i

end Sys2Proof.Machine
end

