-- ==== Sys2Proof/Machine/ConfigLoad.lean ====
section
/-! DEFINITION. The configuration loader: requests, the steps of a load and how it ends (R453 to R468), the staging area (R459, R460) and
context 0 after a reset (R450, R589). -/
namespace Sys2Proof.Machine

/-- The CONFIG page, and the states of the loader. -/
def configPage : Nat := 0x28
def loaderIdle : Nat := 0
def loaderCopy : Nat := 1
def loaderCheck : Nat := 2
def loaderWrite : Nat := 3
def loaderVerify : Nat := 4

def State.loader (s : State) : Nat := s.get Fld.CONFIG_LOAD_STAT_STATE

/-- A word of a stream in the store (R453). -/
def streamWord (s : State) (sector k : Nat) : Word := s.storeWord (65536 * sector + 6 * k)

/-- A word of the stream as the loader copied it into staging. -/
def stagedWord (s : State) (l : Load) (k : Nat) : Word := s.memRaw (1024 * l.stage + k)

/-- The declared tiles of a TILEMASK, in ascending order. -/
def maskTiles (w : Word) : List Nat := (List.range 48).filter (bitAt w)

/-- The declared tiles of a load, from its copied header. -/
def loadTiles (s : State) (l : Load) : List Nat := maskTiles (stagedWord s l 1)

/-- The records of a load, 256 per declared tile. -/
def recordCount (s : State) (l : Load) : Nat := 256 * (loadTiles s l).length

/-- Record `i` of a load (R455): its FA, and its frame, check field first. -/
def recordBase (s : State) (l : Load) (i : Nat) : Nat := 16 + 7 * (loadTiles s l).length + 65 * i
def recordFa (s : State) (l : Load) (i : Nat) : Nat := bitsOf (stagedWord s l (recordBase s l i)) 34 14
def recordFrame (s : State) (l : Load) (i : Nat) : List Word :=
  BitVec.ofNat 48 (bitsOf (stagedWord s l (recordBase s l i)) 0 16) ::
    (List.range 64).map fun k => stagedWord s l (recordBase s l i + 1 + k)

/-- The FA that R455 gives the position of record `i`. -/
def positionFa (s : State) (l : Load) (i : Nat) : Nat := 256 * (loadTiles s l).getD (i / 256) 0 + i % 256

/-! ### How a load ends (R462, R468, R499) -/

/-- The loader is IDLE: staging is released (R460). -/
def loadGone (s : State) : State :=
  ({ s with config := { s.config with load := none } }).set Fld.CONFIG_LOAD_STAT_STATE loaderIdle

/-- A load stops or is refused with a cause (R462). -/
def loadCause (cause : Nat) (s : State) : State := (s.set Fld.CONFIG_LOAD_STAT_CAUSE cause).raise Fld.CONFIG_EVENTS_LOAD_FAILED

/-- The staging area passes the memory layer, the queen's tiles, or holds a tile that is not GOOD (R461). -/
def stagingBad (s : State) : Bool :=
  let a := s.get Fld.CONFIG_STAGE_FIRST
  let n := s.get Fld.CONFIG_STAGE_COUNT
  decide (4096 < a + n) || (s.isQueen && decide (0 < n ∧ 4016 < a + n)) || (List.range n).any fun k => decide (s.tileState (a + k) ≠ tileGood)

/-- The cause that refuses a load request, 0 for none (R461). -/
def requestCause (s : State) (c : Nat) (forReset : Bool) : Nat :=
  if c = s.activeCtx ∧ forReset = false then 1 else if stagingBad s then 2 else 0

/-- COPY begins on the next tck (R463). -/
def beginLoad (c sector : Nat) (forReset forActivation : Bool) (s : State) : State :=
  let n := bitsOf (streamWord s sector 2) 0 32
  let l : Load := ⟨c, sector, forReset, forActivation, s.get Fld.CONFIG_STAGE_FIRST, min n (1024 * s.get Fld.CONFIG_STAGE_COUNT), s.now + 1⟩
  let s := { s with config := { s.config with load := some l } }
  let s := (s.set Fld.CONFIG_LOAD_STAT_STATE loaderCopy).set Fld.CONFIG_LOAD_STAT_CTX c
  opStart (s.set Fld.CONFIG_LOAD_STAT_PARTIAL (b2n (decide (bitsOf (streamWord s sector 0) 20 4 = 2)))) configPage 1

/-- The next STREAM load of an activation begins; one that is refused at its request has not ended with LOAD_DONE (R461, R499). -/
def runLoads : List (Nat × Nat) → State → State
  | [], s => checkPass { s with update := { s.update with toLoad := [] } }
  | (c, sec) :: r, s =>
    if s.config.load.isSome then
      runLoads r ({ opRefused s configPage with update := { s.update with loadFailed := true } })
    else
      let k := requestCause s c false
      if k ≠ 0 then runLoads r (loadCause k { s with update := { s.update with loadFailed := true } })
      else beginLoad c sec false true { s with update := { s.update with toLoad := r } }

/-- What follows a load that failed: HOLD for context 0 at a reset, the next load for an activation (R468, R499). -/
def afterFailure (l : Load) (s : State) : State :=
  if l.forReset then enterHold 4 0 (s.raise Fld.CONFIG_EVENTS_BOOT_FAILED)
  else if l.forActivation then runLoads s.update.toLoad { s with update := { s.update with loadFailed := true } }
  else s

/-- A running load stops with a cause, `done` of `total` of its step reached (R70, R462). -/
def loadFails (l : Load) (cause done total : Nat) (s : State) : State :=
  afterFailure l (opStop (opAt (loadGone (loadCause cause s)) configPage done total) configPage)

/-! ### The steps of a load (R463 to R466) -/

/-- The words of a stream section that the store does not hold or the staging area cannot take, or a header that breaks R454: cause 3. -/
def formatBad (s : State) (l : Load) : Bool :=
  let w0 := streamWord s l.sector 0
  let w1 := streamWord s l.sector 1
  let w2 := streamWord s l.sector 2
  let kind := bitsOf w0 20 4
  let nt := (maskTiles w1).length
  let n := bitsOf w2 0 32
  decide (bitsOf w0 32 16 ≠ 0x4353) || decide (bitsOf w0 24 8 ≠ 1) || decide (kind ≠ 1 ∧ kind ≠ 2) || decide (kind = 1 ∧ nt ≠ 48) ||
    decide (kind = 2 ∧ (nt = 0 ∨ nt = 48)) || decide (n ≠ 27 + 16647 * nt) || decide (65536 * logicalSectors < 65536 * l.sector + 6 * n) ||
    decide (1024 * s.get Fld.CONFIG_STAGE_COUNT < n)

/-- The cause that the header words give while they are copied, and the word that gives it (R462). -/
def headerCause (s : State) (l : Load) : Nat × Nat :=
  if bitsOf (streamWord s l.sector 0) 20 4 = 2 ∧ s.ctxState l.ctx = ctxEmpty then (5, 0)
  else if formatBad s l then (3, 2)
  else if bitsOf (streamWord s l.sector 3) 28 20 ≠ 0x1D896 then (4, 3)
  else (0, 0)

/-- The loader's write of a staging word, to which the reservation and the protected ranges do not apply (R437, R459). -/
def loaderWriteWord (a : Nat) (v : Word) (s : State) : State :=
  if s.tileState (a / 1024) = tileTesting ∨ s.tileState (a / 1024) = tileRetired then s else memTake s a v

/-- The first `n` words of the stream stand in staging (R460, R463). -/
def copyWords (l : Load) (n : Nat) (s : State) : State :=
  (List.range n).foldl (fun s k => loaderWriteWord (1024 * l.stage + k) (streamWord s l.sector k) s) s

/-- The end of COPY: the stream stands in staging, or a header word has stopped the load (R462, R463). -/
def copyEnd (l : Load) (s : State) : State :=
  let h := headerCause s l
  if h.1 ≠ 0 then loadFails l h.1 h.2 l.words (copyWords l h.2 (s.elapseTo (l.start + h.2)))
  else
    let s := copyWords l l.words (s.elapseTo (l.start + l.words))
    opStart (s.set Fld.CONFIG_LOAD_STAT_STATE loaderCheck) configPage 2

/-- The tag verifies under the configuration key (R458). -/
def tagOk (s : State) (l : Load) : Bool :=
  match s.update.key with
  | none => false
  | some key =>
    let num := fun ws : List Word => ws.foldl (fun a w => a * 2 ^ 48 + w.toNat) 0
    let ws := (List.range (l.words - 11)).map (stagedWord s l)
    let tag := (List.range 11).map fun k => stagedWord s l (l.words - 11 + k)
    Config.ecdsaOk (BitVec.ofNat 512 (num key / 2 ^ 16)) (Config.sha256 (ws.flatMap wordBytes)) (BitVec.ofNat 512 (num tag / 2 ^ 16))

/-- The staging tiles of a load. -/
def stageTiles (l : Load) : Nat := ceilDiv l.words 1024

/-- The frames of a load, 256 for each declared tile, from the length that its header gave them (R454). -/
def framesOf (l : Load) : Nat := 256 * ((l.words - 27) / 16647)

/-- The reopening of the staging tiles, as consumer 6 (R435, R463): whether all passed. -/
def reopenStage (l : Load) (found : List (Nat × BitVec 32)) (s : State) : Bool × State :=
  (List.range (stageTiles l)).foldl (fun r k =>
    let o := openTile r.2 (l.stage + k) 6 ((found.find? fun e => e.1 == l.stage + k).map (·.2))
    (r.1 && o.1, o.2)) (true, s)

/-- The first record that satisfies `p`. -/
def firstRecord (s : State) (l : Load) (p : Nat → Bool) : Option Nat := (List.range (recordCount s l)).find? p

/-- The CRC-32C of the declared tile of rank `r`, from its records (R457). -/
def recordsCrc (s : State) (l : Load) (r : Nat) : Nat :=
  (crc32cWords ((List.range 256).flatMap fun f => (recordFrame s l (256 * r + f)).drop 1)).toNat

/-- The digest that the stream gives the declared tile of rank `r`. -/
def streamDigest (s : State) (l : Load) (r : Nat) : Nat := bitsOf (stagedWord s l (16 + r)) 0 32

/-- Causes 8 to 11 in order, with the FA of R464. -/
def recordsCause (s : State) (l : Load) : Nat × Nat :=
  let ts := loadTiles s l
  match firstRecord s l fun i => !((recordFa s l i / 256) ∈ ts) with
  | some i => (8, recordFa s l i)
  | none =>
    match firstRecord s l fun i => decide (recordFa s l i ≠ positionFa s l i) with
    | some i => (9, positionFa s l i)
    | none =>
      match firstRecord s l fun i => decide (decodeWords (recordFrame s l i) ≠ .clean) with
      | some i => (10, positionFa s l i)
      | none =>
        match (List.range ts.length).find? fun r => decide (recordsCrc s l r ≠ streamDigest s l r) with
        | some r => (11, 256 * ts.getD r 0)
        | none => (0, 0)

/-- The write step begins (R465, R597): the target is LOADING and takes its declarations; CLOCK.STARTUP takes the header's start-up word
at the load of context 0 of a power-on reset or RESET_N. -/
def beginWrite (l : Load) (s : State) : State :=
  let s := s.putCtx l.ctx ctxLoading
  let decl := (List.range 4).map fun k => stagedWord s l (5 + k)
  let s := { s with config := { s.config with
    decl := Table.putList (fun _ => 0) s.config.decl (4 * l.ctx) decl
    load := some { l with start := s.now } } }
  let w5 := stagedWord s l 5
  let first := decide (s.get Fld.CLOCK_RESET_CAUSE_LAST ≤ 1)
  let s := if l.ctx = 0 ∧ l.forReset = true ∧ first = true ∧ bitAt w5 15 = true then s.setReg Reg.CLOCK_STARTUP (withBits w5 0 16 0) else s
  opStart (s.set Fld.CONFIG_LOAD_STAT_STATE loaderWrite) configPage 3

/-- The end of CHECK: causes 6 to 11 are judged in order (R463, R464). -/
def checkEnd (l : Load) (found : List (Nat × BitVec 32)) (s : State) : State :=
  let n := stageTiles l
  let s := s.elapseTo (l.start + l.words + 1040 * n)
  let tag := tagOk s l
  let o := reopenStage l found s
  let s := o.2
  if !tag then loadFails l 6 n n s
  else if !o.1 then loadFails l 7 n n s
  else
    let r := recordsCause s l
    if r.1 = 0 then beginWrite l s
    else
      let s := s.set Fld.CONFIG_LOAD_STAT_FA r.2
      loadFails l r.1 n n (if r.1 = 8 then s.raise Fld.CONFIG_EVENTS_REGION_VIOLATION else s)

/-- A declared tile is begun: its digest, map words and tile source, and what the scrubber knew of it (R465, R472, R475). -/
def beginTile (l : Load) (r : Nat) (s : State) : State :=
  let ts := loadTiles s l
  let t := ts.getD r 0
  let k := 48 * l.ctx + t
  let map := (List.range 6).map fun j => stagedWord s l (16 + ts.length + 6 * r + j)
  let src := 65536 * l.sector + 6 * (16 + 7 * ts.length + 16640 * r)
  { s with config := { s.config with
    digests := Table.put (fun _ => 0) s.config.digests k (BitVec.ofNat 48 (streamDigest s l r))
    map := Table.putList (fun _ => 0) s.config.map (288 * l.ctx + 6 * t) map
    sources := Table.put (fun _ => 0) s.config.sources k (packWord [(47, 1, 1), (20, 27, src)])
    lost := s.config.lost.filter fun x => !(x == k)
    rebuilt := s.config.rebuilt.filter fun x => !(x == k)
    mapLost := s.config.mapLost.filter fun x => !(x / 6 == k) } }

/-- Record `i` is written (R465): `flips` are the bits of it that upsets inverted in staging. The result says whether it could be. -/
def writeRecord (l : Load) (flips : List (Nat × Nat)) (i : Nat) (s : State) : Bool × State :=
  let fr := (flips.filter fun e => e.1 == i).foldl (fun fr e => flipFrameBit fr e.2) (recordFrame s l i)
  match decodeWords fr with
  | .bad => (false, s)
  | d =>
    let s := if i % 256 = 0 then beginTile l (i / 256) s else s
    (true, writeFrame l.ctx (positionFa s l i) (match d with | .single p => correctFrame fr p | _ => fr) s)

/-- Records `i`, `i` + 1, … are written until `n` are or one is uncorrectable; how many were. -/
def writeRecords (l : Load) (flips : List (Nat × Nat)) : Nat → Nat → State → Nat × State
  | 0, _, s => (0, s)
  | n + 1, i, s =>
    match writeRecord l flips i s with
    | (true, t) => let r := writeRecords l flips n (i + 1) t; (r.1 + 1, r.2)
    | (false, t) => (0, t)

/-- The end of WRITE: the target is UNVERIFIED and the verify detour is requested (R465, R466). -/
def writeEnd (l : Load) (flips : List (Nat × Nat)) (s : State) : State :=
  let n := recordCount s l
  let s := s.elapseTo (l.start + 65 * n)
  let r := writeRecords l flips n 0 s
  let s := r.2.putCtx l.ctx ctxUnverified
  if r.1 = n then
    let d : Detour := ⟨(loadTiles s l).map (48 * l.ctx + ·), false⟩
    opStart ({ s with config := { s.config with detours := s.config.detours ++ [d] } }.set Fld.CONFIG_LOAD_STAT_STATE loaderVerify) configPage 4
  else loadFails l 12 r.1 n s

/-- How far a load has come in its step, and the whole of it (R463): words at one a tck, staging tiles, frames, and frames of the verify detour.
The manual does not time the reopening of each tile or the waits of the write. -/
def loadPoint (s : State) (l : Load) : Nat × Nat :=
  let st := s.loader
  if st = loaderCopy then (min l.words (s.now - l.start), l.words)
  else if st = loaderCheck then (doneNow s configPage (stageTiles l), stageTiles l)
  else if st = loaderWrite then (doneNow s configPage (framesOf l), framesOf l)
  else (match s.config.detours with | [] => 0 | d :: _ => if d.rebuild then 0 else s.config.detourFrame, framesOf l)

/-- A load is stopped by the load of context 0 that a reset demands (R70, R467): what it has written stays,
in staging and in its target, which is then UNVERIFIED (R460). -/
def abortLoad (s : State) : State :=
  match s.config.load with
  | none => s
  | some l =>
    let at_ := loadPoint s l
    let s :=
      if s.loader = loaderCopy then copyWords l at_.1 s
      else if s.loader = loaderWrite then (writeRecords l [] at_.1 0 s).2.putCtx l.ctx ctxUnverified
      else s
    let s := { s with
      config := { s.config with
        detours := s.config.detours.filter fun d => d.rebuild
        detourFrame := match s.config.detours with | d :: _ => if d.rebuild then s.config.detourFrame else 0 | [] => 0 }
      update := { s.update with loadFailed := s.update.loadFailed || l.forActivation } }
    opStop (opAt (loadGone (loadCause 13 s)) configPage at_.1 at_.2) configPage

/-- The load of context 0 that a reset or fabric reset needs (R450, R453, R461, R503): none starts while BOOT.VALID is 0. -/
def loadContext0 (s : State) : State :=
  let s := s.set Fld.FABRIC_STATUS_FSTATE fabLoading
  if s.flag Fld.UPDATE_BOOT_VALID then
    let s := abortLoad s
    let c := requestCause s 0 true
    if c = 0 then beginLoad 0 (s.get Fld.UPDATE_BOOT_SECTOR) true false s
    else enterHold 4 0 ((loadCause c s).raise Fld.CONFIG_EVENTS_BOOT_FAILED)
  else s

/-- Step 2 of a fabric reset (R450). -/
def fabricRelease (s : State) : State :=
  match s.fabric.releaseAt with
  | none => s
  | some t =>
    let s := s.elapseTo t
    let s := { s with fabric := { s.fabric with releaseAt := none } }
    if s.ctxState 0 = ctxVerified then startFabric s else loadContext0 s

/-- The memory layer has been zeroed after power-on reset, and the load of context 0 begins (R589). -/
def memoryReady (s : State) : State :=
  if s.fabric.memReady then s
  else
    let s := { s with fabric := { s.fabric with memReady := true } }
    if s.inHold then s else loadContext0 s

/-- CONFIG.LOAD_CTRL (R461). -/
def writeLoadCtrl (v : Word) (s : State) : State :=
  let s := s.putWord Reg.CONFIG_LOAD_CTRL v
  if !bitAt v 0 then s
  else if s.config.load.isSome then opRefused s configPage
  else
    let c := bitsOf v 34 3
    let k := requestCause s c false
    if k = 0 then beginLoad c (bitsOf v 37 11) false false s else loadCause k s

/-- CONFIG.STAGE (R460). -/
def writeStage (v : Word) (s : State) : State :=
  if s.config.load.isSome then opRefused s configPage else s.putWord Reg.CONFIG_STAGE v

/-- A step of the load in state `st` ends. -/
def loadStep (st : Nat) (f : Load → State → State) (s : State) : State :=
  match s.config.load with
  | none => s
  | some l => if s.loader = st then f l s else s

/-! ### Commands -/

/-- LOAD_GO: a write of CONFIG.LOAD_CTRL. -/
def execLoadGo (p : Path) (v : Word) (s : State) : Host.Outcome State Fault Refusal := access s (regWrite p Reg.CONFIG_LOAD_CTRL writeLoadCtrl v)

/-- LOAD_COPY_END. -/
def execLoadCopyEnd (s : State) : Host.Outcome State Fault Refusal := act s (loadStep loaderCopy copyEnd)

/-- LOAD_CHECK_END: `found` holds the staging tiles whose reopening read another checksum than the side array. -/
def execLoadCheckEnd (found : List (Nat × BitVec 32)) (s : State) : Host.Outcome State Fault Refusal := act s (loadStep loaderCheck (checkEnd · found))

/-- LOAD_WRITE_END: `flips` holds (record, bit) upsets of staging. -/
def execLoadWriteEnd (flips : List (Nat × Nat)) (s : State) : Host.Outcome State Fault Refusal := act s (loadStep loaderWrite (writeEnd · flips))

/-- STAGE_WRITE: a write of CONFIG.STAGE. -/
def execStageWrite (p : Path) (v : Word) (s : State) : Host.Outcome State Fault Refusal := access s (regWrite p Reg.CONFIG_STAGE writeStage v)

/-- FABRIC_RESET_RELEASE. -/
def execFabricResetRelease (s : State) : Host.Outcome State Fault Refusal := act s fabricRelease

/-- MEMORY_INIT_DONE. -/
def execMemoryInitDone (s : State) : Host.Outcome State Fault Refusal := act s memoryReady

end Sys2Proof.Machine
end

