-- ==== Sys2Proof/Machine/Update.lean ====
section
/-! DEFINITION. Images and the receive slot: pieces, verification, keys, activation and its check (R486 to R503, R508). -/
namespace Sys2Proof.Machine

/-- The UPDATE page. -/
def updatePage : Nat := 0x2B

/-! ### The image in the slot (R486 to R489) -/

/-- The piece of an image sector that waits for the store, if one does. -/
def waitingPiece (s : State) (sector piece : Nat) : Option (List Word) :=
  (s.store.jobs.reverse.find? fun j => !j.ctrl && j.sector == sector && j.piece == piece).map (·.data)

/-- A byte of the slot's image, from a piece that waits for the store or from the store. -/
def imageByte (s : State) (a : Nat) : Byte :=
  match waitingPiece s (a / 65536) (a % 65536 / 4096) with
  | some ws => (pieceBytes ws).getD (a % 4096) 0
  | none => s.imageByteStored a

/-- A word of the slot's image. -/
def imageWord (s : State) (k : Nat) : Word := bytesWord ((List.range 6).map fun j => imageByte s (6 * k + j))

/-- Four bytes, most significant first, as a number. -/
def bytes4 (bs : List Byte) : Nat := (List.range 4).foldl (fun a k => a * 256 + (bs.getD k 0).toNat) 0

def imageClass (s : State) : Nat := s.get Fld.UPDATE_STATUS_CLASS
def imagePieces (s : State) : Nat := s.get Fld.UPDATE_IMAGE_PIECES
def classHive : Nat := 1
def classStation : Nat := 2
def classKey : Nat := 3

/-- A section of an image (R486). -/
structure Section where
  img : Nat
  sectors : Nat
  target : Nat
  kind : Nat
  ctx : Nat
  boot : Bool
  bytes : Nat
  deriving DecidableEq, Repr

/-- The section entry of two words. -/
def sectionOf (a b : Word) : Section := ⟨bitsOf a 40 8, bitsOf a 32 8, bitsOf a 21 11, bitsOf a 18 3, bitsOf a 15 3, bitAt a 14, bitsOf b 16 32⟩

/-- The sections of the slot's image. -/
def sectionsOf (s : State) : List Section :=
  (List.range (bitsOf (imageWord s 0) 15 5)).map fun k => sectionOf (imageWord s (27 + 2 * k)) (imageWord s (28 + 2 * k))

/-- Two runs of numbers overlap. -/
def overlap (a n b m : Nat) : Bool := decide (a < b + m ∧ b < a + n)

/-- No two sections overlap in the image or in their targets, and no two STREAM sections name one context (R488). -/
def sectionsApart : List Section → Bool
  | [] => true
  | x :: r => (r.all fun y => !overlap x.img x.sectors y.img y.sectors && !overlap x.target x.sectors y.target y.sectors &&
      !(x.kind == 1 && y.kind == 1 && x.ctx == y.ctx)) && sectionsApart r

/-- One section meets R488. -/
def sectionOk (cls pieces : Nat) (x : Section) : Bool :=
  decide (1 ≤ x.img ∧ 1 ≤ x.sectors ∧ x.img + x.sectors ≤ ceilDiv pieces 16 ∧ x.bytes ≤ 65536 * x.sectors) &&
    (if cls = classHive then decide (x.kind = 3 ∧ 16 ≤ x.target ∧ x.target + x.sectors ≤ firstUser)
     else decide ((x.kind = 1 ∨ x.kind = 2) ∧ firstUser ≤ x.target ∧ x.target + x.sectors ≤ logicalSectors)) &&
    (!x.boot || decide (x.kind = 1 ∧ x.ctx = 0))

/-- The header tests of an image that make its format invalid (R486, R488, R492). -/
def headerBad (w0 w7 : Word) : Bool :=
  let pieces := bitsOf w0 0 13
  let cls := bitsOf w0 20 4
  decide (bitsOf w0 32 16 ≠ 0x5549) || decide (bitsOf w0 24 8 ≠ 1) || decide (cls < 1 ∨ 3 < cls) ||
    decide (pieces ≠ ceilDiv (bitsOf w7 16 32) 4096) || decide (pieces < 16 ∨ 4096 < pieces)

/-- The slot's image has a valid format (R488). -/
def formatOk (s : State) : Bool :=
  let cls := imageClass s
  let xs := sectionsOf s
  let n := xs.length
  !headerBad (imageWord s 0) (imageWord s 7) && (if cls = classKey then decide (n = 0) else decide (1 ≤ n ∧ n ≤ 16)) &&
    xs.all (sectionOk cls (imagePieces s)) && sectionsApart xs && decide ((xs.filter (·.boot)).length ≤ 1)

/-- The bits of words put one after the other. -/
def joinWords (ws : List Word) : Nat := ws.foldl (fun a w => a * 2 ^ 48 + w.toNat) 0

/-- A key or a signature: the first 512 bits of eleven words (R486, R497). -/
def first512 (ws : List Word) : BitVec 512 := BitVec.ofNat 512 (joinWords (ws.take 11) / 2 ^ 16)

/-- The signature of the slot's image verifies (R489). -/
def signatureOk (s : State) : Bool :=
  let n := bitsOf (imageWord s 7) 16 32
  let bs : List Byte := (List.range n).map fun a => if 96 ≤ a ∧ a < 162 then 0 else imageByte s a
  let sig := first512 ((List.range 11).map fun k => imageWord s (16 + k))
  if imageClass s = classHive then Config.ecdsaOk Config.vendorKey (Config.sha256 bs) sig
  else match s.update.key with
    | none => false
    | some k => Config.ecdsaOk (first512 k) (Config.sha256 bs) sig

/-- The station interface version in force (R495). -/
def sivInForce (s : State) : Nat := if s.addr ≠ 0 then s.get Fld.HIVE_MODE_HIVE_SIV else s.get Fld.HIVE_ROLE_SIV

/-- The SIV test of a STATION image fails (R494, R495). -/
def sivBad (s : State) : Bool :=
  let w := imageWord s 6
  decide (imageClass s = classStation) && !s.inHold && decide (sivInForce s < bitsOf w 32 16 ∨ bitsOf w 16 16 < sivInForce s)

/-! ### The slot (R493, R496) -/

/-- The slot takes a state, which the transfer descriptor in SYSTEM records (R496). -/
def slotTo (st : Nat) (s : State) : State := systemWrite 2 (s.putSlot st)

/-- The bitmap is committed to SYSTEM (R496). -/
def commitBitmap (s : State) : State :=
  systemWrite 3 { s with update := { s.update with committed := s.update.received, sinceCommit := 0 } }

/-- Reserved sectors return to the pool (R493). -/
def releaseReserved (s : State) : State :=
  poolSync { s with store := { s.store with pool := s.store.pool ++ s.store.reserved, reserved := [] } }

/-- A piece is answered (R491). -/
def answerPiece (req : Option Packet) (status index : Nat) (s : State) : State :=
  { s with update := { s.update with answers := s.update.answers ++ [⟨req, status, index⟩] } }

/-- Image pieces that wait for the store are refused: their transfer has ended. -/
def dropImageJobs (s : State) : State :=
  let gone := s.store.jobs.filter fun j => !j.ctrl
  let s := gone.foldl (fun s j => answerPiece j.request 1 (16 * j.sector + j.piece) s) s
  { s with store := { s.store with jobs := s.store.jobs.filter (·.ctrl) } }

/-- The slot becomes REJECTED with a cause (R493). -/
def rejectSlot (cause : Nat) (s : State) : State :=
  let s := if s.slot = slotReceiving then commitBitmap s else s
  let s := dropImageJobs (releaseReserved (slotTo slotRejected (s.set Fld.UPDATE_STATUS_CAUSE cause)))
  s.raise Fld.UPDATE_EVENTS_REJECTED

/-- `n` pool sectors with the fewest writes are reserved, in image order (R492). -/
def reserve : Nat → State → State
  | 0, s => poolSync s
  | n + 1, s =>
    match bestPool s with
    | none => poolSync s
    | some p => reserve n { leavePool p s with store := { (leavePool p s).store with reserved := s.store.reserved ++ [p] } }

/-- The cause that refuses piece 0 at open, 0 for none (R492, R494): its words are those of the image's first piece. -/
def openCauseOf (s : State) (bs : List Byte) : Nat :=
  let w := fun k => bytesWord (bs.drop (6 * k))
  let unit := [w 2, w 3, w 4]
  if headerBad (w 0) (w 7) then 1
  else if bitsOf (w 1) 28 20 ≠ 0x1D896 then 2
  else if bitAt (w 1) 27 && !(sameUnit unit s.unitId) then 3
  else if s.store.pool.length < ceilDiv (bitsOf (w 0) 0 13) 16 then 4
  else 0

/-- A piece is queued for the store. -/
def queuePiece (req : Option Packet) (index : Nat) (ws : List Word) (s : State) : State :=
  { s with store := { s.store with jobs := s.store.jobs ++ [⟨false, index / 16, index % 16, ws, req⟩] } }

/-- Piece 0 opens a transfer or is refused (R492). -/
def openTransfer (req : Option Packet) (ws : List Word) (s : State) : State :=
  let bs := pieceBytes ws
  let w := fun k => bytesWord (bs.drop (6 * k))
  if (crc32c (bs.take 4092)).toNat ≠ bytes4 (bs.drop 4092) then answerPiece req 5 0 s
  else
    let c := openCauseOf s bs
    if c ≠ 0 then
      answerPiece req 1 0 ((slotTo slotRejected (s.set Fld.UPDATE_STATUS_CAUSE c)).raise Fld.UPDATE_EVENTS_REJECTED)
    else
      let pieces := bitsOf (w 0) 0 13
      let s := { s with update := { s.update with received := [], committed := [], sinceCommit := 0 } }
      let s := (s.set Fld.UPDATE_IMAGE_IMAGE_ID (bitsOf (w 5) 16 32)).set Fld.UPDATE_IMAGE_PIECES pieces
      let s := (s.set Fld.UPDATE_STATUS_CLASS (bitsOf (w 0) 20 4)).set Fld.UPDATE_STATUS_CAUSE 0
      let s := slotTo slotReceiving (reserve (ceilDiv pieces 16) s)
      queuePiece req 0 ws (opStart (s.raise Fld.UPDATE_EVENTS_OPENED) updatePage 1)

/-- The CRC that the image holds of piece `i` (R487). -/
def pieceCrc (s : State) (i : Nat) (bs : List Byte) : Bool :=
  if i = 0 then decide ((crc32c (bs.take 4092)).toNat = bytes4 (bs.drop 4092))
  else
    let a := if i < 16 then 4032 + 4 * (i - 1) else 4096 + 4 * i
    decide ((crc32c bs).toNat = bytes4 ((List.range 4).map fun k => imageByte s (a + k)))

def pieceReceived (s : State) (i : Nat) : Bool := decide (Table.get (fun _ => 0) s.update.received i = 1)

/-- A piece is judged by the first row of R491 that applies. `long` says that its packet had 683 words. -/
def judgePiece (req : Option Packet) (long : Bool) (ws : List Word) (s : State) : State :=
  let i := bitsOf (ws.getD 0 0) 32 16
  let closed := decide (s.slot = slotEmpty ∨ s.slot = slotRejected)
  if !s.flag Fld.UPDATE_BASIC_RX_EN || decide (s.slot = slotVerifying ∨ s.slot = slotActivating ∨ s.slot = slotChecking) then answerPiece req 1 i s
  else if !long then answerPiece req 9 i s
  else if 2 ≤ (s.store.jobs.filter fun j => !j.ctrl).length then answerPiece req 10 i s
  else if closed && decide (i ≠ 0) then answerPiece req 2 i s
  else if closed then openTransfer req ws s
  else if i = 0 ∧ bitsOf (bytesWord ((pieceBytes ws).drop 30)) 16 32 ≠ slotImage s then answerPiece req 3 i s
  else if imagePieces s ≤ i then answerPiece req 6 i s
  else if pieceReceived s i then answerPiece req 7 i s
  else if 16 ≤ i ∧ pieceReceived s (1 + i / 1024) = false then answerPiece req 4 i s
  else if !pieceCrc s i (pieceBytes ws) then answerPiece req 5 i s
  else queuePiece req i ws s

/-- All pieces of the image are received. -/
def allReceived (s : State) : Bool := (List.range (imagePieces s)).all (pieceReceived s)

/-- A piece has been stored (R491, R493, R496). -/
def pieceStored (j : StoreJob) (s : State) : State :=
  let i := 16 * j.sector + j.piece
  let s := { s with update := { s.update with received := Table.put (fun _ => 0) s.update.received i 1, sinceCommit := s.update.sinceCommit + 1 } }
  let s := answerPiece j.request 0 i (opAt s updatePage s.update.received.length (imagePieces s))
  if allReceived s then opStart (slotTo slotVerifying (commitBitmap s)) updatePage 2
  else if 64 ≤ s.update.sinceCommit then commitBitmap s
  else s

/-- The write of an image piece completes, or is refused as WORN (R482 to R484, R491). -/
def imageWriteDone (j : StoreJob) (ok : Bool) (s : State) : State :=
  match writeReserved j.sector j.piece j.data s with
  | none =>
    let s := answerPiece j.request 8 (16 * j.sector + j.piece) (s.raise Fld.STORE_EVENTS_WORN)
    opStop (rejectSlot 9 s) updatePage
  | some (p, t) => checkReadBack ok p j.piece (pieceStored j t)

/-- The oldest piece write that may proceed, and the others: writes of STORE.PIECE_CTRL wait while an activation maps sections (R499). -/
def nextJob (held : Bool) : List StoreJob → Option (StoreJob × List StoreJob)
  | [] => none
  | j :: r =>
    if held && j.ctrl then (match nextJob held r with | none => none | some (k, r') => some (k, j :: r'))
    else some (j, r)

/-- A piece write of the store completes (R482). -/
def pieceWriteDone (ok : Bool) (s : State) : State :=
  match nextJob (decide (s.slot = slotActivating)) s.store.jobs with
  | none => s
  | some (j, rest) =>
    let s := { s with store := { s.store with jobs := rest } }
    if j.ctrl then ctrlWriteDone j ok s else imageWriteDone j ok s

/-- PIECE packets and PIECE_GO (R490). -/
def pieceReceive (k : Packet) (s : State) : State := judgePiece (some k) (decide (k.payload.length = 683)) k.payload s
def pieceGo (s : State) : State := judgePiece none true ((List.range 683).map fun i => Table.get (fun _ => 0) s.update.pieceBuf i) s

/-- The oldest piece outcome is answered (R490, R491): by PIECE_RESP, by UPDATE.LAST_PIECE, or not at all for a broadcast. -/
def pieceResp (s : State) : State :=
  match s.update.answers with
  | [] => s
  | a :: r =>
    let s := { s with update := { s.update with answers := r } }
    let refused := fun s : State => if a.status = 0 ∨ a.status = 7 then s else s.raise Fld.UPDATE_EVENTS_PIECE_REFUSED
    match a.request with
    | none => refused (s.setReg Reg.UPDATE_LAST_PIECE (packWord [(44, 4, a.status), (28, 16, a.index)]))
    | some k =>
      if pktDest k = broadcast then s
      else refused (ownSend (nodePacket s (pktSource k) planeManagement 0x30 (pktSeq k)
        [packWord [(44, 4, a.status), (28, 16, a.index), (15, 13, s.update.received.length)]]) s)

/-- The cause at which verification stops, 0 for READY (R494). -/
def verifyCause (s : State) : Nat :=
  if !formatOk s then 1
  else if imageClass s ≠ classHive ∧ s.update.key.isNone = true then 5
  else if !signatureOk s then 6
  else if sivBad s then 7
  else 0

/-- Verification ends (R493, R494). -/
def verifyDone (s : State) : State :=
  if s.slot = slotVerifying then
    let c := verifyCause s
    if c = 0 then opDone ((slotTo slotReady s).raise Fld.UPDATE_EVENTS_READY) updatePage (bitsOf (imageWord s 7) 16 32)
    else opStop (rejectSlot c s) updatePage
  else s

/-- ABORT (R493, R496). -/
def abortSlot (s : State) : State :=
  if s.slot = slotActivating ∨ s.slot = slotChecking then opRefused s updatePage
  else if s.slot = slotEmpty then s
  else
    let s := if opActive s updatePage then opStop s updatePage else s
    let s := dropImageJobs { s with update := { s.update with received := [] } }
    let s := commitBitmap (releaseReserved s)
    slotTo slotEmpty ((s.setReg Reg.UPDATE_IMAGE 0).set Fld.UPDATE_STATUS_CLASS 0)

/-! ### Keys (R497) -/

/-- The prime and the constant b of the curve P-256. -/
def p256p : Nat := 0xFFFFFFFF00000001000000000000000000000000FFFFFFFFFFFFFFFFFFFFFFFF
def p256b : Nat := 0x5AC635D8AA3A93E7B3EBBD55769886BC651D06B0CC53B0F63BCE3C3E27D2604B

/-- A key is a valid point of the curve: y² = x³ − 3x + b. -/
def onCurve (k : BitVec 512) : Bool :=
  let x := k.toNat / 2 ^ 256
  let y := k.toNat % 2 ^ 256
  decide (x < p256p ∧ y < p256p ∧ y * y % p256p = (x * x * x + (p256p - 3) * x + p256b) % p256p)

/-- A configuration key is written to SYSTEM. -/
def installKey (ws : List Word) (s : State) : State :=
  systemWrite 1 ({ s with update := { s.update with key := some ws } }.set Fld.UPDATE_STATUS_KEY_PRESENT 1)

/-- KEY_COMMIT (R497). -/
def keyCommit (s : State) : State :=
  let ws := (List.range 11).map fun k => Table.get (fun _ => 0) s.update.keyBuf k
  if s.update.key.isNone && onCurve (first512 ws) then installKey ws s else s.raise Fld.UPDATE_EVENTS_KEY_REFUSED

/-! ### Activation (R498 to R501) -/

/-- One target sector of a section is mapped to its received sector; what it replaces returns to the pool (R499). -/
def mapOne (target phys : Nat) (s : State) : State :=
  let old := s.physOf target
  { s with store := { s.store with
    map := Table.put id s.store.map target phys
    pool := s.store.pool ++ [old]
    reserved := s.store.reserved.filter fun p => !(p == phys) } }

/-- The sections are mapped; the head sector and received sectors of no section return to the pool (R493, R499). -/
def mapSections (s : State) : State :=
  let xs := sectionsOf s
  let got := s.store.reserved
  let s := xs.foldl (fun s x => (List.range x.sectors).foldl (fun s j => mapOne (x.target + j) (got.getD (x.img + j) 0) s) s) s
  releaseReserved s

/-- The cause that refuses the activation of a station-class image (R498). -/
def activateCause (s : State) : Nat :=
  let xs := sectionsOf s
  let active := s.activeCtx
  let sources := (List.range 48).filterMap fun t => let w := sourceOf s active t; if bitAt w 47 then some (bitsOf w 20 27 / 65536) else none
  if sivBad s then 7
  else if xs.any fun x => (x.kind == 1 && x.ctx == active) || sources.any fun q => decide (x.target ≤ q ∧ q < x.target + x.sectors) then 8
  else 0

/-- An activation is refused with a cause (R494, R498). -/
def refuseActivation (cause : Nat) (s : State) : State := (s.set Fld.UPDATE_STATUS_CAUSE cause).raise Fld.UPDATE_EVENTS_REJECTED

/-- What the check of a station-class image needs, taken from the image before its sectors are mapped (R486, R499). -/
def noteActivation (s : State) : State :=
  let xs := sectionsOf s
  let w := imageWord s 8
  let station := decide (imageClass s = classStation)
  { s with update := { s.update with
    streams := (xs.filter fun x => x.kind == 1).map fun x => (x.ctx, x.target)
    bootSector := (xs.find? (·.boot)).map (·.target)
    checkTime := if station then bitsOf w 40 8 else 0
    requireAccept := station && bitAt w 39
    checkStart := none, toLoad := [], loadFailed := false, accepted := false } }

/-- Step 1 of an activation: ACTIVATING, the sections mapped, a KEY image's key installed (R493, R497, R499). -/
def mapImage (s : State) : State :=
  let key := (List.range 11).map fun k => imageWord s (27 + k)
  let isKey := decide (imageClass s = classKey)
  let n := (sectionsOf s).length
  let s := mapSections (opStart (slotTo slotActivating (noteActivation s)) updatePage 3)
  let s := opAt s updatePage n (max 1 n)
  if isKey then installKey key s else s

/-- A station-class activation is accepted (R499). -/
def acceptStation (s : State) : State :=
  let s := mapImage s
  { s with update := { s.update with activatedAt := some s.now } }

/-- The activation marker is written or cleared (R500, R501). -/
def putMarker (b : Bool) (s : State) : State := systemWrite 6 { s with update := { s.update with marker := b } }

/-- The boot record (R502, R503). -/
def putBoot (sector : Nat) (s : State) : State := systemWrite 0 ((s.set Fld.UPDATE_BOOT_VALID 1).set Fld.UPDATE_BOOT_SECTOR sector)

/-- CHECKING begins (R499). -/
def beginChecking (s : State) : State :=
  let s := match s.update.bootSector with | none => s | some k => putBoot k s
  let s := opStart (slotTo slotChecking s) updatePage 4
  let s := { s with update := { s.update with activatedAt := none, checkStart := some s.now, toLoad := s.update.streams, loadFailed := false, accepted := false } }
  runLoads s.update.toLoad s

/-- 1,024 tck after an accepted station-class activation (R499). -/
def activationChecking (s : State) : State :=
  match s.update.activatedAt with
  | none => s
  | some t => beginChecking (s.elapseTo (t + 1024))

/-- ACCEPT (R499). -/
def acceptBuild (s : State) : State :=
  if s.slot = slotChecking ∧ s.update.checkStart.isSome = true then checkPass { s with update := { s.update with accepted := true } } else s

/-- CHECK_TIME ends without a pass (R499). -/
def checkTimeEnd (s : State) : State :=
  match s.update.checkStart with
  | none => s
  | some t =>
    if s.slot = slotChecking ∧ s.update.marker = false then enterHold 1 (slotImage s) (s.elapseTo (t + 1920000 * s.update.checkTime)) else s

/-- The latest tck on which the management firmware may report itself running: 1 s after reset exit (R501). -/
def reportBy (s : State) : Nat := s.update.checkStart.getD s.now + 192000000

/-- The post-activation check of a hive-class image (R501): `ok` when the management firmware reports itself running. HOLD comes when the second
has passed without a pass. -/
def postActivationCheck (ok : Bool) (s : State) : State :=
  if s.update.marker && decide (s.slot = slotChecking) then
    if ok && s.mcReady && decide (s.now ≤ reportBy s) then activated (putMarker false s) else enterHold 2 (slotImage s) (s.elapseTo (reportBy s))
  else s

/-- The microcode reload completes (R502): `ok` when every block matches its digest. DESIGN CHOICE: a mismatch at the start that finds an activation
marker is HOLD of cause 3 too, where R501 and R504 would also let it be cause 2. -/
def microcodeReady (ok : Bool) (s : State) : State :=
  if s.mcReady || s.inHold then s
  else if ok then s.set Fld.UPDATE_STATUS_MC_READY 1
  else enterHold 3 0 s

/-- UPDATE.BOOT (R508). -/
def writeBoot (v : Word) (s : State) : State :=
  let k := bitsOf v 36 11
  if k < firstUser ∨ logicalSectors ≤ k then s.raiseBit updatePage 45 else systemWrite 0 (s.putWord Reg.UPDATE_BOOT v)

/-! ### Views (R508) -/

/-- UPDATE.RXCOUNT. -/
def rxCount (s : State) : Word :=
  let miss := ((List.range (imagePieces s)).find? fun i => !pieceReceived s i).getD 0x1FFF
  packWord [(35, 13, s.update.received.length), (22, 13, s.update.committed.length), (9, 13, miss)]

/-- UPDATE window tables 0x02 and 0x04. -/
def bitmapEntry (s : State) (k : Nat) : Word := BitVec.ofNat 48 ((List.range 48).foldl (fun a j => a + b2n (pieceReceived s (48 * k + j)) * 2 ^ j) 0)
def sectionWord (s : State) (k : Nat) : Word := if s.store.reserved.isEmpty then 0 else imageWord s (27 + k)

/-! ### Commands -/

/-- PIECE_WRITE_DONE: `ok` when the read-back matched. -/
def execPieceWriteDone (ok : Bool) (s : State) : Host.Outcome State Fault Refusal := act s (pieceWriteDone ok)

/-- PIECE: the next PIECE packet delivered to the node. -/
def execPiece (s : State) : Host.Outcome State Fault Refusal := act s (takePacket planeManagement 0x10 pieceReceive)

/-- PIECE_GO: a write of 1 to UPDATE.CTRL.PIECE_GO. -/
def execPieceGo (p : Path) (s : State) : Host.Outcome State Fault Refusal := access s (fieldWrite p Reg.UPDATE_CTRL false pieceGo)

/-- PIECE_RESP. -/
def execPieceResp (s : State) : Host.Outcome State Fault Refusal := act s pieceResp

/-- VERIFY_DONE. -/
def execVerifyDone (s : State) : Host.Outcome State Fault Refusal := act s verifyDone

/-- ABORT. -/
def execAbort (p : Path) (s : State) : Host.Outcome State Fault Refusal := access s (fieldWrite p Reg.UPDATE_CTRL false abortSlot)

/-- ACCEPT. -/
def execAccept (p : Path) (s : State) : Host.Outcome State Fault Refusal := access s (fieldWrite p Reg.UPDATE_CTRL false acceptBuild)

/-- KEY_COMMIT. -/
def execKeyCommit (p : Path) (s : State) : Host.Outcome State Fault Refusal := access s (fieldWrite p Reg.UPDATE_CTRL false keyCommit)

/-- ACTIVATION_CHECKING. -/
def execActivationChecking (s : State) : Host.Outcome State Fault Refusal := act s activationChecking

/-- CHECK_TIME_END. -/
def execCheckTimeEnd (s : State) : Host.Outcome State Fault Refusal := act s checkTimeEnd

/-- POST_ACTIVATION_CHECK. -/
def execPostActivationCheck (ok : Bool) (s : State) : Host.Outcome State Fault Refusal := act s (postActivationCheck ok)

/-- MC_READY. -/
def execMcReady (ok : Bool) (s : State) : Host.Outcome State Fault Refusal := act s (microcodeReady ok)

/-- BOOT_WRITE: a write of UPDATE.BOOT. -/
def execBootWrite (p : Path) (v : Word) (s : State) : Host.Outcome State Fault Refusal := access s (regWrite p Reg.UPDATE_BOOT writeBoot v)

end Sys2Proof.Machine
end

