-- ==== Sys2Proof/Machine/Xmem.lean ====
section
/-! DEFINITION. The external memory port, inline encryption and the DMA engine (R442, R509 to R530, R595). -/
namespace Sys2Proof.Machine

/-- The XMEM and CRYPT pages and the external space. -/
def xmemPage : Nat := 0x2D
def cryptPage : Nat := 0x2C
def extSpace : Nat := 536870912
def regionBytes : Nat := 65536

/-- Modes of a region, and causes of a refused access. -/
def modePlain : Nat := 0
def modeEncrypted : Nat := 1
def modeRekeying : Nat := 2
def modeExhausted : Nat := 3
def extAbsent : Nat := 1
def extRange : Nat := 2
def extProtected : Nat := 3
def extAlign : Nat := 4
def extWorn : Nat := 5
def extExhausted : Nat := 6

namespace State

def devPresent (s : State) (n : Nat) : Bool := s.flag (Fld.XMEM_DEV_PRESENT n)
def devSize (s : State) (n : Nat) : Nat := 2 ^ s.get (Fld.XMEM_DEV_SIZE_LOG2 n)
/-- First byte of a device in the external space (R513). -/
def devBase (s : State) (n : Nat) : Nat := if n = 1 ∧ s.devPresent 0 = true then s.devSize 0 else 0

/-- The PRESENT device that covers a byte (R513). -/
def devAt (s : State) (a : Nat) : Option Nat :=
  if extSpace ≤ a then none
  else (List.range 2).find? fun n => s.devPresent n && decide (s.devBase n ≤ a ∧ a < s.devBase n + s.devSize n)

/-- The byte's device is NOR flash. -/
def isNor (s : State) (a : Nat) : Bool := match s.devAt a with | some n => !s.flag (Fld.XMEM_DEV_TYPE n) | none => true

def regionWord (s : State) (r : Nat) : Word := Table.get (fun _ => 0) s.xmem.regions r
def regionMode (s : State) (r : Nat) : Nat := bitsOf (s.regionWord r) 46 2
def regionGen (s : State) (r : Nat) : Nat := bitsOf (s.regionWord r) 32 14
def regionCount (s : State) (r : Nat) : Nat := bitsOf (s.regionWord r) 0 32

/-- The state with a region's entry changed; CRYPT.STATUS.EXHAUSTED counts the EXHAUSTED regions (R530). -/
def putRegion (s : State) (r mode gen count : Nat) : State :=
  let s := { s with xmem := { s.xmem with
    regions := Table.put (fun _ => 0) s.xmem.regions r (packWord [(46, 2, mode), (32, 14, gen), (0, 32, count)]) } }
  s.set Fld.CRYPT_STATUS_EXHAUSTED (s.xmem.regions.filter fun e => decide (bitsOf e.2 46 2 = modeExhausted)).length

/-- The byte on the chip, if the manual gives one. -/
def extRaw (s : State) (a : Nat) : Option Byte :=
  match Table.get (fun _ => 0) s.xmem.bytes a with | 0 => none | n + 1 => some (BitVec.ofNat 8 n)
def putExtRaw (s : State) (a : Nat) (b : Option Byte) : State :=
  { s with xmem := { s.xmem with bytes := Table.put (fun _ => 0) s.xmem.bytes a (match b with | none => 0 | some x => x.toNat + 1) } }

/-- The port takes accesses (R512). -/
def portReady (s : State) : Bool := s.flag Fld.XMEM_BASIC_EN && s.flag Fld.XMEM_STATUS_PLL_LOCK && !s.flag Fld.XMEM_STATUS_ABSENT

/-- A byte is protected (R528). -/
def extProtectedByte (s : State) (a : Nat) : Bool :=
  (List.range 8).any fun n => s.flag (Fld.XMEM_PROT_EN n) &&
    decide (s.get (Fld.XMEM_PROT_FIRST n) ≤ a / regionBytes ∧ a / regionBytes ≤ s.get (Fld.XMEM_PROT_LAST n))

end State

/-! ### Encryption (R517) -/

/-- The byte of the keystream for byte `a` of the external space under a generation and a COUNT: the block's bytes are used most
significant first. -/
def keystream (s : State) (a gen count : Nat) : Byte :=
  let r := a / regionBytes
  let b := a % regionBytes
  let block := Config.aes256 (Config.regionKey (s.isNor a) (if s.isNor a then 0 else s.xmem.psramKey) r gen)
    (BitVec.ofNat 128 (count * 2 ^ 96 + r * 2 ^ 64 + b / 16))
  BitVec.ofNat 8 (block.toNat / 2 ^ (8 * (15 - b % 16)))

/-- The POSITION at which a region's rekey stopped; 0 for one that has not (R526). -/
def State.keptPosition (s : State) (r : Nat) : Nat := ((s.xmem.kept.find? fun e => e.1 == r).map (·.2)).getD 0

/-- The byte offset below which a REKEYING region holds the new encryption (R524, R526). -/
def State.rekeyedTo (s : State) (r : Nat) : Nat := if s.xmem.rekeys.head? = some r then s.xmem.position else s.keptPosition r

/-- Generation and COUNT under which a byte now stands; none in a PLAIN region (R524). -/
def keyOf (s : State) (a : Nat) : Option (Nat × Nat) :=
  let r := a / regionBytes
  let m := s.regionMode r
  if m = modePlain then none
  else if m = modeRekeying ∧ a % regionBytes < s.rekeyedTo r then some (s.regionGen r + 1, 0)
  else some (s.regionGen r, s.regionCount r)

/-- A byte as a read returns it; none where the manual gives no value (R517, R522, R527). -/
def extByte (s : State) (a : Nat) : Option Byte :=
  match s.extRaw a with
  | none => none
  | some x => match keyOf s a with | none => some x | some (g, n) => some (x ^^^ keystream s a g n)

/-- A byte is written under its region's present key. -/
def putExtByte (a : Nat) (b : Byte) (s : State) : State :=
  s.putExtRaw a (some (match keyOf s a with | none => b | some (g, n) => b ^^^ keystream s a g n))

/-- Bytes written from address `a` upwards. -/
def putExtBytes (a : Nat) : List Byte → State → State
  | [], s => s
  | b :: bs, s => putExtBytes (a + 1) bs (putExtByte a b s)

/-! ### Refusals -/

/-- An access is refused (R529). -/
def extRefuse (cause : Nat) (s : State) : State := (s.set Fld.XMEM_STATUS_LAST_CAUSE cause).raise Fld.XMEM_EVENTS_ACCESS_REFUSED

/-- The cause that refuses an access of `n` bytes from `a`, but for protection; 0 for none (R512, R513). -/
def extCause (s : State) (a n : Nat) : Nat :=
  if !s.portReady then extAbsent
  else if (List.range n).any fun k => (s.devAt (a + k)).isNone then extRange
  else 0

/-! ### Write streams (R519 to R523) -/

/-- A record of the SYSTEM area is written, or refused under R484. -/
def systemTry (record : Nat) (s : State) : Bool × State :=
  let l := (Config.systemSector record).val
  if s.readOnly (s.physOf l) then
    match moveLogical l s with
    | none => (false, s.raise Fld.STORE_EVENTS_WORN)
    | some (p, t) => (true, countWrites p 1 t)
  else (true, countWrites (s.physOf l) 1 s)

/-- XMEM.STATUS shows the stream. -/
def streamSync (s : State) : State :=
  match s.xmem.stream with
  | none => s.set Fld.XMEM_STATUS_STREAM 0
  | some (a, _) => (s.set Fld.XMEM_STATUS_STREAM 1).set Fld.XMEM_STATUS_STREAM_REGION ((a - 1) / regionBytes)

/-- The rest of a region, from byte `a` to its end, takes the bytes that `f` gives. -/
def fillRegion (a : Nat) (f : Nat → State → State) (s : State) : State :=
  (List.range (regionBytes - a % regionBytes)).foldl (fun s k => f (a + k) s) s

/-- The stream closes (R521): short of its region's end, the rest is padded. -/
def closeStream (s : State) : State :=
  match s.xmem.stream with
  | none => s
  | some (a, _) =>
    let s := streamSync { s with xmem := { s.xmem with stream := none } }
    if a % regionBytes = 0 then s
    else
      let plain := decide (s.regionMode (a / regionBytes) = modePlain)
      let s := fillRegion a (fun x s => if plain then s.putExtRaw x (some 0xFF) else putExtByte x 0 s) s
      s.raise Fld.XMEM_EVENTS_STREAM_PADDED

/-- CRYPT.STATUS shows the rekey that runs, or else one that is stopped (R530). -/
def showRekey (s : State) : State :=
  match s.xmem.rekeys ++ s.xmem.kept.map (·.1) with
  | [] => s.set Fld.CRYPT_STATUS_REKEYING 0
  | r :: _ => (s.set Fld.CRYPT_STATUS_REKEYING 1).set Fld.CRYPT_STATUS_REKEY_REGION r

/-- The rekey at the head of the queue begins, or resumes at the POSITION at which it stopped (R524, R526). -/
def headRekey (s : State) : State :=
  match s.xmem.rekeys with
  | [] => showRekey { s with xmem := { s.xmem with position := 0 } }
  | r :: _ =>
    let p := s.keptPosition r
    opAt (opStart (showRekey { s with xmem := { s.xmem with position := p } }) cryptPage 1) cryptPage p regionBytes

/-- A rekey joins the queue, and starts when none runs (R526). -/
def queueRekey (r : Nat) (s : State) : State :=
  let t := { s with xmem := { s.xmem with rekeys := s.xmem.rekeys ++ [r] } }
  if s.xmem.rekeys.isEmpty then headRekey t else t

/-- A rekey waits its turn (R523, R526). -/
def startRekey (r : Nat) (s : State) : State :=
  (queueRekey r (s.putRegion r modeRekeying (s.regionGen r) (s.regionCount r))).raise Fld.CRYPT_EVENTS_REKEY_STARTED

/-- What the entry of a stream into a region comes to. -/
inductive Entry where
  | entered
  | held
  | refused (cause : Nat)
  deriving DecidableEq, Repr

/-- A stopped rekey of the region resumes with the stream that enters it (R526). -/
def resumeRekey (r : Nat) (s : State) : State :=
  if s.regionMode r = modeRekeying ∧ r ∉ s.xmem.rekeys then queueRekey r s else s

/-- A stream enters region `r` (R520, R523). -/
def enterRegion (r : Nat) (s : State) : Entry × State :=
  let m := s.regionMode r
  let nor := s.isNor (r * regionBytes)
  let opened := fun s : State => (Entry.entered, fillRegion (r * regionBytes) (fun x s => s.putExtRaw x none) s)
  if m = modeRekeying then (.held, s)
  else if m = modeExhausted then (.refused extExhausted, s)
  else if m = modePlain then opened s
  else if s.regionCount r = 2 ^ 32 - 1 then
    if s.regionGen r = 16383 then
      (.refused extExhausted, (s.putRegion r modeExhausted 16383 (2 ^ 32 - 1)).raise Fld.CRYPT_EVENTS_EXHAUSTED)
    else (.held, startRekey r s)
  else
    let c := s.regionCount r + 1
    if nor then
      let w := systemTry 8 s
      if w.1 then opened (w.2.putRegion r m (w.2.regionGen r) c) else (.refused extWorn, w.2)
    else opened (s.putRegion r m (s.regionGen r) c)

/-- The write needs a stream: every region but a PLAIN one in PSRAM (R519). -/
def needsStream (s : State) (a : Nat) : Bool := decide (s.regionMode (a / regionBytes) ≠ modePlain) || s.isNor a

/-- A write has continued the stream up to byte `a`. -/
def streamAt (a : Nat) (s : State) : State := streamSync { s with xmem := { s.xmem with stream := some (a, s.now) } }

/-- A write waits for its region's rekey (R523, R524). -/
def holdWrite (a : Nat) (bs : List Byte) (s : State) : State := { s with xmem := { s.xmem with heldWrites := s.xmem.heldWrites ++ [(a, bs)] } }

/-- A write of bytes within one region (R519 to R523). The result says whether it was taken or held. -/
def writeRun (a : Nat) (bs : List Byte) (s : State) : Bool × State :=
  let continues := match s.xmem.stream with | some (n, _) => n == a | none => false
  let s := if continues then s else closeStream s
  if !needsStream s a then
    let s := if continues then closeStream s else s
    (true, putExtBytes a bs s)
  else if continues && decide (a % regionBytes ≠ 0) then (true, streamAt (a + bs.length) (putExtBytes a bs s))
  else if a % regionBytes ≠ 0 then (false, extRefuse extAlign s)
  else
    match enterRegion (a / regionBytes) s with
    | (.entered, t) => (true, streamAt (a + bs.length) (putExtBytes a bs t))
    | (.held, t) => (true, holdWrite a bs t)
    | (.refused c, t) => (false, extRefuse c (closeStream t))

/-- The bytes of a write that lie in its first region, and those beyond. -/
def splitRun (a : Nat) (bs : List Byte) : List Byte × List Byte := bs.splitAt (regionBytes - a % regionBytes)

/-- The first `n` bytes of a word from byte `a` are taken back, its second region not having taken the rest: no part of a word is written (R15), and
a stream that had come to `a` stands there again. `s` is the state before the word. -/
def takeBack (a n : Nat) (s t : State) : State :=
  let t := (List.range n).foldl (fun t k => t.putExtRaw (a + k) (s.extRaw (a + k))) t
  streamSync { t with xmem := { t.xmem with
    heldWrites := s.xmem.heldWrites, stream := s.xmem.stream.filter fun x => x.1 == a } }

/-- The regions that a write of `n` bytes from `a` touches, one or two (R523). -/
def touches (a n : Nat) : List Nat := ((a / regionBytes) :: [(a + n - 1) / regionBytes]).eraseDups

/-- A write that touches a REKEYING region waits, and one that enters it lets its stopped rekey resume (R523, R524, R526). -/
def waitRekey (a : Nat) (bs : List Byte) (s : State) : State :=
  let entered := (touches a bs.length).filter fun r => decide (a ≤ r * regionBytes)
  holdWrite a bs (entered.foldl (fun s r => resumeRekey r s) s)

/-- A write touches a region that is being rekeyed. -/
def mustWait (s : State) (a n : Nat) : Bool := (touches a n).any fun r => decide (s.regionMode r = modeRekeying)

/-- A write of a word's six bytes, taken, held or refused whole (R15). -/
def extWrite (a : Nat) (bs : List Byte) (s : State) : Bool × State :=
  if mustWait s a bs.length then (true, waitRekey a bs s)
  else
    let p := splitRun a bs
    let r := writeRun a p.1 s
    if !r.1 || p.2.isEmpty then r
    else
      let q := writeRun (a + p.1.length) p.2 r.2
      if !q.1 then (false, closeStream (takeBack a p.1.length s q.2))
      else if mustWait q.2 a bs.length then (true, holdWrite a bs (takeBack a p.1.length s q.2))
      else q

/-- A read of a word: six bytes, most significant first; a byte without a value is free (R514, R522). -/
def extRead (a : Nat) (s : State) : Word × State :=
  let r := (List.range 6).foldl (fun (r : Nat × State) k =>
    match extByte r.2 (a + k) with
    | some b => (r.1 * 256 + b.toNat, r.2)
    | none => let f := r.2.fresh; (r.1 * 256 + bitsOf f.1 0 8, f.2)) (0, s)
  (BitVec.ofNat 48 r.1, r.2)

/-! ### The XMEM window (R528, R595) -/

/-- Entries of XMEM window table 0x01. -/
def extEntries (s : State) : Nat := min 16777216 ((extSpace - s.get Fld.XMEM_WIN_BASE_BYTE) / 6)

/-- An access of entry `i`: a write with a value, else a read. -/
def extWindow (i : Nat) (v : Option Word) (s : State) : Word × State :=
  let a := s.get Fld.XMEM_WIN_BASE_BYTE + 6 * i
  let c := extCause s a 6
  if c ≠ 0 then (0, extRefuse c s)
  else if (List.range 6).any fun k => s.extProtectedByte (a + k) then (0, (extRefuse extProtected s).raise Fld.XMEM_EVENTS_PROT_REFUSED)
  else match v with
    | some w => (0, (extWrite a (wordBytes w) s).2)
    | none => extRead a s

/-! ### The DMA engine (R442) -/

/-- The addresses of word `k` of one side of a descriptor: memory words or external bytes. -/
def dmaAddr (ext : Bool) (base k : Nat) : Nat := if ext then base + 6 * k else base + k

/-- Word `k` of one side is protected, with the first protected address. -/
def dmaProtected (s : State) (ext : Bool) (a : Nat) : Option Nat :=
  if ext then ((List.range 6).map (a + ·)).find? s.extProtectedByte
  else if protectedTile s (a / 1024) then some a else none

/-- The first protected address of one side of a descriptor. -/
def firstProtected (s : State) (ext : Bool) (base n : Nat) : Option Nat :=
  (List.range n).findSome? fun k => dmaProtected s ext (dmaAddr ext base k)

/-- A descriptor is tested and starts or waits its turn; a fifth is refused (R431, R442). -/
def dmaStart (d : Dma) (s : State) : State :=
  let refused := fun s : State => s.bridgeAnswers 4 { error := true }
  if 4 ≤ s.fabric.dma.length then refused s
  else
    match firstProtected s d.srcExt d.src d.count, firstProtected s d.dstExt d.dst d.count with
    | some a, _ => refused (protHit false d.srcExt a s)
    | none, some a => refused (protHit false d.dstExt a s)
    | none, none => { s with fabric := { s.fabric with dma := s.fabric.dma ++ [d] } }

/-- What one word of a descriptor comes to. -/
inductive Moved where
  | moved
  | waits
  | stops
  deriving DecidableEq, Repr

/-- The source word, when it can be read: a memory tile is opened at its first word and at the descriptor's (R435, R442). -/
def dmaRead (d : Dma) (k : Nat) (found : List (Nat × BitVec 32)) (s : State) : Option Word × State :=
  let a := dmaAddr d.srcExt d.src k
  if d.srcExt then
    let c := extCause s a 6
    if c ≠ 0 then (none, extRefuse c s) else let r := extRead a s; (some r.1, r.2)
  else if 4194304 ≤ a then (none, s)
  else if k = 0 ∨ a % 1024 = 0 then
    let o := openTile s (a / 1024) 5 ((found.find? fun e => e.1 == a / 1024).map (·.2))
    (if o.1 then some (o.2.memRead a) else none, o.2)
  else (some (s.memRead a), s)

/-- The destination word is written. -/
def dmaWrite (d : Dma) (k : Nat) (v : Word) (s : State) : Moved × State :=
  let a := dmaAddr d.dstExt d.dst k
  if d.dstExt then
    let c := extCause s a 6
    if c ≠ 0 then (.stops, extRefuse c s)
    else
      let r := extWrite a (wordBytes v) s
      (if r.1 then (if mustWait r.2 a 6 then .waits else .moved) else .stops, r.2)
  else if 4194304 ≤ a then (.stops, s)
  else if s.tileState (a / 1024) = tileGood ∨ s.tileState (a / 1024) = tileFailed then (.moved, memWrite s a v)
  else (.stops, s)

/-- Words `k`, `k` + 1, … of a descriptor move until `n` have, one waits for a rekey or one stops it; the count of words moved. -/
def dmaRun (d : Dma) (found : List (Nat × BitVec 32)) : Nat → Nat → State → Moved × Nat × State
  | 0, k, s => (.moved, k, s)
  | n + 1, k, s =>
    match dmaRead d k found s with
    | (none, t) => (.stops, k, t)
    | (some v, t) =>
      match dmaWrite d k v t with
      | (.moved, u) => dmaRun d found n (k + 1) u
      | (.waits, u) => (.waits, k + 1, u)
      | (.stops, u) => (.stops, k, u)

/-- A descriptor reports done, or stopped, with the position it reached (R431, R442). -/
def dmaReports (k : Nat) (stopped : Bool) (s : State) : State := s.bridgeAnswers 4 { more := BitVec.ofNat 48 k, error := stopped }

/-- The last word of a descriptor is held for a rekey: the held bytes end where the descriptor has come to (R523). -/
def dmaWaits (s : State) (d : Dma) : Bool :=
  d.dstExt && decide (0 < d.done) && s.xmem.heldWrites.any fun e => e.1 + e.2.length == d.dst + 6 * d.done

/-- A descriptor ends early at word `k` (R442). -/
def dmaStops (r : List Dma) (k : Nat) (s : State) : State :=
  dmaReports k true ((closeStream { s with fabric := { s.fabric with dma := r } }).raise Fld.FABRIC_EVENTS_DMA_STOPPED)

/-- The descriptor in turn completes, stops at the word it reached, or waits for a rekey with the word that met it held (R442, R523). -/
def dmaDone (found : List (Nat × BitVec 32)) (s : State) : State :=
  match s.fabric.dma with
  | [] => s
  | d :: r =>
    if dmaWaits s d then s else
    match dmaRun d found (d.count - d.done) d.done s with
    | (.waits, k, t) => { t with fabric := { t.fabric with dma := { d with done := k } :: r } }
    | (.stops, k, t) => dmaStops r k t
    | (.moved, k, t) => let t := { t with fabric := { t.fabric with dma := r } }; dmaReports k false (if d.dstExt then closeStream t else t)

/-! ### Rekeying (R523 to R526) -/

/-- Held writes proceed, oldest first; one whose region is still being rekeyed waits on. -/
def releaseHeld (s : State) : State :=
  s.xmem.heldWrites.foldl (fun s e => (extWrite e.1 e.2 s).2) { s with xmem := { s.xmem with heldWrites := [] } }

/-- The held writes of region `r` are refused, and a descriptor that waits with one of them stops at its word (R442, R526). -/
def refuseHeld (r : Nat) (s : State) : State :=
  let mine := fun e : Nat × List Byte => (touches e.1 e.2.length).contains r
  let t := { s with xmem := { s.xmem with heldWrites := s.xmem.heldWrites.filter fun e => !mine e } }
  let t := if s.xmem.heldWrites.any mine then extRefuse extWorn t else t
  match s.fabric.dma with
  | d :: rest => if dmaWaits s d && !dmaWaits t d then dmaStops rest (d.done - 1) t else t
  | [] => t

/-- The rekey at the head of the queue stops at a store refusal, its POSITION kept, and the next one begins (R526). DESIGN CHOICE: a stopped rekey
keeps none that waits behind it, as a held stream waits for its own region only. -/
def rekeyStops (r : Nat) (s : State) : State :=
  let s := { s with xmem := { s.xmem with
    rekeys := s.xmem.rekeys.drop 1, kept := (r, s.xmem.position) :: s.xmem.kept.filter fun e => !(e.1 == r) } }
  headRekey (refuseHeld r (opStop s cryptPage))

/-- The rekey ends (R523). -/
def rekeyEnds (r : Nat) (s : State) : State :=
  let s := (s.putRegion r modeEncrypted (s.regionGen r + 1) 0).raise Fld.CRYPT_EVENTS_REKEY_DONE
  let s := { s with xmem := { s.xmem with rekeys := s.xmem.rekeys.drop 1, kept := s.xmem.kept.filter fun e => !(e.1 == r) } }
  releaseHeld (headRekey (opDone s cryptPage regionBytes))

/-- 1,024 bytes from POSITION are encrypted anew (R524); undefined bytes stay so. -/
def rekeyBytes (r : Nat) (s : State) : State :=
  let g := s.regionGen r
  let n := s.regionCount r
  (List.range 1024).foldl (fun t k =>
    let a := r * regionBytes + s.xmem.position + k
    match t.extRaw a with
    | none => t
    | some x => t.putExtRaw a (some (x ^^^ keystream t a g n ^^^ keystream t a (g + 1) 0))) s

/-- The rekey engine's next burst (R524, R525): it needs the port and the region's device. -/
def rekeyBurst (s : State) : State :=
  match s.xmem.rekeys with
  | [] => s
  | r :: _ =>
    let s := (s.set Fld.CRYPT_STATUS_REKEYING 1).set Fld.CRYPT_STATUS_REKEY_REGION r
    let nor := s.isNor (r * regionBytes)
    if extCause s (r * regionBytes) 1 ≠ 0 then s
    else
      let copy := if nor && decide (s.xmem.position = 0) then systemTry 9 s else (true, s)
      if !copy.1 then rekeyStops r copy.2
      else
        let s := if copy.2.xmem.position < regionBytes then rekeyBytes r copy.2 else copy.2
        let p := min regionBytes (s.xmem.position + 1024)
        let s := opAt (opFlags { s with xmem := { s.xmem with position := p } } cryptPage true false) cryptPage p regionBytes
        if p < regionBytes then s
        else
          let w := if nor then systemTry 8 s else (true, s)
          if w.1 then rekeyEnds r w.2 else rekeyStops r w.2

/-! ### Register writes -/

/-- A region may not take a mode change (R518). -/
def modeBad (s : State) (r : Nat) : Bool :=
  decide (s.regionMode r = modeRekeying ∨ s.regionMode r = modeExhausted) || (s.devAt (r * regionBytes)).isNone ||
    (s.flag Fld.XMEM_STATUS_STREAM && decide (s.get Fld.XMEM_STATUS_STREAM_REGION = r))

/-- Regions take a mode, one SYSTEM write each; a store refusal stops the run (R518). POSITION is the region reached, and PERCENT counts those
done of the `n` of the request (R70). -/
def changeModes (mode n : Nat) : List Nat → State → Bool × State
  | [], s => (true, s)
  | r :: rs, s =>
    let w := systemTry 8 (opAt s cryptPage (n - (rs.length + 1)) n |>.set ⟨cryptPage * 256 + 5, 0, 32⟩ r)
    if w.1 then changeModes mode n rs (w.2.putRegion r mode (w.2.regionGen r) (w.2.regionCount r))
    else (false, w.2)

/-- A write of CRYPT.REGION_CTRL (R518); one that meets the page's running operation is refused (R71). -/
def writeRegionCtrl (v : Word) (s : State) : State :=
  let s := s.putWord Reg.CRYPT_REGION_CTRL v
  let a := bitsOf v 35 13
  let b := bitsOf v 22 13
  let mode := if bitAt v 21 then modeEncrypted else modePlain
  let rs := (List.range (b + 1 - a)).map (a + ·)
  if !bitAt v 0 then s
  else if opActive s cryptPage then opRefused s cryptPage
  else if b < a || rs.any (modeBad s) then s.raise Fld.CRYPT_EVENTS_MODE_REFUSED
  else
    let r := changeModes mode rs.length rs (opStart s cryptPage 2)
    let s := if mode = modeEncrypted then gatesOn gateCrypt r.2 else r.2
    if r.1 then opDone s cryptPage b else opStop s cryptPage

/-- A stream is open or a rekey runs. -/
def portBusy (s : State) : Bool := s.xmem.stream.isSome || !s.xmem.rekeys.isEmpty

/-- A write of XMEM.BASIC (R512, R529). -/
def writeXmemBasic (v : Word) (s : State) : State :=
  let was := s.flag Fld.XMEM_BASIC_EN
  if bitAt v 47 && s.flag Fld.XMEM_STATUS_ABSENT then s.raise Fld.XMEM_EVENTS_ENABLE_REFUSED
  else if !bitAt v 47 && was && portBusy s then s.raise Fld.XMEM_EVENTS_ENABLE_REFUSED
  else
    let s := s.putWord Reg.XMEM_BASIC v
    if bitAt v 47 && !was then gatesOn gateXspi s
    else if !bitAt v 47 then s.set Fld.XMEM_STATUS_PLL_LOCK 0
    else s

/-- The port's multiplier locks (R512). -/
def portLocks (s : State) : State := if s.flag Fld.XMEM_BASIC_EN then s.set Fld.XMEM_STATUS_PLL_LOCK 1 else s

/-- A stream is open or a rekey runs on device `n`. -/
def devBusy (s : State) (n : Nat) : Bool :=
  (match s.xmem.stream with | some (a, _) => s.devAt (a - 1) == some n | none => false) ||
    s.xmem.rekeys.any fun r => s.devAt (r * regionBytes) == some n

/-- The two PRESENT sizes exceed the external space (R513). -/
def sizesBad (s : State) : Bool :=
  decide (extSpace < (if s.devPresent 0 then s.devSize 0 else 0) + (if s.devPresent 1 then s.devSize 1 else 0))

/-- A write of XMEM.DEVn (R513, R529). -/
def writeDev (n : Nat) (v : Word) (s : State) : State :=
  let t := s.putWord (Reg.XMEM_DEV n) v
  if devBusy s n || decide (bitsOf v 41 5 < 20 ∨ 29 < bitsOf v 41 5) || sizesBad t then s.raise Fld.XMEM_EVENTS_ENABLE_REFUSED else t

/-- A write of XMEM.CMD (R511, R529). -/
def writeCmd (v : Word) (s : State) : State :=
  let s := s.putWord Reg.XMEM_CMD v
  if !bitAt v 0 then s
  else if devBusy s (bitsOf v 39 1) || s.flag Fld.XMEM_CMD_BUSY then opRefused s xmemPage
  else if !s.portReady then extRefuse extAbsent s
  else s.set Fld.XMEM_CMD_BUSY 1

/-- A command completes: the bytes read take the first places of DATA. -/
def cmdDone (data : BitVec 32) (s : State) : State :=
  if s.flag Fld.XMEM_CMD_BUSY then
    let n := min 4 (s.get Fld.XMEM_CMD_NBYTES)
    let keep := 2 ^ (32 - 8 * n)
    let d := data.toNat / keep * keep + s.get Fld.XMEM_CMD_DATA % keep
    let s := (s.set Fld.XMEM_CMD_BUSY 0).raise Fld.XMEM_EVENTS_CMD_DONE
    if s.flag Fld.XMEM_CMD_READ then s.set Fld.XMEM_CMD_DATA d else s
  else s

/-- 10 ms without a continuation (R521); a held write is one that has come (R523). -/
def streamTimeout (s : State) : State :=
  match s.xmem.stream with
  | none => s
  | some (a, t) => if s.xmem.heldWrites.any fun e => e.1 == a then s else closeStream (s.elapseTo (t + 1920000))

/-- A write of XMEM.PROTn (R528). -/
def writeXmemProt (n : Nat) (v : Word) (s : State) : State :=
  if s.flag Fld.FABRIC_PROT_CTRL_FROZEN then s.raise Fld.XMEM_EVENTS_PROT_REFUSED else s.putWord (Reg.XMEM_PROT n) v

/-! ### Commands -/

/-- DMA_DESCRIPTOR: source and destination, each external (a byte address) or in the memory layer (a word address), and the words to
copy, less 1. -/
def execDmaDescriptor (srcExt : Bool) (src : BitVec 29) (dstExt : Bool) (dst : BitVec 29) (count : Fin 65536) (s : State) : Host.Outcome State Fault Refusal :=
  act s fun s => if writesOn s then dmaStart ⟨srcExt, src.toNat, dstExt, dst.toNat, count.val + 1, 0⟩ s else s

/-- DMA_DONE: `found` holds the tiles whose opening read another checksum than the side array. -/
def execDmaDone (found : List (Nat × BitVec 32)) (s : State) : Host.Outcome State Fault Refusal := act s (dmaDone found)

/-- XMEM_EN_WRITE: a write of XMEM.BASIC. -/
def execXmemEnWrite (p : Path) (v : Word) (s : State) : Host.Outcome State Fault Refusal := access s (regWrite p Reg.XMEM_BASIC writeXmemBasic v)

/-- XMEM_PLL_LOCK. -/
def execXmemPllLock (s : State) : Host.Outcome State Fault Refusal := act s portLocks

/-- XMEM_DEV_WRITE: a write of XMEM.DEVn. -/
def execXmemDevWrite (p : Path) (n : Fin 2) (v : Word) (s : State) : Host.Outcome State Fault Refusal := access s (regWrite p (Reg.XMEM_DEV n) (writeDev n) v)

/-- XMEM_CMD_GO: a write of XMEM.CMD. -/
def execXmemCmdGo (p : Path) (v : Word) (s : State) : Host.Outcome State Fault Refusal := access s (regWrite p Reg.XMEM_CMD writeCmd v)

/-- CMD_DONE: the bytes the memory answered, first byte most significant. -/
def execCmdDone (data : BitVec 32) (s : State) : Host.Outcome State Fault Refusal := act s (cmdDone data)

/-- STREAM_TIMEOUT. -/
def execStreamTimeout (s : State) : Host.Outcome State Fault Refusal := act s streamTimeout

/-- REGION_CTRL_GO: a write of CRYPT.REGION_CTRL. -/
def execRegionCtrlGo (p : Path) (v : Word) (s : State) : Host.Outcome State Fault Refusal := access s (regWrite p Reg.CRYPT_REGION_CTRL writeRegionCtrl v)

/-- REKEY_BURST. -/
def execRekeyBurst (s : State) : Host.Outcome State Fault Refusal := act s rekeyBurst

end Sys2Proof.Machine
end

