-- ==== Sys2Proof/Machine/Clock.lean ====
section
/-! DEFINITION. Clock sources, gates, power states and the start-up order of the fabric (R402 to R429, R597). -/
namespace Sys2Proof.Machine

/-- The CLOCK page. -/
def clockPage : Nat := 0x01

/-! ### Judgement of the sources (R402 to R405) -/

/-- The READY flag of a judged source: XTAL, REFIN, RING port A, RING port B. -/
def readyField (src : Nat) : Field :=
  if src = 0 then Fld.CLOCK_STATUS_XTAL_READY else if src = 1 then Fld.CLOCK_STATUS_REFIN_READY
  else if src = 2 then Fld.CLOCK_STATUS_RINGA_READY else Fld.CLOCK_STATUS_RINGB_READY

/-- A window's count lies in the source's range. -/
def windowOk (src count : Nat) : Bool :=
  if src < 2 then decide (3974 ≤ count ∧ count ≤ 4218) else decide (65523 ≤ count ∧ count ≤ 65549)

/-- Windows in range that make a source READY, and windows out of range that clear it. -/
def windowsReady (src : Nat) : Nat := if src < 2 then 8 else 4
def windowsLost (src : Nat) : Nat := if src < 2 then 2 else 1

/-- A judged source is the one in use. -/
def sourceInUse (s : State) (src : Nat) : Bool :=
  s.flag Fld.CLOCK_STATUS_PLL_LOCK &&
    (if src < 2 then decide (s.get Fld.CLOCK_STATUS_CUR_SRC = src) else s.onRing && s.timePort == some (src - 2))

/-- The reset waits for its boot source. -/
def awaitsBoot (s : State) : Bool := s.clock.inReset && s.clock.deep && !s.flag Fld.CLOCK_STATUS_PLL_LOCK

/-- XTAL or REFIN has become READY: the first of them is the boot source, XTAL when both do in the same RC window (R405). -/
def bootChoice (src : Nat) (s : State) : State :=
  let w := Table.get (fun _ => 0) s.clock.windows src
  if awaitsBoot s && decide (src < 2) then
    if s.clock.boot.isNone || (src == 0 && s.clock.bootWindow == w) then
      { s with clock := { s.clock with boot := some src, bootWindow := w } }
    else s
  else s

/-- A READY flag becomes 1 (R402). -/
def becomeReady (src : Nat) (s : State) : State := if s.flag (readyField src) then s else bootChoice src (s.set (readyField src) 1)

/-- A boot source that is READY no more is replaced by the other, when that one is (R405). -/
def loseBoot (src : Nat) (s : State) : State :=
  if awaitsBoot s && decide (s.clock.boot = some src) then
    { s with clock := { s.clock with boot := if src < 2 ∧ s.flag (readyField (1 - src)) then some (1 - src) else none } }
  else s

/-- A READY flag clears (R404). -/
def loseReady (src : Nat) (s : State) : State :=
  if s.flag (readyField src) then
    let s := if sourceInUse s src then { s with clock := { s.clock with record := true } } else s
    let s := loseBoot src (s.set (readyField src) 0)
    if s.clock.inReset then s else s.raise Fld.CLOCK_EVENTS_READY_LOST
  else s

/-- Consecutive windows in and out of range after a window. -/
def countWindow (src : Nat) (ok : Bool) (s : State) : State :=
  let z := fun _ : Nat => 0
  { s with clock := { s.clock with
    good := Table.put z s.clock.good src (if ok then Table.get z s.clock.good src + 1 else 0)
    bad := Table.put z s.clock.bad src (if ok then 0 else Table.get z s.clock.bad src + 1) } }

/-- A judgement window of a source ends with its count (R402). The link of a recovered clock must be UP for its windows to count. -/
def judgeWindow (src count offset : Nat) (s : State) : State :=
  let z := fun _ : Nat => 0
  let s := { s with clock := { s.clock with
    windows := Table.put z s.clock.windows src (Table.get z s.clock.windows src + 1)
    offsets := Table.put z s.clock.offsets src offset } }
  if 2 ≤ src ∧ s.link (src - 2) ≠ linkUp then s
  else
    let s := countWindow src (windowOk src count) s
    if windowsReady src ≤ Table.get z s.clock.good src then becomeReady src s
    else if windowsLost src ≤ Table.get z s.clock.bad src then loseReady src s
    else s

/-- The PLL reports lock after a reset that reached the CLOCK page: its reference is the boot source (R405). -/
def pllLocks (s : State) : State :=
  if awaitsBoot s then
    match s.clock.boot with
    | none => s
    | some b => ((s.set Fld.CLOCK_STATUS_PLL_LOCK 1).set Fld.CLOCK_STATUS_CUR_SRC b).set Fld.CLOCK_BASIC_SRC b
  else s

/-! ### Switches of the core clock source (R406, R407) -/

/-- The judged source that a SRC code names: RING stands for the time port's. -/
def judgedSource (s : State) (src : Nat) : Option Nat :=
  if src < 2 then some src else if src = 2 then s.timePort.map (· + 2) else none

/-- The named source is READY (R402). -/
def sourceReady (s : State) (src : Nat) : Bool :=
  match judgedSource s src with
  | none => false
  | some k => s.flag (readyField k)

/-- The cause that refuses a switch (R406). -/
def switchRefusal (s : State) (src : Nat) : Nat :=
  if sourceReady s src = false then 1
  else if 32 < Table.get (fun _ => 0) s.clock.offsets ((judgedSource s src).getD 0) then 2
  else if src = 2 ∧ s.flag Fld.HIVE_ALIGN_PORT_VALID = false then 3
  else if src = 2 ∧ s.flag Fld.HIVE_ROLE_QUEEN_EN = true then 4
  else if src < 2 ∧ s.onRing = true ∧ (s.bypass = bypassOpening ∨ s.bypass = bypassOpen) then 5
  else if s.inHold = true then 6
  else 0

/-- A write of CLOCK.BASIC (R406). -/
def writeClockBasic (v : Word) (s : State) : State :=
  let src := bitsOf v 46 2
  if src = s.get Fld.CLOCK_BASIC_SRC then s
  else
    let c := switchRefusal s src
    if c = 0 then { s.set Fld.CLOCK_BASIC_SRC src with clock := { s.clock with switchTo := some src } }
    else (s.set Fld.CLOCK_STATUS_SW_CAUSE c).raise Fld.CLOCK_EVENTS_SWITCH_REFUSED

/-- An accepted switch completes (R407); hive time and the bypass rules follow the source in use (R34, R363). -/
def switchDone (s : State) : State :=
  match s.clock.switchTo with
  | none => s
  | some src =>
    let s := { s with clock := { s.clock with switchTo := none } }
    (s.set Fld.CLOCK_STATUS_CUR_SRC src).raise Fld.CLOCK_EVENTS_SWITCHED

/-! ### Gates (R411 to R413) -/

/-- The key engine is in use (R411). -/
def keyEngineInUse (s : State) : Bool :=
  decide (s.runState ≠ combStopped) && (List.range 8).any fun g => decide (s.grpState g ≠ grpOff)

/-- A drive group is in use (R411). -/
def groupInUse (s : State) (g : Nat) : Bool :=
  decide (s.grpState g ≠ grpOff) || s.flag (Fld.GRP_STATUS_START_PENDING g) ||
    (s.flag (Fld.GRP_STATUS_KIND_NOW g) && decide (s.runState ≠ combStopped))

/-- The string channels are in use (R411). -/
def stringsInUse (s : State) : Bool :=
  (List.range 4).any fun n => decide (s.strState n ≠ grpOff) || s.flag (Fld.STRING_STAT_START_PENDING n)

/-- The gates that are in use, as bits of CLOCK.GATE, with the gates above them (R411, R512). -/
def gatesInUse (s : State) : Nat :=
  let on (c : Bool) (m : Nat) : Nat := if c then m else 0
  let groups := (List.range 8).foldl (fun a g => a ||| on (groupInUse s g) (gateGroup g)) 0
  let crypt := s.xmem.regions.any fun e => decide (bitsOf e.2 46 2 ≠ modePlain)
  let regions := bitsOf (s.decl s.activeCtx 6) 40 8
  groups ||| on (decide (biasState s ≠ biasOff)) gateLcdb ||| on (stringsInUse s) gateStrings ||| on (keyEngineInUse s) gateKeyEngine
    ||| on (decide (s.portState 0 ≠ portOff)) (gateRing false) ||| on (decide (s.portState 1 ≠ portOff)) (gateRing true)
    ||| on (s.flag Fld.XMEM_BASIC_EN) gateXspi ||| on crypt gateCrypt
    ||| on (decide (regions ≠ 0)) (regionGates s s.activeCtx)

/-- A write of CLOCK.GATE (R412). -/
def writeGate (v : Word) (s : State) : State :=
  let used := BitVec.ofNat 48 (gatesInUse s)
  let s' := s.putWord Reg.CLOCK_GATE (v ||| used)
  if used &&& ~~~v = 0 then s' else s'.raise Fld.CLOCK_EVENTS_GATE_REFUSED

/-! ### Power states (R424 to R429) -/

/-- The device enters STANDBY (R224, R249, R425): strings go dark, counts are 0, and no point is lit. -/
def enterStandby (s : State) : State :=
  let s := (s.set Fld.CLOCK_POWER_STATE powerStandby).raise Fld.CLOCK_EVENTS_POWER_CHANGED
  stringsDark (zeroCounts { s with
    clock := { s.clock with leaveAt := none }
    twi := { s.twi with woken := false } })

/-- STANDBY has been requested and its entry point comes. -/
def standbyDue (s : State) : Bool := decide (s.power < powerStandby) && decide (s.get Fld.CLOCK_POWER_REQ = powerStandby)

/-- The state changes between RUN and DIM. -/
def powerChange (r : Nat) (s : State) : State :=
  if s.power = r then s.set Fld.CLOCK_POWER_REQ r
  else ((s.set Fld.CLOCK_POWER_REQ r).set Fld.CLOCK_POWER_STATE r).raise Fld.CLOCK_EVENTS_POWER_CHANGED

/-- The exit from STANDBY begins: between frames it counts from this tck (R426). -/
def beginLeaving (s : State) : State :=
  let s := s.set Fld.CLOCK_POWER_LEAVING 1
  if s.comb.standbyFrame && !s.comb.frameEnded && decide (s.runState = combRunning) then s else { s with clock := { s.clock with leaveAt := some s.now } }

/-- REQ = RUN or DIM while in STANDBY (R424). -/
def leaveStandby (r : Nat) (s : State) : State :=
  let s := ((s.set Fld.CLOCK_POWER_REQ r).set Fld.CLOCK_POWER_RETURN r).set Fld.CLOCK_POWER_WAKE_BY 1
  if s.flag Fld.CLOCK_POWER_LEAVING then s else beginLeaving s

/-- A request of a power state (R424, R425, R429). -/
def requestPower (r : Nat) (s : State) : State :=
  if s.inHold || r == 3 then s.raise Fld.CLOCK_EVENTS_POWER_REFUSED
  else if s.inStandby then
    if r < 2 then leaveStandby r s
    else if s.flag Fld.CLOCK_POWER_LEAVING then s.set Fld.CLOCK_POWER_REQ r
    else s
  else if r < 2 then powerChange r s
  else
    let s := (s.set Fld.CLOCK_POWER_RETURN s.power).set Fld.CLOCK_POWER_REQ powerStandby
    if s.runState = combStopped ∨ s.runState = combWaiting then enterStandby s else s

/-- A write of CLOCK.POWER. -/
def writePower (v : Word) (s : State) : State := requestPower (bitsOf v 44 2) s

/-- A DIM waggle acts as a write of REQ, in STANDBY of RETURN (R398, R424). -/
def dimWaggle (on : Bool) (s : State) : State :=
  if s.inStandby then s.set Fld.CLOCK_POWER_RETURN (b2n on) else requestPower (b2n on) s

/-! ### The start-up order (R421 to R423, R597) -/

/-- Step `i` of the start-up order, and the delay after it in tck. -/
def startStep (s : State) (i : Nat) : Nat := bitsOf s.clock.startup (46 - 2 * i) 2
def startDelay (s : State) (i : Nat) : Nat := 1024 * bitsOf s.clock.startup (32 - 8 * i) 8

/-- The clock managers that the active context uses (R454); all of them report lock. -/
def managersUsed (s : State) : Nat := bitsOf (s.decl s.activeCtx 6) 24 8
def managersLocked (s : State) : Bool := decide (managersUsed s &&& s.get Fld.FABRIC_STATUS_CM_LOCK = managersUsed s)

/-- A step of the start-up order has been done: its delay begins, or the order is complete and the fabric RUNNING. -/
def stepDone (s : State) : State :=
  let i := s.clock.stepNo
  if 3 ≤ i then
    let s := { s with clock := { s.clock with stepDue := none, lockSince := none } }
    ((s.set Fld.CLOCK_STATUS_STARTUP_POS 4).set Fld.CLOCK_STATUS_STARTUP_WAIT 0).set Fld.FABRIC_STATUS_FSTATE fabRunning
  else
    let d := startDelay s i
    let s := { s with clock := { s.clock with stepNo := i + 1, stepDue := some (s.now + d), lockSince := none } }
    s.set Fld.CLOCK_STATUS_STARTUP_WAIT (b2n (decide (d ≠ 0)))

/-- A LOCK step: done at once when every clock manager used reports lock, else it waits. -/
def lockStep (s : State) : State :=
  if managersLocked s then stepDone s
  else { s.set Fld.CLOCK_STATUS_STARTUP_WAIT 1 with clock := { s.clock with stepDue := none, lockSince := some s.now } }

/-- The next step of the start-up order, at its time (R421). -/
def startupStep (s : State) : State :=
  match s.clock.stepDue with
  | none => s
  | some t =>
    let s := s.elapseTo t
    let i := s.clock.stepNo
    let s := (s.set Fld.CLOCK_STATUS_STARTUP_POS i).set Fld.CLOCK_STATUS_STARTUP_WAIT 0
    let k := startStep s i
    if k = 0 then lockStep s
    else if k = 1 then stepDone { s with fabric := { s.fabric with uioOn := true } }
    else if k = 2 then stepDone { s with fabric := { s.fabric with gsrOn := true } }
    else stepDone { s with clock := { s.clock with writesOn := true } }

/-- The clock manager of region `r` reports lock (R421, R449, R452): while the fabric is out of reset, for a manager its context uses. -/
def managerLock (r : Nat) (s : State) : State :=
  if (s.fstate = fabStarting ∨ s.fstate = fabRunning) ∧ (managersUsed s).testBit r = true then
    let s := s.set Fld.FABRIC_STATUS_CM_LOCK (s.get Fld.FABRIC_STATUS_CM_LOCK ||| 2 ^ r)
    if s.clock.lockSince.isSome && managersLocked s then stepDone s else s
  else s

/-- A LOCK step has waited 10 ms (R423). -/
def startupSlow (s : State) : State :=
  match s.clock.lockSince with
  | none => s
  | some t => (s.elapseTo (t + 1920000)).raise Fld.CLOCK_EVENTS_STARTUP_SLOW

/-- The four step codes of a start-up word all differ (R422). -/
def stepsDiffer (v : Word) : Bool := decide ([bitsOf v 46 2, bitsOf v 44 2, bitsOf v 42 2, bitsOf v 40 2]).Nodup

/-- A write of CLOCK.STARTUP (R422). -/
def writeStartup (v : Word) (s : State) : State :=
  if stepsDiffer v then s.putWord Reg.CLOCK_STARTUP v else s.raise Fld.CLOCK_EVENTS_STARTUP_REFUSED

/-- CLEAR of CLOCK.RESET_COUNT (R428). -/
def clearResetCounts (s : State) : State := s.setReg Reg.CLOCK_RESET_COUNT 0

/-! ### Commands -/

/-- JUDGE_WINDOW_END: the count of the window, and by how much the source last differed from the source in use over 65,536 periods. -/
def execJudgeWindowEnd (src : Fin 4) (count : Nat) (offset : Nat) (s : State) : Host.Outcome State Fault Refusal :=
  actAlways s (judgeWindow src count offset)

/-- PLL_LOCK. -/
def execPllLock (s : State) : Host.Outcome State Fault Refusal := actAlways s pllLocks

/-- CLOCK_SRC_WRITE: a write of CLOCK.BASIC. -/
def execClockSrcWrite (p : Path) (v : Word) (s : State) : Host.Outcome State Fault Refusal := access s (regWrite p Reg.CLOCK_BASIC writeClockBasic v)

/-- SWITCHED. -/
def execSwitched (s : State) : Host.Outcome State Fault Refusal := act s switchDone

/-- GATE_WRITE: a write of CLOCK.GATE. -/
def execGateWrite (p : Path) (v : Word) (s : State) : Host.Outcome State Fault Refusal := access s (regWrite p Reg.CLOCK_GATE writeGate v)

/-- POWER_REQ_WRITE: a write of CLOCK.POWER. -/
def execPowerReqWrite (p : Path) (v : Word) (s : State) : Host.Outcome State Fault Refusal := access s (regWrite p Reg.CLOCK_POWER writePower v)

/-- STARTUP_STEP. -/
def execStartupStep (s : State) : Host.Outcome State Fault Refusal := act s startupStep

/-- CLOCK_MANAGER_LOCK. -/
def execClockManagerLock (r : Fin 8) (s : State) : Host.Outcome State Fault Refusal := act s (managerLock r)

/-- STARTUP_SLOW. -/
def execStartupSlow (s : State) : Host.Outcome State Fault Refusal := act s startupSlow

/-- STARTUP_WRITE: a write of CLOCK.STARTUP. -/
def execStartupWrite (p : Path) (v : Word) (s : State) : Host.Outcome State Fault Refusal := access s (regWrite p Reg.CLOCK_STARTUP writeStartup v)

/-- RESET_COUNT_CLEAR: a write of CLOCK.RESET_COUNT with CLEAR = 1. -/
def execResetCountClear (p : Path) (s : State) : Host.Outcome State Fault Refusal :=
  access s (fieldWrite p Reg.CLOCK_RESET_COUNT false clearResetCounts)

end Sys2Proof.Machine
end

