-- ==== Sys2Proof/Machine/Balls.lean ====
section
/-! DEFINITION. The ball map: the places of the drive lines and string balls, the power ring, the interior signals and supplies, and the
neighbour pairs that probe slots test (R39 to R46, R52, R53). Drive line ℓ of group g is numbered 48 × g + ℓ. -/
namespace Sys2Proof.Machine

/-- The letters of a row index 1 to 33 (R39). -/
def rowLetters : List String :=
  ["A", "B", "C", "D", "E", "F", "G", "H", "J", "K", "L", "M", "N", "P", "T", "U", "V", "W", "Y",
   "AA", "AB", "AC", "AD", "AE", "AF", "AG", "AH", "AJ", "AK", "AL", "AM", "AN", "AP"]

/-- The name of the ball at a row index and a column, both from 1. -/
def ballName (r c : Nat) : String := rowLetters.getD (r - 1) "" ++ toString c

/-- The block slot k of line ℓ: S-lines first, then C-lines (R41). -/
def lineSlot (l : Nat) : Nat := if 16 ≤ l then l - 16 else l + 32

/-- The line at block slot k (R41). -/
def slotLine (k : Nat) : Nat := if k < 32 then k + 16 else k - 32

/-- Row index and column of tier `t`, position `p` of a group's block (R40). -/
def blockBall (g t p : Nat) : Nat × Nat :=
  match g with
  | 0 => (t + 1, p + 4)
  | 1 => (t + 1, p + 18)
  | 2 => (p + 4, 33 - t)
  | 3 => (p + 18, 33 - t)
  | 4 => (33 - t, 30 - p)
  | 5 => (33 - t, 16 - p)
  | 6 => (30 - p, t + 1)
  | _ => (16 - p, t + 1)

/-- Row index and column of a drive line's ball (R40, R41). -/
def lineBall (g l : Nat) : Nat × Nat := blockBall g (lineSlot l / 12) (lineSlot l % 12)

/-- The balls of string 0 in the order of their names TOP, L16 down to L00, SNS, HDRM (R42). -/
def stringZeroBalls : List (Nat × Nat) :=
  [(1, 1), (1, 2), (1, 3), (2, 3), (2, 2), (2, 1), (3, 1), (3, 2), (3, 3), (4, 3), (4, 2), (4, 1),
   (1, 16), (1, 17), (2, 17), (2, 16), (3, 16), (3, 17), (4, 17), (4, 16)]

/-- The ball `i` (in the order above) of string `n`: string 0 turned `n` quarter-turns clockwise (R42). -/
def stringBall : Nat → Nat → Nat × Nat
  | 0, i => stringZeroBalls.getD i (0, 0)
  | n + 1, i => let b := stringBall n i; (b.2, 34 - b.1)

/-- The 24 balls of one side of the power ring from its beginning corner, clockwise: side 0 is the top (R44). -/
def ringBall (side i : Nat) : Nat × Nat :=
  match side with
  | 0 => (5, 5 + i)
  | 1 => (5 + i, 29)
  | 2 => (29, 29 - i)
  | _ => (29 - i, 5)

/-- The power-ring ball `i` (0 to 11) of a group; even balls are PGNDg, odd ones VLEDg (R44). -/
def powerBall (g i : Nat) : Nat × Nat := ringBall (g / 2) (g % 2 * 12 + i)

/-- The ball of user I/O nn (R45). -/
def uioBall (nn : Nat) : Nat × Nat := (20 + nn / 12, 9 + nn % 12)

/-- The signals and supplies of the balls. Drive line ℓ of group g, tap k of string n, a ring ball of port A (0) or B (1) with its positive or
negative side, user I/O nn. -/
inductive Ball where
  | driveLine (g l : Nat)
  | stringTop (n : Nat)
  | stringTap (n k : Nat)
  | stringSns (n : Nat)
  | stringHdrm (n : Nat)
  | pgnd (g : Nat)
  | vled (g : Nat)
  | ringTx (port : Nat) (positive : Bool)
  | ringRx (port : Nat) (positive : Bool)
  | xtalIn
  | xtalOut
  | refin
  | scl
  | sda
  | addr (k : Nat)
  | resetN
  | panelRstn
  | serviceEn
  | tck
  | tms
  | tdi
  | tdo
  | xspiClk
  | xspiDqs
  | xspiD (k : Nat)
  | xspiCs (k : Nat)
  | ntc (k : Nat)
  | vsupSense
  | mainsZc
  | vlcdCap
  | uio (nn : Nat)
  | vcore
  | vaux
  | vio
  | viox
  | vdrv
  | vss
  deriving DecidableEq, Repr

/-- The interior signal balls but the user I/O (R45). -/
def signalBalls : List ((Nat × Nat) × Ball) :=
  [((15, 6), .ringTx 0 true), ((15, 7), .ringTx 0 false), ((18, 6), .ringRx 0 true), ((18, 7), .ringRx 0 false),
   ((15, 28), .ringTx 1 true), ((15, 27), .ringTx 1 false), ((18, 28), .ringRx 1 true), ((18, 27), .ringRx 1 false),
   ((6, 14), .xtalIn), ((6, 15), .xtalOut), ((6, 17), .refin),
   ((7, 20), .scl), ((7, 21), .sda), ((8, 20), .addr 0), ((8, 21), .addr 1), ((8, 22), .addr 2), ((8, 23), .addr 3),
   ((7, 23), .resetN), ((7, 24), .panelRstn), ((7, 25), .serviceEn), ((8, 25), .tck), ((8, 26), .tms), ((7, 26), .tdi), ((7, 27), .tdo)] ++
  [((9, 20), .xspiClk), ((9, 21), .xspiDqs), ((9, 22), .xspiD 0), ((9, 23), .xspiD 1), ((9, 24), .xspiD 2), ((9, 25), .xspiD 3),
   ((10, 22), .xspiD 4), ((10, 23), .xspiD 5), ((10, 24), .xspiD 6), ((10, 25), .xspiD 7), ((10, 20), .xspiCs 0), ((10, 21), .xspiCs 1),
   ((13, 6), .ntc 0), ((13, 7), .ntc 1), ((14, 6), .vsupSense), ((14, 7), .mainsZc), ((12, 8), .vlcdCap)]

/-- The VAUX balls beside the ring ports (R46). -/
def vauxBalls : List (Nat × Nat) :=
  [(15, 8), (15, 9), (16, 8), (16, 9), (17, 8), (17, 9), (18, 8), (18, 9),
   (15, 26), (16, 26), (17, 26), (18, 26), (16, 27), (16, 28), (17, 27), (17, 28)]

/-- The interior supply ball at a place; every ball that no rule names is VSS (R46). -/
def supplyBall (r c : Nat) : Ball :=
  if 12 ≤ r ∧ r ≤ 19 ∧ 10 ≤ c ∧ c ≤ 25 then (if (r + c) % 2 = 0 then .vcore else .vss)
  else if (r, c) ∈ vauxBalls then .vaux
  else if 20 ≤ r ∧ r ≤ 27 ∧ (c = 8 ∨ c = 21) then .vio
  else if r = 11 ∧ 20 ≤ c ∧ c ≤ 27 then .viox
  else if r = 6 ∧ (6 ≤ c ∧ c ≤ 13 ∨ 21 ≤ c ∧ c ≤ 28) ∨ c = 28 ∧ 20 ≤ r ∧ r ≤ 27 then .vdrv
  else .vss

/-- Ball `i` of a string in the order of R42. -/
def stringName (n i : Nat) : Ball :=
  if i = 0 then .stringTop n else if i < 18 then .stringTap n (17 - i) else if i = 18 then .stringSns n else .stringHdrm n

/-- The balls of the outer rings with their places: drive lines, strings and the power ring (R40 to R44). -/
def outerBalls : List ((Nat × Nat) × Ball) :=
  (List.range 8).flatMap (fun g => (List.range 48).map fun l => (lineBall g l, Ball.driveLine g l)) ++
  (List.range 4).flatMap (fun n => (List.range 20).map fun i => (stringBall n i, stringName n i)) ++
  (List.range 8).flatMap fun g => (List.range 12).map fun i => (powerBall g i, if i % 2 = 0 then Ball.pgnd g else Ball.vled g)

/-- The ball at a row index and a column, both from 1 to 33 (R40 to R46). -/
def ballAt (r c : Nat) : Ball :=
  match (outerBalls ++ signalBalls).find? fun e => decide (e.1 = (r, c)) with
  | some e => e.2
  | none => if 20 ≤ r ∧ r ≤ 27 ∧ 9 ≤ c ∧ c ≤ 20 then .uio (12 * (r - 20) + (c - 9)) else supplyBall r c

/-- Two balls are orthogonal neighbours (R52). -/
def adjacentBalls (a b : Nat × Nat) : Bool :=
  decide (a.1 = b.1 ∧ (a.2 + 1 = b.2 ∨ b.2 + 1 = a.2) ∨ a.2 = b.2 ∧ (a.1 + 1 = b.1 ∨ b.1 + 1 = a.1))

/-- The ball of drive line 48 × g + ℓ. -/
def driveBall (x : Nat) : Nat × Nat := lineBall (x / 48) (x % 48)

/-- The four pairs across groups (R53). -/
def crossPairs : List (Nat × Nat) :=
  [(48 * 1 + 15, 48 * 2 + 4), (48 * 3 + 15, 48 * 4 + 4), (48 * 5 + 15, 48 * 6 + 4), (48 * 7 + 15, 48 * 0 + 4)]

/-- The neighbours of drive line 48 × g + ℓ: along and across the tiers of its block, and across groups (R52, R53). -/
def neighbours (x : Nat) : List Nat :=
  let g := x / 48
  let k := lineSlot (x % 48)
  let own := (if k % 12 ≠ 0 then [k - 1] else []) ++ (if k % 12 ≠ 11 then [k + 1] else []) ++
    (if 12 ≤ k then [k - 12] else []) ++ (if k < 36 then [k + 12] else [])
  own.map (fun j => 48 * g + slotLine j) ++
    crossPairs.filterMap (fun c => if c.1 = x then some c.2 else if c.2 = x then some c.1 else none)

/-- The device's adjacency list: every neighbouring pair once, the lower number first (R52, R53). -/
def adjacency : List (Nat × Nat) :=
  (List.range 384).flatMap fun x => (neighbours x).filterMap fun y => if x < y then some (x, y) else none

end Sys2Proof.Machine
end

