-- ==== Sys2Proof/Machine/Probe.lean ====
section
/-! DEFINITION. PROBE fields: the pairs they test, what they find, and the probe pointers (R52 to R54, R552 to R555). -/
namespace Sys2Proof.Machine

/-- Drive line x is in use and not disabled; it is disabled. -/
def driveOn (s : State) (x : Nat) : Bool := s.lineOn (x / 48) (x % 48)
def driveDisabled (s : State) (x : Nat) : Bool := (s.get (Fld.GRP_LINE_DISABLED_DIS (x / 48))).testBit (x % 48)

/-- The crosspoint at which a C-line and an S-line of one group meet (R554). -/
def meeting (x y : Nat) : Option Nat :=
  if x / 48 ≠ y / 48 then none
  else if x % 48 < 16 ∧ 16 ≤ y % 48 then some (crosspoint (x / 48) (x % 48) (y % 48))
  else if y % 48 < 16 ∧ 16 ≤ x % 48 then some (crosspoint (x / 48) (y % 48) (x % 48))
  else none

/-- A pair of neighbours is tested by a PROBE field of cell `w` (R54, R554). -/
def pairTested (s : State) (w : Word) (x y : Nat) : Bool :=
  (driveOn s x || driveOn s y) && !driveDisabled s x && !driveDisabled s y &&
    (decide (x / 48 = y / 48) || decide (cellType w (y / 48) = slotProbe) || !driveOn s y) &&
    (match meeting x y with
     | none => true
     | some i => !s.isKey i || (decide (s.keyStateOf i = keyOpen) && !keyRaw s i))

/-- The pairs that the PROBE field of group `g` tests, pointer line first; in a retest only the suspects. -/
def probePairs (s : State) (w : Word) (g : Nat) : List (Nat × Nat) :=
  let p := s.probe g
  if p.retest then p.suspects.filter fun e => pairTested s w e.1 e.2
  else ((neighbours (48 * g + p.line)).map fun y => (48 * g + p.line, y)).filter fun e => pairTested s w e.1 e.2

/-- The polarity of a PROBE field: PLANE, or that of the retest when the field can test a suspect pair (R553, R555). -/
def probePolarity (s : State) (w : Word) (g : Nat) : Bool :=
  let p := s.probe g
  if p.retest && !p.demand && !(probePairs s w g).isEmpty then p.polarity else decide (cellPlane w % 2 = 1)

/-- The lines of group `g` that PROBE fields of cell `w` drive weakly high: the pointer under polarity 0, the neighbours of a pointer
under polarity 1 (R553, R554). -/
def weakHigh (s : State) (w : Word) (g : Nat) : List Nat :=
  ((List.range 8).flatMap fun h =>
    if cellType w h = slotProbe ∧ s.grpState h = grpOn then
      if probePolarity s w h then (probePairs s w h).map (·.2) else [48 * h + (s.probe h).line]
    else []).filterMap fun x => if x / 48 = g then some (x % 48) else none

/-- The lines of a group that the pointer walks (R552). -/
def probeLines (s : State) (g : Nat) : List Nat := (List.range 48).filter (s.lineOn g)

/-- The pointer moves to the next line, or to the first one that qualifies. -/
def advancePointer (g : Nat) (s : State) : State :=
  match nextAbove (s.probe g).line (probeLines s g) with
  | none => s
  | some l => s.modProbe g fun p => { p with line := l }

/-- A pointer whose line is disabled or out of use moves on (R552). -/
def pointerSync (g : Nat) (s : State) : State := if s.lineOn g (s.probe g).line then s else advancePointer g s

/-- The open record of a pair in either order. -/
def pairPending (s : State) (x y : Nat) : Option Nat :=
  [objPair x y, objPair y x].find? fun o => s.fault.log.any (recordOf kindProbe o)

/-- A probe finds a pair shorted (R555): a record, or one more REPEAT of the one that is open (R561). -/
def suspectPair (e : Nat × Nat) (s : State) : State :=
  match pairPending s e.1 e.2 with
  | some o => faultUpdate s kindProbe o fun w => withBits w 12 4 (satAdd 4 (bitsOf w 12 4) 1)
  | none => faultPush s kindProbe classPending 0 (objPair e.1 e.2)

/-- A suspect pair is judged by its retest (R555, R557). -/
def judgePair (joined : List (Nat × Nat)) (first : Bool) (e : Nat × Nat) (s : State) : State :=
  let found := e ∈ joined || (e.2, e.1) ∈ joined
  if found && first then
    let map := s.flag Fld.SELFTEST_BASIC_MAP_LINES
    let s := classify s kindProbe (objPair e.1 e.2) classLasting (b2n map)
    if map then { s with fault := { s.fault with disableNext := s.fault.disableNext ++ [e.1, e.2] } } else s
  else classify s kindProbe (objPair e.1 e.2) classTransient 0

/-- A PROBE field of an ON group ends (R552 to R555). -/
def probeField (g : Nat) (w : Word) (joined : List (Nat × Nat)) (s : State) : State :=
  let s := pointerSync g s
  let p := s.probe g
  let pairs := probePairs s w g
  let pol := probePolarity s w g
  let isJoined := fun e : Nat × Nat => (e ∈ joined) || ((e.2, e.1) ∈ joined)
  if p.retest then
    if pairs.isEmpty then s
    else if p.demand then s.modProbe g fun q => { q with demand := false, first := pairs.any isJoined, polarity := !pol }
    else
      let s := pairs.foldl (fun s e => judgePair joined p.first e s) s
      let rest := p.suspects.filter fun e => !(e ∈ pairs)
      let s := busySync (s.modProbe g fun q => { q with suspects := rest, retest := !rest.isEmpty, first := true })
      if rest.isEmpty then advancePointer g s else s
  else
    let found := pairs.filter isJoined
    let mine := found.filter fun e => (pairPending s e.1 e.2).isNone
    let s := found.foldl (fun s e => suspectPair e s) s
    if mine.isEmpty then advancePointer g s
    else busySync (s.modProbe g fun q => { q with suspects := mine, retest := true, polarity := !pol, first := true })

/-- SELFTEST window table 0x01 (R565). -/
def probeEntry (s : State) (g : Nat) : Word :=
  let p := s.probe g
  packWord [(42, 6, p.line), (41, 1, b2n p.retest), (40, 1, b2n p.polarity)]

end Sys2Proof.Machine
end

