-- ==== Sys2Proof/Machine/Lcd.lean ====
section
/-! DEFINITION. LCD waveforms and the DC ledger: the levels of glass lines, what each cell adds to J and W, repayment, balance points and
the advance of the common pointer (R110, R180 to R183, R191, R193 to R200). -/
namespace Sys2Proof.Machine

/-- Level V_i in mV for a target of `vlcd` mV and bias ratio 1/B (R180), taken in whole mV (R193). V_i and V_(B−i) add up to VLCD (R181): a level
of the lower half that is no whole number of mV is rounded down. -/
def biasLevel (vlcd b i : Nat) : Nat := if 2 * i ≤ b then i * vlcd / b else vlcd - (b - i) * vlcd / b

/-- VLCD in mV from the target at the start of the cell (R193). -/
def cellVlcd (s : State) : Nat := 20 * s.lcd.cellTarget

/-- The glass lines of an LCD group: commons 0 to D − 1, and the S-lines in use and not disabled (R181). -/
def glassLines (s : State) (g : Nat) : List Nat := List.range (s.duty g) ++ sLines.filter (s.lineOn g)

/-- The polarity of an LCD cell is − (R182). -/
def cellNegative (s : State) (g : Nat) (w : Word) : Bool :=
  if s.flag (Fld.GRP_LCD_INV g) then decide ((s.grp g).lcdFrame % 2 = 1) else decide (cellPlane w = 1)

/-- The level in mV of a glass line in an LCD cell (R181, R183). -/
def glassLevel (s : State) (g : Nat) (w : Word) (l : Nat) : Nat :=
  let b := max 1 (s.get Fld.LCDB_BASIC_BIAS)
  let v := biasLevel (cellVlcd s) b
  let p := s.get (Fld.GRP_STATUS_PTR g)
  let neg := cellNegative s g w
  if l < 16 then
    if l = p then (if neg then 0 else v b) else (if neg then v (b - 1) else v 1)
  else if bitAt (encodedWord s g p 0) l then (if neg then v b else 0)
  else if s.duty g = 1 then (if neg then 0 else v b)
  else if neg then v (b - 2) else v 2

/-- An LCD group's LCD fields act normally (R184, R186, R199). -/
def lcdActs (s : State) (g : Nat) : Bool := s.lcd.acts && !bankStale s g && !s.inStandby

/-- J or W after adding `d`, and whether it saturated (R196). -/
def dcAdd (x d : Int) : Int × Bool :=
  let lim : Int := 2 ^ 39 - 1
  if lim < x + d then (lim, true) else if x + d < -lim then (-lim, true) else (x + d, false)

/-- Adds to J of a line (key 48 × group + line). -/
def addJ (k : Nat) (d : Int) (s : State) : State :=
  let r := dcAdd (Table.get (fun _ => 0) s.lcd.j k) d
  let s := { s with lcd := { s.lcd with
    j := Table.put (fun _ => 0) s.lcd.j k r.1, jSat := if r.2 && !(k ∈ s.lcd.jSat) then s.lcd.jSat ++ [k] else s.lcd.jSat } }
  if r.2 then s.raise (Fld.GRP_EVENTS_DC_SAT (k / 48)) else s

/-- Adds to W of a line. -/
def addW (k : Nat) (d : Int) (s : State) : State :=
  let r := dcAdd (Table.get (fun _ => 0) s.lcd.w k) d
  let s := { s with lcd := { s.lcd with
    w := Table.put (fun _ => 0) s.lcd.w k r.1, wSat := if r.2 && !(k ∈ s.lcd.wSat) then s.lcd.wSat ++ [k] else s.lcd.wSat } }
  if r.2 then s.raise (Fld.GRP_EVENTS_DC_SAT (k / 48)) else s

/-- The tck for which a line is held, and the level it is held at, in an LCD cell of `len` tck in which its own level is `w` (R195): CMAX is
2^c ÷ 32. -/
def holdOf (vlcd w len cmax : Nat) (j : Int) : Option (Nat × Nat) :=
  let most := len * 2 ^ cmax / 32
  if 16384 ≤ j ∧ 0 < w then some (min (ceilDiv j.toNat w) most, 0)
  else if j ≤ -16384 ∧ w < vlcd then some (min (ceilDiv (-j).toNat (vlcd - w)) most, vlcd)
  else none

/-- The hold of a glass line in LCD cell `w` of `len` tck under the settings at its start, none where the line follows R181 for the whole cell,
as it does when c is 0 (R195). -/
def lineHold (s : State) (g : Nat) (w : Word) (len l : Nat) : Option (Nat × Nat) :=
  if s.lcd.cellComp then
    (holdOf (cellVlcd s) (glassLevel s g w l) len s.lcd.cellCmax (Table.get (fun _ => 0) s.lcd.j (48 * g + l))).filter fun h => h.1 != 0
  else none

/-- What an LCD cell acting normally adds to a glass line (R193, R195). -/
def accountLcdLine (g : Nat) (w : Word) (len l : Nat) (s : State) : State :=
  let lv := glassLevel s g w l
  let k := 48 * g + l
  let hold := lineHold s g w len l
  let s := addW k (((lv : Int) - ((cellVlcd s / 2 : Nat) : Int)) * (len : Int)) s
  match hold with
  | none => s
  | some (c, v) => addJ k (((v : Int) - (lv : Int)) * (c : Int)) s

/-- What a KEY or HEALTH cell adds to a sensing S-line (R193): `code` is the ADC code of the reading, none where none is taken. -/
def accountSense (g : Nat) (w : Word) (len : Nat) (code : Option Nat) (x : Nat) (s : State) : State :=
  let i := crosspoint g (cellCommon w) x
  let k := 48 * g + x
  if cellType w g = slotHealth ∧ chosenOf s g = some i then
    match code with
    | some c => addJ k ((min (2 * readingOf s g c) (vkMv s) * len : Nat) : Int) s
    | none =>
      let f := s.fresh
      addJ k ((f.1.toNat % (vkMv s + 1) * len : Nat) : Int) f.2
  else if s.isKey i && !keyRaw s i then addJ k ((vkMv s * len : Nat) : Int) s
  else s

/-- What the LCD, KEY or HEALTH field of an ON LCD group adds to the DC ledger in a cell of `len` tck (R193): nothing when it acts as IDLE.
DESIGN CHOICE: a cell in which an LCD field stops acting before its end, or the generator leaves ON, counts nothing. -/
def accountField (g : Nat) (w : Word) (len : Nat) (codes : List (BitVec 10)) (s : State) : State :=
  let t := cellType w g
  if t = slotLcd then
    if lcdActs s g then (glassLines s g).foldl (fun s l => accountLcdLine g w len l s) s else s
  else if (t = slotKey ∨ t = slotHealth) ∧ bankStale s g = false then
    let code := if cellKeySample w then some (codes.getD g 1023).toNat else none
    (sLines.filter (s.lineOn g)).foldl (fun s x => accountSense g w len code x s) s
  else s

/-- What a cell of `len` tck adds to the DC ledger of an ON LCD group: its field, and the lines that PROBE fields drive weakly high (R193, R554). -/
def accountGroup (g : Nat) (w : Word) (len : Nat) (codes : List (BitVec 10)) (s : State) : State :=
  ((weakHigh s w g).filter (· ∈ glassLines s g)).foldl (fun s l => addJ (48 * g + l) ((vkMv s * len : Nat) : Int) s)
    (accountField g w len codes s)

/-- What a cell adds to the DC ledger; nothing in STANDBY (R193, R199). -/
def accountLcd (w : Word) (len : Nat) (codes : List (BitVec 10)) (s : State) : State :=
  if s.inStandby then s else (lcdGroupsOn s).foldl (fun s g => accountGroup g w len codes s) s

/-- The settings that R193 and R195 take at the start of a cell. -/
def startLcdCell (s : State) : State :=
  { s with lcd := { s.lcd with
    cellTarget := s.get Fld.LCDB_STATUS_VLCD_TGT, cellCmax := s.get Fld.LCDB_X_COMP_CMAX, cellComp := s.flag Fld.LCDB_X_COMP_COMP_EN } }

/-- COMP_ACTIVE from the first tck on which a line of an LCD group is held in this frame (R195). -/
def markHold (w : Word) (g : Nat) (s : State) : State :=
  if s.isLcd g && decide (s.grpState g = grpOn) && lcdActs s g && decide (cellType w g = slotLcd) &&
      (glassLines s g).any fun l => (lineHold s g w (cellLen s s.activeBank w) l).isSome then
    s.set (Fld.GRP_STATUS_COMP_ACTIVE g) 1
  else s

/-! ### The end of an LCD_ADV cell -/

/-- A balance point: W moves into J for every glass line (R194). -/
def balancePoint (g : Nat) (s : State) : State :=
  (glassLines s g).foldl (fun s l =>
    let k := 48 * g + l
    let s := addJ k (Table.get (fun _ => 0) s.lcd.w k) s
    { s with lcd := { s.lcd with w := Table.put (fun _ => 0) s.lcd.w k 0 } }) s

/-- The largest |J| of a group and its line, the lowest of several (R197). -/
def largestJ (s : State) (g : Nat) : Nat × Nat :=
  (glassLines s g).foldl (fun a l =>
    let v := (Table.get (fun _ => 0) s.lcd.j (48 * g + l)).natAbs
    if a.1 < v then (v, l) else a) (0, 0)

/-- The frame pair in progress ends with the present tck, the last of its cell, and the next begins (R194, R197). -/
def nextPair (g : Nat) (s : State) : State := s.modGrp g fun x => { x with pairStart := s.now + 1 }

/-- The DC debt at an LCD frame pair boundary (R197). -/
def pairBoundary (g : Nat) (s : State) : State :=
  let m := largestJ s g
  let s := s.setReg (Reg.GRP_LCD_DC g) (packWord [(40, 6, m.2), (0, 40, m.1)])
  if 10 * (s.now + 1 - (s.grp g).pairStart) < m.1 then s.raise (Fld.GRP_EVENTS_DC_BACKLOG g) else s

/-- An ON LCD group at the end of an LCD_ADV cell: balance, pair boundary, pointer, polarity (R110, R182, R194, R197). -/
def advanceGroup (g : Nat) (s : State) : State :=
  let p := s.get (Fld.GRP_STATUS_PTR g)
  let wraps := decide (s.duty g ≤ p + 1)
  let frame := (s.grp g).lcdFrame
  let pair := wraps && decide (frame % 2 = 1)
  let inv := s.flag (Fld.GRP_LCD_INV g)
  let s := if s.inStandby then s else
    let s := if !inv || pair then balancePoint g s else s
    if pair then pairBoundary g s else s
  let s := if pair then nextPair g s else s
  let s := s.set (Fld.GRP_STATUS_PTR g) (if wraps then 0 else p + 1)
  let s := if wraps then s.modGrp g fun x => { x with lcdFrame := frame + 1 } else s
  s.setFlag (Fld.GRP_STATUS_POL g) (inv && decide ((s.grp g).lcdFrame % 2 = 1))

/-- A stopping LCD group at the end of an LCD_ADV cell (R187). -/
def countDown (g : Nat) (s : State) : State :=
  let n := s.get (Fld.GRP_STATUS_ADV_LEFT g)
  if s.isLcd g && decide (s.grpState g = grpStopping ∨ s.grpState g = grpRestart) && decide (0 < n) then
    let s := s.set (Fld.GRP_STATUS_ADV_LEFT g) (n - 1)
    if n = 1 then lcdSafe g s else s
  else s

/-- The end of a cell with LCD_ADV = 1 (R110, R187, R191). -/
def lcdAdvance (s : State) : State :=
  let on := lcdGroupsOn s
  let s := on.foldl (fun s g => advanceGroup g s) s
  let s := s.forEach 8 fun g s => if g ∈ on then s else countDown g s
  let s := if inLevel s then s.set Fld.LCDB_STATUS_ADV_LEFT (s.get Fld.LCDB_STATUS_ADV_LEFT - 1) else s
  checkLevel s

/-- The comb is STOPPED: stopping LCD groups and LEVEL are at their safe points (R187, R191). -/
def lcdCombStopped (s : State) : State :=
  checkLevel (s.forEach 8 fun g s =>
    if s.isLcd g && decide (s.grpState g = grpStopping ∨ s.grpState g = grpRestart) then lcdSafe g s else s)

/-- LCDB window tables 0x01 and 0x02: the integral of a line of an ON LCD group (R201). -/
def dcEntry (s : State) (t : Table Int) (sat : List Nat) (k : Nat) : Word :=
  let g := k / 48
  if s.isLcd g && decide (s.grpState g = grpOn) && decide (k % 48 ∈ glassLines s g) then
    packWord [(47, 1, b2n (decide (k ∈ sat))), (0, 40, ofSigned 40 (Table.get (fun _ => 0) t k))]
  else 0

/-- GRPg.STATUS with BIAS_WAIT (R184, R202). -/
def grpStatus (s : State) (g : Nat) : Word := withBits (s.reg (Reg.GRP_STATUS g)) 10 1 (b2n (s.isLcd g && !s.lcd.acts))

end Sys2Proof.Machine
end

