-- ==== Sys2Proof/Machine/Ledger.lean ====
section
/-! DEFINITION. The nectar ledger: the demand of the coming frame, its two plans, the choice between them, the supply and mains monitors
and the energy counters (R309 to R329). -/
namespace Sys2Proof.Machine

/-! ### Demand (R311 to R313) -/

/-- 2^−16 µJ for 1 mW over one tck, as a fraction: 65,536 ÷ 192,000. -/
def perTck (mw : Frac) (t : Nat) : Frac := ⟨mw.num * t * 65536, mw.den * 192000⟩

/-- VLEDg in units of 50 mV, halves upwards (R312). -/
def vledSteps (mv : Nat) : Nat := (mv + 25) / 50

/-- The lines of group `g` in use and not disabled at the coming commit clock (R50, R51, R557, R559). -/
def linesNext (s : State) (g : Nat) : Nat :=
  let bit := fun (l : List Nat) => l.foldl (fun m k => if k / 48 = g then m ||| 2 ^ (k % 48) else m) 0
  let dis := (s.get (Fld.GRP_LINE_DISABLED_DIS g) &&& (2 ^ 48 - 1 - bit s.fault.returnNext)) ||| bit s.fault.disableNext
  s.get (Fld.GRP_LINE_USE_USE g) &&& (2 ^ 48 - 1 - dis)

/-- A group of LED kind that is not OFF, or whose enable takes effect at the coming commit clock: a C-line test that runs at the freeze point holds it
back (R313, R562). -/
def planned (s : State) (bank g vled : Nat) : Bool :=
  let kinds := if bank = s.activeBank then s.comb.activeKinds else s.comb.shadowKinds
  !s.isLcd g && (decide (s.grpState g ≠ grpOff) ||
    (s.flag (Fld.GRP_STATUS_START_PENDING g) && !clampTesting s g && decide (2700 ≤ vled) && !kinds.testBit g))

/-- T_g,n: the lengths of the cells of a bank whose field for group `g` is LED with common `n` and a plane below the plane count (R313). -/
def commonTck (s : State) (cells : List (Word × Nat)) (g n : Nat) : Nat :=
  cells.foldl (fun a c =>
    if cellType c.1 g = slotLed ∧ cellCommon c.1 = n ∧ cellPlane c.1 < s.planesWritten g then a + c.2 else a) 0

/-- Σ over the points of group `g` and class `k` of C_p × T_g,n, from the calibrated points of the coming frame (R313). -/
def levelTck (s : State) (cells : List (Word × Nat)) (points : List (Nat × Nat × Nat)) (g k : Nat) : Nat :=
  let on := linesNext s g
  (List.range 16).foldl (fun a n =>
    if on.testBit n then
      let c := points.foldl (fun a e =>
        if cpGroup e.1 = g ∧ cpCommon e.1 = n ∧ on.testBit (cpLine e.1) = true ∧ e.2.1 / 1024 % 4 = k then a + e.2.1 % 1024 else a) 0
      if c = 0 then a else a + c * commonTck s cells g n
    else a) 0

/-- D_k of SUPPLY and of HEAT from the LED points of group `g`, as exact fractions (R313). -/
def groupDemand (s : State) (cells : List (Word × Nat)) (points : List (Nat × Nat × Nat)) (g vled k : Nat) : Frac × Frac :=
  let u := levelTck s cells points g k * s.get (Fld.GRP_X_DRIVE_ISEG g)
  (perTck ⟨u * vledSteps vled, 1023 * 160⟩ 1, perTck ⟨u * s.get (Fld.GRP_X_DRIVE_DROP g), 1023 * 160⟩ 1)

/-- I_str as a fraction of mA for the settings as written (R208). -/
def stringCurrent (s : State) (n : Nat) : Frac := ⟨200 * s.get (Fld.STRING_CTRL_IREF n), max 1 (s.get (Fld.STRING_CTRL_RSNS n))⟩

/-- The product of two fractions. -/
def Frac.mul (a b : Frac) : Frac := ⟨a.num * b.num, a.den * b.den⟩

/-- D_k of SUPPLY from the lamps of string `n` (R313). -/
def lampDemand (s : State) (f : Nat) (lamps : List (Nat × Nat × Nat)) (n k : Nat) : Frac :=
  if s.strState n = grpOff then ⟨0, 1⟩
  else
    let u := lamps.foldl (fun a e =>
      if e.1 / 16 = n ∧ e.2.1 / 1024 % 4 = k then a + e.2.1 % 1024 * lampVf s n (e.1 % 16) else a) 0
    perTck ((stringCurrent s n).mul ⟨u, 1023 * 20⟩) f

/-- X of SUPPLY and of HEAT from string `n` (R313). -/
def stringBase (s : State) (f n : Nat) : Frac × Frac :=
  if s.strState n = grpOff then (⟨0, 1⟩, ⟨0, 1⟩)
  else
    let i := stringCurrent s n
    let shunts : Frac := (⟨6 * lampCount (fitted s n), 10⟩ : Frac).mul i
    let hm := hmarginMv (s.get (Fld.STRING_X_SEQ_HMARGIN n))
    let top := (Frac.mk (50 * s.get (Fld.STRING_SUP_VLOW n)) 1).max (Frac.add ⟨2 * s.get (Fld.STRING_CTRL_IREF n) + hm, 1⟩ shunts)
    (perTck ((i.mul top).mul ⟨1, 1000⟩) f, perTck ((i.mul (Frac.add ⟨hm, 1⟩ shunts)).mul ⟨1, 1000⟩) f)

/-! ### The two plans (R309, R314) -/

/-- One class of R314's loop: the totals `t`, the factors so far, and whether anything was needed. -/
def scaleClass (allow dk t : Nat × Nat) (floor : Nat) : Nat × (Nat × Nat) :=
  let one := fun (al d t s : Nat) =>
    if t ≤ al then s
    else
      let need := t - al
      min s (if need < d then 256 * (d - need) / d else 0)
  let k := max floor (one allow.2 dk.2 t.2 (one allow.1 dk.1 t.1 256))
  (k, (t.1 - dk.1 + dk.1 * k / 256, t.2 - dk.2 + dk.2 * k / 256))

/-- The procedure of R314: `supply` and `heat` list X and D_0 to D_3. -/
def makePlan (supply heat : List Nat) (allow : Nat × Nat) (floor : Nat) : Plan :=
  let d := fun k => (supply.getD (k + 1) 0, heat.getD (k + 1) 0)
  let r0 := scaleClass allow (d 0) (supply.foldl (· + ·) 0, heat.foldl (· + ·) 0) 0
  let r1 := scaleClass allow (d 1) r0.2 0
  let r2 := scaleClass allow (d 2) r1.2 0
  let r3 := scaleClass allow (d 3) r2.2 floor
  { s0 := r0.1, s1 := r1.1, s2 := r2.1, s3 := r3.1, overDrawn := decide (allow.1 < r3.2.1 ∨ allow.2 < r3.2.2) }

/-- An allowance of `mw` for a frame of `f` tck, in units of 2^−16 µJ (R309). -/
def allowance (mw f : Nat) : Nat := mw * f * 65536 / 192000

/-- The demand and both plans of the coming frame (R310 to R314). -/
def framePlans (s : State) (vled : List Nat) (points lamps : List (Nat × Nat × Nat)) : Plans :=
  let bank := planBank s
  let f := frameLen s bank
  let cells := timedCells s bank
  let groups := (List.range 8).filter fun g => planned s bank g (vled.getD g 0)
  let dk := fun k =>
    let gs := groups.map fun g => groupDemand s cells points g (vled.getD g 0) k
    ((Frac.sum (gs.map (·.1) ++ (List.range 4).map fun n => lampDemand s f lamps n k)).floor, (Frac.sum (gs.map (·.2))).floor)
  let xs := (List.range 4).map (stringBase s f)
  let d := (List.range 4).map dk
  let supply := (Frac.sum (perTck ⟨s.get Fld.LEDGER_LIMITS_BASE_SUPPLY, 1⟩ f :: xs.map (·.1))).floor :: d.map (·.1)
  let heat := (Frac.sum (perTck ⟨s.get Fld.LEDGER_LIMITS_BASE_HEAT, 1⟩ f :: xs.map (·.2))).floor :: d.map (·.2)
  let dim := decide (s.power = powerDim)
  let full := s.get Fld.LEDGER_BASIC_SUPPLY_MW
  let sup := if dim then min full (s.get Fld.LEDGER_LIMITS_DIM_MW) else full
  let heatMw := min 6000 (s.get Fld.LEDGER_BASIC_HEAT_MW)
  let floor := min 256 (s.get Fld.LEDGER_LIMITS_ALARM_FLOOR)
  { normal := makePlan supply heat (allowance sup f, allowance heatMw f) floor
    sag := makePlan supply heat (allowance (min sup (s.get Fld.LEDGER_BASIC_SAG_MW)) f, allowance heatMw f) floor
    supply := supply, heat := heat, dim := dim }

/-- The levels of the coming frame under both plans, with the new fade states, from its calibrated points and lamps (R310, R146, R152). -/
def putLevels (p : Plans) (points lamps : List (Nat × Nat × Nat)) (s : State) : State :=
  let lcd := fun i => s.isLcd (i / 512)
  let never := fun (_ : Nat) => false
  { s with
    ledger := { s.ledger with next := p }
    pipe := { s.pipe with
      fade := mergeFades (s.pipe.fade.length + points.length) s.pipe.fade points
      nextNormal := scaleAll lcd p.normal points, nextSag := scaleAll lcd p.sag points }
    lamps := { s.lamps with
      fade := mergeFades (s.lamps.fade.length + lamps.length) s.lamps.fade lamps
      nextNormal := scaleAll never p.normal lamps, nextSag := scaleAll never p.sag lamps } }

/-- The patterns of string `n` in the coming frame, from a table of its coded levels (R212, R219). -/
def comingPatterns (s : State) (levels : Table Nat) (n : Nat) : List Nat :=
  let planes := s.get (Fld.STRING_CTRL_PLANES n)
  (List.range planes).map fun b =>
    (List.range 16).foldl (fun a k => a + b2n ((encodeLevel (Table.get (fun _ => 0) levels (16 * n + k) % 1024) planes).testBit b) * 2 ^ k) 0
      &&& (65535 - s.get (Fld.STRING_STAT_FAILED n))

/-- The feed-forward currents of string `n`'s patterns of the coming frame (R214). -/
def putFeed (n : Nat) (s : State) : State :=
  s.modStr n fun x => { x with
    nextFf := (comingPatterns s s.lamps.nextNormal n).map (feedForward s n)
    nextFfSag := (comingPatterns s s.lamps.nextSag n).map (feedForward s n) }

/-- The tck of its frame at which each STRING cell of string `n` begins, and its plane (R205). -/
def planeStarts (n planes : Nat) : List (Word × Nat) → Nat → List (Nat × Nat)
  | [], _ => []
  | (w, len) :: r, t =>
    let rest := planeStarts n planes r (t + len)
    if cellType w (4 + n) = slotString ∧ cellPlane w < planes then (t, cellPlane w) :: rest else rest

/-- The holds of a frame of `f` tck that returns to `first`: the plane and weight of each (R205). -/
def planeWeights (f first : Nat) : List (Nat × Nat) → List (Nat × Nat)
  | [] => []
  | (t, b) :: r => (b, (match r with | [] => f + first | e :: _ => e.1) - t) :: planeWeights f first r

/-- SUPPLY and HEAT that string `n` reports for the coming frame, from the patterns frozen for the plan of the present supply state; nothing unless
it is ON (R218). -/
def stringReport (s : State) (n : Nat) : Int × Int :=
  if s.strState n = grpOn then
    let f := frameLen s (planBank s)
    let starts := planeStarts n (s.get (Fld.STRING_CTRL_PLANES n)) (timedCells s (planBank s)) 0
    let pats := comingPatterns s (if sagging s then s.lamps.nextSag else s.lamps.nextNormal) n
    let ff := if sagging s then (s.str n).nextFfSag else (s.str n).nextFf
    let es := (planeWeights f ((starts.headD (0, 0)).1) starts).map fun e =>
      holdEnergy s.get n (clampIh s n (ff.getD e.1 0)) (closedLamps s n (pats.getD e.1 0)) e.2
    (es.foldl (fun a e => a + e.1) 0, es.foldl (fun a e => a + e.2) (regulatorHeat s s.get n f))
  else (0, 0)

/-- The ledger at a freeze point: VLEDg in mV are the readings of the group monitors (R310, R312). The levels of a frame in which no pass
ran stay as they were scaled last. -/
def planFrame (vled : List Nat) (s : State) : State :=
  let s := s.forEach 8 fun g s => s.modGrp g fun x => { x with vledNext := 50 * vledSteps (vled.getD g 0) }
  let points := calibratedPoints s
  let lamps := calibratedLamps s
  let s := (putLevels (framePlans s vled points lamps) points lamps s).forEach 4 putFeed
  { s with ledger := { s.ledger with next := { s.ledger.next with strings := (List.range 4).map (stringReport s) } } }

/-! ### The plan now driven (R310, R315, R319, R320) -/

/-- SAG_PLAN and FACTORS show the plan now driven (R319, R328). -/
def showPlan (sag : Bool) (s : State) : State :=
  let p := if sag then s.ledger.lit.sag else s.ledger.lit.normal
  (s.setFlag Fld.LEDGER_STATUS_SAG_PLAN sag).setReg Reg.LEDGER_FACTORS
    (packWord [(39, 9, p.s0), (30, 9, p.s1), (21, 9, p.s2), (12, 9, p.s3), (11, 1, b2n sag)])

/-- A demand in units of 1/16 µJ as a 24-bit field shows it; what it shows above 2^24 − 1 the manual does not state: a free value. -/
def demandField (s : State) (e : Nat) : Nat := if e / 4096 < 2 ^ 24 then e / 4096 else Config.freeValue s.freeCount |>.toNat

/-- LEDGER.DEMAND of the frame now lit. -/
def showDemand (s : State) : State :=
  let sup := s.ledger.lit.supply.foldl (· + ·) 0
  let heat := s.ledger.lit.heat.foldl (· + ·) 0
  let v := packWord [(24, 24, demandField s sup), (0, 24, demandField s heat)]
  { s.setReg Reg.LEDGER_DEMAND v with freeCount := s.freeCount + b2n (decide (2 ^ 24 ≤ max sup heat / 4096)) }

/-- The coming frame's levels and plans become those of the frame now lit (R156, R158, R310). -/
def lightFrame (s : State) : State :=
  let s := { s with
    ledger := { s.ledger with lit := s.ledger.next, sagFrom := none }
    pipe := { s.pipe with litNormal := s.pipe.nextNormal, litSag := s.pipe.nextSag }
    lamps := { s.lamps with litNormal := s.lamps.nextNormal, litSag := s.lamps.nextSag } }
  let s := s.forEach 8 fun g s => s.modGrp g fun x => { x with vledLit := x.vledNext }
  s.forEach 4 fun n s => s.modStr n fun x => { x with litFf := x.nextFf, litFfSag := x.nextFfSag }

/-- The choice of the plan at a commit clock, with OVER (R310, R315). -/
def choosePlan (s : State) : State :=
  let sag := sagging s
  let s := showDemand (showPlan sag (s.setFlag Fld.LEDGER_STATUS_DIM s.ledger.lit.dim))
  let overDrawn := if sag then s.ledger.lit.sag.overDrawn else s.ledger.lit.normal.overDrawn
  let s := s.setFlag Fld.LEDGER_STATUS_OVER overDrawn
  if overDrawn then s.raise Fld.LEDGER_EVENTS_OVER else s

/-- The first tck of a cell: the change to the sag plan that an entry to SAG ordered at least 16 tck before (R319). -/
def sagAtCell (s : State) : State :=
  match s.ledger.sagFrom with
  | none => s
  | some t =>
    if t ≤ s.now then
      let s := showPlan true { s with ledger := { s.ledger with sagFrom := none } }
      s.setFlag Fld.LEDGER_STATUS_OVER s.ledger.lit.sag.overDrawn
    else s

/-! ### Supply and mains monitors (R316 to R318) -/

/-- SUP_STATE takes a value. -/
def putSupply (v : Nat) (s : State) : State := s.set Fld.LEDGER_STATUS_SUP_STATE v

/-- SAG is entered from NORMAL (R318, R319). -/
def enterSag (s : State) : State :=
  let s := (putSupply 1 s).raise Fld.LEDGER_EVENTS_SAG
  { s with ledger := { s.ledger with sagFrom := if s.flag Fld.LEDGER_STATUS_SAG_PLAN then none else some (s.now + 16) } }

/-- RECOVERING is entered: the timer starts (R318). -/
def enterRecovering (s : State) : State := { putSupply 2 s with ledger := { s.ledger with recoverStart := s.now } }

/-- A sample judged against the thresholds in force (R316, R318, R328). -/
def judgeSample (v : Nat) (s : State) : State :=
  let low := decide (v < s.get Fld.LEDGER_MON_SAG_THR)
  let good := decide (s.get Fld.LEDGER_MON_RECOVER_THR ≤ v)
  let run := if low then s.ledger.lowRun + 1 else 0
  let s := { s with ledger := { s.ledger with lowRun := run } }
  let st := s.get Fld.LEDGER_STATUS_SUP_STATE
  if st = 0 then (if low && decide (s.get Fld.LEDGER_MON_SAG_N ≤ run) then enterSag s else s)
  else if st = 1 then
    (if good && (!s.flag Fld.LEDGER_MON_ZC_EN || s.flag Fld.LEDGER_STATUS_ZC_LOCK) then enterRecovering s else s)
  else if good then s
  else putSupply 1 s

/-- A sample of VSUP_SENSE at the next hive tick that is a multiple of 192 (R316). -/
def vsupSample (v : Nat) (s : State) : State :=
  let s := s.elapse (s.toNextGrid 192 s.ledger.lastSample)
  judgeSample v ({ s with ledger := { s.ledger with lastSample := some s.now } }.set Fld.LEDGER_STATUS_VSUP v)

/-- Eight intervals agree (R317): each from 4.0 ms to 12.0 ms and within ZC_SLACK × 0.1 ms of their mean. -/
def zcAgree (slack : Nat) (xs : List Nat) : Bool :=
  let sum := xs.foldl (· + ·) 0
  decide (xs.length = 8) && xs.all fun x =>
    decide (768000 ≤ x ∧ x ≤ 2304000 ∧ 8 * x ≤ sum + 8 * 19200 * slack ∧ sum ≤ 8 * x + 8 * 19200 * slack)

/-- The half-period H in tck, the mean of the last eight intervals (R317). -/
def zcPeriod (s : State) : Nat := ceilDiv (s.ledger.intervals.foldl (· + ·) 0) 8

/-- A crossing is accepted (R317). -/
def zcAccept (s : State) : State :=
  let xs := match s.ledger.lastCross with
    | none => s.ledger.intervals
    | some t => ((s.now - t) :: s.ledger.intervals).take 8
  let s := { s with ledger := { s.ledger with intervals := xs, lastCross := some s.now, lastHalf := s.now, missing := 0 } }
  if zcAgree (s.get Fld.LEDGER_MON_ZC_SLACK) xs then s.set Fld.LEDGER_STATUS_ZC_LOCK 1 else s

/-- An edge of MAINS_ZC (R317). -/
def zcEdge (rising : Bool) (s : State) : State :=
  let early := match s.ledger.lastCross with | none => false | some t => decide (s.now < t + 192000)
  if s.flag Fld.LEDGER_MON_ZC_EN && (rising != s.flag Fld.LEDGER_MON_ZC_POL) && !early then zcAccept s else s

/-- ZC_LOCK becomes 0; RECOVERING falls back to SAG while the mains input is used (R317, R318). -/
def zcUnlock (s : State) : State :=
  let was := s.flag Fld.LEDGER_STATUS_ZC_LOCK
  let s := s.set Fld.LEDGER_STATUS_ZC_LOCK 0
  if was && s.flag Fld.LEDGER_MON_ZC_EN && decide (s.get Fld.LEDGER_STATUS_SUP_STATE = 2) then putSupply 1 s else s

/-- A half-cycle is missing (R317, R318). -/
def zcMissing (s : State) : State :=
  if s.flag Fld.LEDGER_STATUS_ZC_LOCK && s.flag Fld.LEDGER_MON_ZC_EN then
    let s := s.elapseTo (s.ledger.lastHalf + zcPeriod s + 19200 * s.get Fld.LEDGER_MON_ZC_SLACK)
    let n := s.ledger.missing + 1
    let s := ({ s with ledger := { s.ledger with missing := n, lastHalf := s.now } }).raise Fld.LEDGER_EVENTS_ZC_MISSING
    let st := s.get Fld.LEDGER_STATUS_SUP_STATE
    let s := if st = 0 then enterSag s else if st = 2 then putSupply 1 s else s
    if 8 ≤ n then (zcUnlock s).raise Fld.LEDGER_EVENTS_ZC_LOST else s
  else s

/-- The recovery timer reaches RECOVER × 10 ms (R318, R320, R328). -/
def recovered (s : State) : State :=
  if s.get Fld.LEDGER_STATUS_SUP_STATE = 2 then
    let s := s.elapseTo (s.ledger.recoverStart + 1920000 * s.get Fld.LEDGER_MON_RECOVER)
    (putSupply 0 s).raise Fld.LEDGER_EVENTS_RECOVERED
  else s

/-! ### Writes (R324, R326, R328) -/

/-- A RECOVER below the time already counted: the recovery timer ends on the next tck (R328). -/
def recoverSoon (s : State) : State :=
  let r := 1920000 * s.get Fld.LEDGER_MON_RECOVER
  if s.get Fld.LEDGER_STATUS_SUP_STATE = 2 ∧ s.ledger.recoverStart + r < s.now then
    { s with ledger := { s.ledger with recoverStart := s.now + 1 - r } }
  else s

/-- A write of LEDGER.MON (R328). -/
def writeMon (v : Word) (s : State) : State :=
  if bitsOf v 20 4 = 0 ∨ bitsOf v 12 8 = 0 ∨ bitsOf v 5 5 = 0 ∨ bitsOf v 24 12 ≤ bitsOf v 36 12 then s.raise Fld.LEDGER_EVENTS_SET_REFUSED
  else
    let t := recoverSoon (s.putWord Reg.LEDGER_MON v)
    if bitsOf (t.reg Reg.LEDGER_MON) 5 7 = bitsOf (s.reg Reg.LEDGER_MON) 5 7 then t else zcUnlock t

/-- BASE_HEAT takes a value, or keeps its own (R324). -/
def writeBaseHeat (v : Nat) (s : State) : State :=
  let t := s.set Fld.LEDGER_LIMITS_BASE_HEAT v
  if guardOk t then t else s.raise Fld.LEDGER_EVENTS_SET_REFUSED

/-- A write of LEDGER.LIMITS (R324, R327). -/
def writeLimits (v : Word) (s : State) : State :=
  let old := s.get Fld.LEDGER_LIMITS_BASE_HEAT
  writeBaseHeat (bitsOf v 12 11) ((s.putWord Reg.LEDGER_LIMITS v).set Fld.LEDGER_LIMITS_BASE_HEAT old)

/-- A write of LEDGER.CTR (R326). -/
def clearCounters (sup heat : Bool) (s : State) : State :=
  let s := if sup then s.setReg Reg.LEDGER_ENERGY_SUP 0 else s
  if heat then s.setReg Reg.LEDGER_ENERGY_HEAT 0 else s

/-! ### Energy (R218, R325) -/

/-- The regulator's heat of a string for the tck of the frame that it was ON (R218, R325). -/
def accountRegulator (n : Nat) (s : State) : State :=
  (addEnergy 0 (regulatorHeat s s.inForce n (s.str n).onTck) s).modStr n fun x => { x with onTck := 0 }

/-- What a cell of `len` tck adds to the energy of its frame (R325). -/
def accountCell (w : Word) (len : Nat) (s : State) : State := if s.inStandby then s else s.forEach 8 fun g s => accountLed g w len s

/-- The base terms for `len` tck (R325). -/
def accountBase (len : Nat) (s : State) : State :=
  addEnergy (160 * s.inForce Fld.LEDGER_LIMITS_BASE_SUPPLY * len : Nat) (160 * s.inForce Fld.LEDGER_LIMITS_BASE_HEAT * len : Nat) s

/-- The accounted energy goes to the counters in whole µJ, the fraction is carried (R325, R326). -/
def postEnergy (s : State) : State :=
  let u := 30720000
  let sup := floorDiv s.ledger.supAcc u
  let heat := floorDiv s.ledger.heatAcc u
  let s := s.setReg Reg.LEDGER_ENERGY_SUP (s.reg Reg.LEDGER_ENERGY_SUP + BitVec.ofInt 48 sup)
  let s := s.setReg Reg.LEDGER_ENERGY_HEAT (s.reg Reg.LEDGER_ENERGY_HEAT + BitVec.ofInt 48 heat)
  { s with ledger := { s.ledger with supAcc := s.ledger.supAcc - sup * u, heatAcc := s.ledger.heatAcc - heat * u } }

/-- The energy of the frame that has just ended, `len` tck long, is added to the counters (R325). -/
def frameEnergy (len : Nat) (s : State) : State :=
  postEnergy ((accountBase len s).forEach 4 accountRegulator)

/-! ### Window tables (R329) -/

/-- LEDGER window table 0x01, entry g. -/
def groupFigures (s : State) (g : Nat) : Word :=
  packWord [(40, 8, (s.grp g).vledLit / 50), (20, 20, ledTck s s.activeBank g), (6, 14, (groupHeat s s.activeBank g).ceil)]

/-- LEDGER window table 0x02. -/
def demandEntry (s : State) (e : Nat) : Word :=
  let l := fun (a : Nat) => if a = 0 then s.ledger.lit.supply else s.ledger.lit.heat
  if e < 8 then
    let d := (l (e / 4)).getD (e % 4 + 1) 0
    let p := if s.flag Fld.LEDGER_STATUS_SAG_PLAN then s.ledger.lit.sag else s.ledger.lit.normal
    packWord [(24, 24, demandField s d), (0, 24, demandField s (d * p.factor (e % 4) / 256))]
  else
    let x := (l (e - 8)).getD 0 0
    packWord [(24, 24, demandField s x), (0, 24, demandField s x)]

/-! ### Commands -/

/-- VSUP_SAMPLE: the ADC code. -/
def execVsupSample (v : BitVec 12) (s : State) : Host.Outcome State Fault Refusal := actIn 2 s (vsupSample v.toNat)

/-- ZC_EDGE: a rising or a falling edge. -/
def execZcEdge (rising : Bool) (s : State) : Host.Outcome State Fault Refusal := actIn 2 s (zcEdge rising)

/-- ZC_MISSING. -/
def execZcMissing (s : State) : Host.Outcome State Fault Refusal := actIn 2 s zcMissing

/-- RECOVERED. -/
def execRecovered (s : State) : Host.Outcome State Fault Refusal := actIn 2 s recovered

/-- LEDGER_MON_WRITE. -/
def execLedgerMonWrite (p : Path) (v : Word) (s : State) : Host.Outcome State Fault Refusal :=
  access s (fieldWrite p Reg.LEDGER_MON true (writeMon v))

/-- BASE_HEAT_WRITE. -/
def execBaseHeatWrite (p : Path) (v : BitVec 11) (s : State) : Host.Outcome State Fault Refusal :=
  access s (fieldWrite p Reg.LEDGER_LIMITS true (writeBaseHeat v.toNat))

/-- CTR_CLEAR. -/
def execCtrClear (p : Path) (sup heat : Bool) (s : State) : Host.Outcome State Fault Refusal :=
  access s (fieldWrite p Reg.LEDGER_CTR false (clearCounters sup heat))

end Sys2Proof.Machine
end

