-- ==== Sys2Proof/Machine/Scrub.lean ====
section
/-! DEFINITION. The scrubber: passes, slots, detours, the map scrub and the votes over its own state (R466, R469 to R480). -/
namespace Sys2Proof.Machine

/-- The SCRUB page and the slots of a pass. -/
def scrubPage : Nat := 0x29
def slotsPerPass : Nat := 98304

/-- Slot length of the pass in progress (R469). -/
def slotLength (s : State) : Nat := 80 * 2 ^ bitsOf s.config.basic 45 3

/-- Context, tile and frame of the slot in hand (R469). -/
def slotCtx (s : State) : Nat := (s.config.base + s.config.slot / 12288) % 8
def slotFa (s : State) : Nat := s.config.slot % 12288

/-- SCRUB.STATUS shows the frame in hand. -/
def showSlot (c fa : Nat) (s : State) : State :=
  ((s.set Fld.SCRUB_STATUS_CTX c).set Fld.SCRUB_STATUS_TILE (fa / 256)).set Fld.SCRUB_STATUS_FRAME (fa % 256)

/-- A pass begins (R469, R475, R477): its settings come from the shadow copy, SCRUB.BASIC. -/
def beginPass (s : State) : State :=
  let s := { s with config := { s.config with
    slot := 0, base := s.activeCtx, basic := s.reg Reg.SCRUB_BASIC, passStart := s.now } }
  let s := s.set Fld.SCRUB_STATUS_MAP_DONE 0
  let s := { s with config := { s.config with slotEnd := s.now + slotLength s } }
  opStart (showSlot (slotCtx s) 0 s) scrubPage 1

/-- An upset inverts bits of a frame. -/
def upsetFrame (c fa : Nat) (flips : List Nat) (s : State) : State :=
  if flips.isEmpty then s
  else { s with config := { s.config with
    frames := Table.putList (fun _ => 0) s.config.frames ((12288 * c + fa) * 65) (flips.foldl flipFrameBit (frameWords s c fa)) } }

/-- A frame is read, decoded and acted on (R470). -/
def scrubFrame (c fa : Nat) (s : State) : State :=
  match decodeWords (frameWords s c fa) with
  | .clean => s
  | .single p => correctInPlace c fa p s
  | .bad => reloadFrame c fa s

/-- A context that is read: neither EMPTY nor LOADING (R469). -/
def readable (s : State) (c : Nat) : Bool := decide (s.ctxState c = ctxUnverified ∨ s.ctxState c = ctxVerified)

/-- A slot of the pass (R469, R470, R473). -/
def passSlot (flips : List Nat) (s : State) : State :=
  let c := slotCtx s
  let fa := slotFa s
  let s :=
    if readable s c then
      let s := scrubFrame c fa (upsetFrame c fa flips s)
      if fa % 256 = 255 then checkTile c (fa / 256) s else s
    else s
  if s.config.slot + 1 = slotsPerPass then
    beginPass (s.setReg Reg.SCRUB_PASSES (withBits (s.reg Reg.SCRUB_PASSES) 16 32 (s.get Fld.SCRUB_PASSES_PASSES + 1)))
  else
    let s := { s with config := { s.config with slot := s.config.slot + 1 } }
    opAt (showSlot (slotCtx s) (slotFa s) s) scrubPage s.config.slot slotsPerPass

/-- A slot of the detour in hand (R474): a rebuild reloads each frame, another detour scrubs it. -/
def detourSlot (d : Detour) (flips : List Nat) (s : State) : State :=
  match d.tiles with
  | [] => { s with config := { s.config with detours := s.config.detours.drop 1, detourFrame := 0 } }
  | k :: ts =>
    let c := k / 48
    let t := k % 48
    let fa := 256 * t + s.config.detourFrame
    let s := upsetFrame c fa flips s
    let s := if d.rebuild then reloadFrame c fa s else scrubFrame c fa s
    if s.config.detourFrame < 255 then { s with config := { s.config with detourFrame := s.config.detourFrame + 1 } }
    else
      let rest : List Detour := if ts.isEmpty then [] else [{ d with tiles := ts }]
      checkTile c t { s with config := { s.config with detours := rest ++ s.config.detours.drop 1, detourFrame := 0 } }

/-- SCRUB.STATUS.DETOUR, and the end of the next slot. -/
def nextSlot (s : State) : State :=
  let s := s.setFlag Fld.SCRUB_STATUS_DETOUR (!s.config.detours.isEmpty)
  { s with config := { s.config with slotEnd := s.now + slotLength s } }

/-- The slot in progress ends; `flips` are the bits of its frame that upsets have inverted since it was written. -/
def scrubSlot (flips : List Nat) (s : State) : State :=
  let s := opFlags (s.elapseTo s.config.slotEnd) scrubPage true false
  match s.config.detours with
  | d :: _ => nextSlot (detourSlot d flips s)
  | [] => nextSlot (passSlot flips s)

/-- `n` slots without an upset. -/
def quietSlots : Nat → State → State
  | 0, s => s
  | n + 1, s => quietSlots n (scrubSlot [] s)

/-- The slots that the first detours take, up to the end of the first that verifies a load. -/
def slotsToVerify : List Detour → Nat
  | [] => 0
  | d :: r => 256 * d.tiles.length + (if d.rebuild then slotsToVerify r else 0)

/-- A verify detour waits or runs. -/
def verifying (s : State) : Bool := s.config.detours.any fun d => !d.rebuild

/-- The verify detour ends and the load completes (R466): the rest of the detour runs first. -/
def loadComplete (s : State) : State :=
  match s.config.load with
  | none => s
  | some l =>
    if s.loader = loaderVerify then
      let s := if verifying s then quietSlots (slotsToVerify s.config.detours - s.config.detourFrame) s else s
      let s := (opDone (loadGone (s.set Fld.CONFIG_LOAD_STAT_CAUSE 0)) configPage (framesOf l)).raise Fld.CONFIG_EVENTS_LOAD_DONE
      fabricReady (if s.slot = slotChecking then runLoads s.update.toLoad s else s)
    else s

/-! ### The map memory (R475, R476) -/

/-- A word of the map memory: 8 × (48 × context + tile) + k, k 0 to 5 the map words, 6 the digest, 7 the source. A corrected word keeps
its value; an uncorrectable one reads as found. DESIGN CHOICE: as the manual gives FA and BIT of kinds 5 and 6 no value, FA is frame 0 of
the tile and BIT 0xFFF. -/
def mapWordFound (k : Nat) (found : Option Word) (s : State) : State :=
  let tile := k / 8
  let c := tile / 48
  let t := tile % 48
  match found with
  | none => lastError 5 c (256 * t) 0xFFF s
  | some w =>
    let s := (lastError 6 c (256 * t) 0xFFF s).raise Fld.SCRUB_EVENTS_MAP_LOST
    if k % 8 < 6 then
      let i := 6 * tile + k % 8
      { s with config := { s.config with map := Table.put (fun _ => 0) s.config.map i w, mapLost := i :: s.config.mapLost } }
    else if k % 8 = 6 then loseTile c t true { s with config := { s.config with digests := Table.put (fun _ => 0) s.config.digests tile w } }
    else loseTile c t true { s with config := { s.config with sources := Table.put (fun _ => 0) s.config.sources tile w } }

/-- The map scrub of a pass completes, and the errors that waited for it are judged. -/
def mapScrubDone (found : List (Nat × Option Word)) (s : State) : State :=
  let s := found.foldl (fun s e => if e.1 < 3072 then mapWordFound e.1 e.2 s else s) s
  let waits := s.config.waits
  let s := { s with config := { s.config with waits := [] } }.set Fld.SCRUB_STATUS_MAP_DONE 1
  waits.foldl (fun s e => judgeEssential e s) s

/-! ### The scrubber's own state (R477, R478, R557) -/

/-- A disagreement is counted and raised. -/
def selfUpset (s : State) : State := (s.raise Fld.SCRUB_EVENTS_SELF_UPSET).bump Fld.SCRUB_COUNTS_SELF_UPSETS 1

/-- No two copies agree: a new pass from slot 0; the tile check in progress is dropped, in a detour too (R477). -/
def restartPass (s : State) : State :=
  let s := { s with config := { s.config with detourFrame := 0 } }
  (beginPass (selfUpset s)).raise Fld.SCRUB_EVENTS_PASS_RESTART

/-- A vote disagrees. While one copy has left the vote, a disagreement of the other two acts as if no two agreed (R557). -/
def vote (v : Vote) (s : State) : State :=
  match v with
  | .tileBit c t => putTileBit c t false (selfUpset s)
  | .control k => if s.config.copiesOut.isEmpty then startTest (selfUpset s) kindScrubReg (objCopy k) else restartPass s
  | .allDiffer => restartPass s

/-- SCRUB.BASIC (R480). -/
def writeScrubBasic (v : Word) (s : State) : State :=
  if bitsOf v 43 2 = 3 then s.raiseBit scrubPage 45 else s.putWord Reg.SCRUB_BASIC v

/-- SCRUB.PASSES (R480). -/
def writePasses (v : Word) (s : State) : State := if bitAt v 0 then (s.setReg Reg.SCRUB_PASSES 0).setReg Reg.SCRUB_COUNTS 0 else s

/-! ### Commands -/

/-- LOAD_DONE. -/
def execLoadDone (s : State) : Host.Outcome State Fault Refusal := act s loadComplete

/-- SCRUB_SLOT: `flips` are the inverted bits of the frame read: data bits 0 to 3,071, then 3,072 + bit of the check field. -/
def execScrubSlot (flips : List (Fin 3088)) (s : State) : Host.Outcome State Fault Refusal := act s (scrubSlot (flips.map (·.val)))

/-- MAP_SCRUB_DONE: the words in which the map scrub found an error. -/
def execMapScrubDone (found : List (Nat × Option Word)) (s : State) : Host.Outcome State Fault Refusal := act s (mapScrubDone found)

/-- SELF_UPSET. -/
def execSelfUpset (v : Vote) (s : State) : Host.Outcome State Fault Refusal := act s (vote v)

/-- SCRUB_BASIC_WRITE. -/
def execScrubBasicWrite (p : Path) (v : Word) (s : State) : Host.Outcome State Fault Refusal := access s (regWrite p Reg.SCRUB_BASIC writeScrubBasic v)

/-- PASSES_CLEAR: a write of SCRUB.PASSES. -/
def execPassesClear (p : Path) (v : Word) (s : State) : Host.Outcome State Fault Refusal := access s (regWrite p Reg.SCRUB_PASSES writePasses v)

end Sys2Proof.Machine
end

