-- ==== Sys2Proof/Machine/SelfTest.lean ====
section
/-! DEFINITION. Outcomes of self-tests, tests on demand, lines out of and into service, and the fault log's clearing (R556 to R566). -/
namespace Sys2Proof.Machine

/-- The part of an OBJECT code (R564). -/
def objTileOf (o : Nat) : Nat := o / 2 ^ 12 % 4096
def objLineOf (o : Nat) : Nat := 48 * (o / 2 ^ 21 % 8) + o / 2 ^ 15 % 64
def objOtherOf (o : Nat) : Nat := 48 * (o / 2 ^ 12 % 8) + o / 2 ^ 6 % 64
/-- The line fields of a pair's code name lines 0 to 47. -/
def objLinesExist (o : Nat) : Bool := decide (o / 2 ^ 15 % 64 < 48 ∧ o / 2 ^ 6 % 64 < 48)
def objSectorOf (o : Nat) : Nat := o / 2 ^ 13 % 2048

/-- The next test of a kind begins, or its engine is free (R560, R565). -/
def nextTest (kind : Nat) (s : State) : State :=
  let s := busySync (beginTest kind s)
  if kind = kindMemTile then
    if s.fault.tests.any fun t => t.kind == kind then tileTestProgress s kind else opDone s 0x30 20480
  else s

/-- A tile's test ends TRANSIENT: FAILED, every word 0 (R436). -/
def tileTransient (t : Nat) (s : State) : State := (s.zeroTile t).setTileState t tileFailed

/-- A tile's test ends LASTING: a spare takes its address, or it is RETIRED (R436, R557); the result says whether it was mapped out. -/
def tileLasting (t : Nat) (s : State) : Bool × State :=
  let left := s.get Fld.FABRIC_STATUS_SPARES_LEFT
  if left = 0 then (false, s.setTileState t tileRetired)
  else
    let s := tileTransient t (s.set Fld.FABRIC_STATUS_SPARES_LEFT (left - 1))
    (true, s.modTile t fun w => withBits (withBits w 45 1 1) 40 5 (32 - left))

/-- A store sector's test ends LASTING: it is retired and its place moves to a pool sector, or the write is refused (R483, R484, R557). -/
def sectorLasting (p : Nat) (s : State) : Bool × State :=
  let r := if p ∈ s.store.reserved then moveSector p s
    else match (List.range logicalSectors).find? fun l => s.physOf l == p with
      | some l => moveLogical l s
      | none => none
  match r with
  | some (_, t) => (true, t)
  | none => (false, s.raise Fld.STORE_EVENTS_WORN)

/-- What a LASTING error maps out (R557). -/
def lastingOutcome (t : TestReq) (s : State) : Bool × State :=
  if t.kind = kindMemTile then tileLasting (objTileOf t.object) s
  else if t.kind = kindStoreSector then sectorLasting (objSectorOf t.object) s
  else if t.kind = kindScrubReg then
    (true, { s with config := { s.config with copiesOut := t.object / 2 ^ 22 :: s.config.copiesOut } })
  else if t.kind = kindClamp ∧ s.flag Fld.SELFTEST_BASIC_MAP_LINES then
    (true, { s with fault := { s.fault with disableNext := s.fault.disableNext ++ [objLineOf t.object] } })
  else (false, s)

/-- A test ends (R556, R557): lines are mapped out at the next commit clock, other parts at once. -/
def testEnds (t : TestReq) (lasting : Bool) (s : State) : State :=
  if lasting then
    let r := lastingOutcome t s
    let s := classify r.2 t.kind t.object classLasting (b2n r.1)
    if r.1 && decide (t.kind ≠ kindClamp) then s.raise Fld.FAULT_EVENTS_MAPPED else s
  else
    let s := if t.kind = kindMemTile then tileTransient (objTileOf t.object) s else s
    classify s t.kind t.object classTransient 0

/-- The first request of a kind, and the others. -/
def takeTest (kind : Nat) : List TestReq → Option (TestReq × List TestReq)
  | [] => none
  | t :: r => if t.kind = kind then some (t, r) else (takeTest kind r).map fun e => (e.1, t :: e.2)

/-- The running test of a kind ends, its length after it began (R556). -/
def testDone (kind : Nat) (lasting : Bool) (s : State) : State :=
  match takeTest kind s.fault.tests with
  | none => s
  | some (t, r) =>
    match t.began with
    | none => s
    | some b => nextTest kind (testEnds t lasting ({ s with fault := { s.fault with tests := r } }.elapseTo (b + testLength kind)))

/-! ### Tests on demand (R565) -/

/-- A pair can be probed on demand: neighbours, neither disabled, one in use, no retest of the pointer's group pending. -/
def pairQualifies (s : State) (x y : Nat) : Bool :=
  decide (y ∈ neighbours x) && s.lineOn (x / 48) (x % 48) && !driveDisabled s y && !(s.probe (x / 48)).retest &&
    (pairPending s x y).isNone

/-- A probe of one pair in both polarities. -/
def demandProbe (x y : Nat) (s : State) : State :=
  let s := faultPush s kindProbe classPending 0 (objPair x y)
  busySync (s.modProbe (x / 48) fun p => { p with line := x % 48, suspects := [(x, y)], retest := true, demand := true, first := true })

/-- GO of SELFTEST.REQ. -/
def demandTest (kind object : Nat) (s : State) : State :=
  let x := objLineOf object
  let y := objOtherOf object
  let t := objTileOf object
  let port := object / 2 ^ 23
  if kind = kindProbe ∧ objLinesExist object = true ∧ pairQualifies s x y = true then demandProbe x y s
  else if kind = kindMemTile ∧ s.tileState t = tileFailed then testTile s t
  else if kind = kindRingCrc ∧ s.portState port = portOn then startTest s kindRingCrc (objPort (port == 1))
  else s.raise Fld.SELFTEST_EVENTS_REQ_REFUSED

/-- A write of SELFTEST.REQ. -/
def writeTestReq (v : Word) (s : State) : State :=
  let s := s.putWord Reg.SELFTEST_REQ v
  if bitAt v 0 then demandTest (bitsOf v 43 5) (bitsOf v 16 24) s else s

/-! ### Lines out of and into service (R557 to R559) -/

/-- The line record is kept in SYSTEM. -/
def putRecord (ls : List Nat) (s : State) : State := faultSync (systemWrite 7 { s with fault := { s.fault with lineRecord := ls } })

/-- A line is disabled: its keys freeze, and the SYSTEM record takes it while it holds fewer than 64. -/
def disableLine (x : Nat) (s : State) : State :=
  let g := x / 48
  let l := x % 48
  if driveDisabled s x then s
  else
    let s := (freezeKeys (linePoints g l) s).raise Fld.FAULT_EVENTS_MAPPED
    let s := s.setReg (Reg.GRP_LINE_DISABLED g) (withBits (s.reg (Reg.GRP_LINE_DISABLED g)) l 1 1)
    let s := if x ∈ s.fault.lineRecord then s
      else if 64 ≤ s.fault.lineRecord.length then s.raise Fld.FAULT_EVENTS_RECORD_FULL
      else putRecord (s.fault.lineRecord ++ [x]) s
    pointerSync g s

/-- A disabled line returns to service (R559). -/
def returnLine (x : Nat) (s : State) : State :=
  let g := x / 48
  let s := s.setReg (Reg.GRP_LINE_DISABLED g) (withBits (s.reg (Reg.GRP_LINE_DISABLED g)) (x % 48) 1 0)
  if x ∈ s.fault.lineRecord then putRecord (s.fault.lineRecord.filter fun y => !(y == x)) s else s

/-- The disables and returns that wait act: at a commit clock or at the start of the comb. -/
def moveLines (s : State) : State :=
  let off := s.fault.disableNext
  let on := s.fault.returnNext
  let s := { s with fault := { s.fault with disableNext := [], returnNext := [] } }
  on.foldl (fun s x => returnLine x s) (off.foldl (fun s x => disableLine x s) s)

/-- A write of FAULT.LINE_CTRL (R559). -/
def writeLineCtrl (v : Word) (s : State) : State :=
  let s := s.putWord Reg.FAULT_LINE_CTRL v
  let x := 48 * bitsOf v 45 3 + bitsOf v 39 6
  if bitAt v 0 && decide (bitsOf v 39 6 < 48) && driveDisabled s x then
    { s with fault := { s.fault with returnNext := s.fault.returnNext ++ [x] } }
  else s

/-- A write of FAULT.LOG_CTRL (R563, R566). -/
def writeLogCtrl (v : Word) (s : State) : State :=
  let s := if bitAt v 1 then { s with fault := { s.fault with counters := [] } } else s
  if bitAt v 0 then faultSync { s with fault := { s.fault with log := [] } } else s

/-! ### Commands -/

/-- SELFTEST_DONE: the running test of a kind ends, TRANSIENT or LASTING. -/
def execSelftestDone (kind : Nat) (lasting : Bool) (s : State) : Host.Outcome State Fault Refusal := act s (testDone kind lasting)

/-- SELFTEST_REQ: a write of SELFTEST.REQ. -/
def execSelftestReq (p : Path) (v : Word) (s : State) : Host.Outcome State Fault Refusal := access s (regWrite p Reg.SELFTEST_REQ writeTestReq v)

/-- LINE_CLEAR: a write of FAULT.LINE_CTRL. -/
def execLineClear (p : Path) (v : Word) (s : State) : Host.Outcome State Fault Refusal := access s (regWrite p Reg.FAULT_LINE_CTRL writeLineCtrl v)

/-- LOG_CLEAR: a write of FAULT.LOG_CTRL. -/
def execLogClear (p : Path) (v : Word) (s : State) : Host.Outcome State Fault Refusal := access s (regWrite p Reg.FAULT_LOG_CTRL writeLogCtrl v)

end Sys2Proof.Machine
end

