-- ==== Sys2Proof/Machine/Comb.lean ====
section
/-! DEFINITION. The comb at work: the cells of a scan frame, the freeze point and the commit clock, starting and stopping, STANDBY frames
(R22 to R31, R99 to R110, R126 to R128, R425, R426, R596). -/
namespace Sys2Proof.Machine

/-! ### A cell begins (R100, R102, R256, R319, R552) -/

/-- A group whose fields act: ON, and in a bank checked with its kind and duty (R103, R186). -/
def fieldActs (s : State) (g : Nat) : Bool := decide (s.grpState g = grpOn) && !bankStale s g

/-- The first tck of the field of group `g`: the HEALTH choice, and a probe pointer that stands on a line out of use moves on. -/
def beginField (w : Word) (g : Nat) (s : State) : State :=
  if cellType w g = slotHealth ∧ fieldActs s g = true then chooseHealth g (cellCommon w) s
  else if cellType w g = slotProbe ∧ s.grpState g = grpOn then pointerSync g s
  else s

/-- The first tck of cell `w`; in STANDBY fields other than KEY are IDLE (R128). -/
def beginCell (w : Word) (s : State) : State :=
  let s := { s with comb := { s.comb with cellStart := s.now } }
  let s := startLcdCell (sagAtCell (s.forEach 4 countString))
  if s.inStandby then s else ((stringFields w s).forEach 8 (markHold w)).forEach 8 (beginField w)

/-- Cell 0 of the active bank begins a scan frame. -/
def beginFrame (standby : Bool) (s : State) : State :=
  let s := { s with
    comb := { s.comb with frameStart := s.now, frameEnded := false, standbyFrame := standby }
    pipe := { s.pipe with passed := false } }
  let s := s.set Fld.COMB_STATUS_CUR_CELL 0
  beginCell (s.cell s.activeBank 0) s

/-! ### The last tck of a cell (R232, R235, R256, R553) -/

/-- The raw samples of a group's S-lines: the comparator's readings on the last tck, or the majority of three under FILTER (R232). -/
def rawMask (s : State) (r : Readings) (g len : Nat) : BitVec 32 :=
  let a := senseMask s g (r.sense.getD g [])
  let b := senseMask s g (r.sense32.getD g [])
  let c := senseMask s g (r.sense64.getD g [])
  if s.inForce (Fld.KEY_SENSE_FILTER g) = 1 ∧ 128 ≤ len then (a &&& b) ||| (a &&& c) ||| (b &&& c) else a

/-- KEY and HEALTH fields with KEY_SAMPLE (R235). -/
def sampleField (w : Word) (len : Nat) (r : Readings) (g : Nat) (s : State) : State :=
  if fieldActs s g && cellKeySample w then
    if cellType w g = slotKey then sampleCommon g (cellCommon w) (rawMask s r g len) s
    else if cellType w g = slotHealth ∧ s.inStandby = false then
      sampleHealth g (cellCommon w) (rawMask s r g len) (r.health.getD g 1023).toNat s
    else s
  else s

/-- PROBE fields (R553). -/
def endProbe (w : Word) (r : Readings) (g : Nat) (s : State) : State :=
  if cellType w g = slotProbe ∧ s.grpState g = grpOn then probeField g w r.joined s else s

/-- Everything that the last tck of a cell of `len` tck does: samples, the DC ledger, probes, the energy account and the LCD advance. -/
def finishCell (w : Word) (len : Nat) (r : Readings) (s : State) : State :=
  let s := s.forEach 8 (sampleField w len r)
  let s := accountLcd w len r.health s
  let s := if s.inStandby then s else s.forEach 8 (endProbe w r)
  let s := accountCell w len s
  if cellLcdAdv w then lcdAdvance s else s

/-! ### The edge between cells (R102, R105, R109, R126) -/

/-- The period of the active bank, 0 when it runs free. -/
def activePeriod (s : State) : Nat := s.period s.activeBank

/-- KEY.STATUS.SAMPLED shows the scan frame that has ended, and the groups sampled are noted anew (R253). -/
def showSampled (s : State) : State :=
  { s.set Fld.KEY_STATUS_SAMPLED s.keys.sampledNow with keys := { s.keys with sampledNow := 0 } }

/-- The frame-end cell has ended: its commit clock follows, or the comb waits for the hive grid (R109), or in STANDBY for its next frame. -/
def endFrame (s : State) : State :=
  let s := { s with comb := { s.comb with frameEnded := true } }
  if s.inStandby then
    let s := showSampled s
    if s.flag Fld.CLOCK_POWER_LEAVING then { s with clock := { s.clock with leaveAt := some s.now } } else s
  else if activePeriod s ≠ 0 ∧ s.tick % activePeriod s ≠ 0 then
    (s.set Fld.COMB_STATUS_RUN_STATE combAligning).raise Fld.COMB_EVENTS_RESYNC
  else s

/-- The cell now driving ends and the next begins. -/
def nextCell (r : Readings) (s : State) : State :=
  let i := s.get Fld.COMB_STATUS_CUR_CELL
  let w := s.cell s.activeBank i
  let len := cellLen s s.activeBank w
  let s := finishCell w len r (s.elapseTo (s.comb.cellStart + len - 1))
  let s := s.elapse 1
  if i = (frameEndOf s s.activeBank).getD 383 then endFrame s
  else
    let s := s.set Fld.COMB_STATUS_CUR_CELL (i + 1)
    beginCell (s.cell s.activeBank (i + 1)) s

/-- A cell ends, while the comb drives cells. -/
def cellEdge (r : Readings) (s : State) : State :=
  if s.runState = combRunning ∧ s.comb.frameEnded = false then nextCell r s else s

/-! ### The commit clock's time (R28, R109, R426) -/

/-- The first local tck at or after `t` whose hive tick is a multiple of `p`; `t` itself for a free-running bank. -/
def gridFrom (s : State) (t p : Nat) : Nat :=
  if p = 0 then t else t + (p - (s.tick + (t - s.now)) % p) % p

/-- The local tck of the coming commit clock: the end of the frame, on the hive grid when the bank is locked; the exit commit clock in
STANDBY; none where no commit clock comes. -/
def commitTime (s : State) : Option Nat :=
  let p := activePeriod s
  if s.inStandby then
    match s.clock.leaveAt with
    | some t => if s.flag Fld.CLOCK_POWER_LEAVING then some (gridFrom s (max s.now (t + 1024)) p) else none
    | none => none
  else if s.runState = combAligning then some (gridFrom s s.now p)
  else if s.runState = combRunning then
    some (if s.comb.frameEnded then s.now else gridFrom s (max s.now (s.comb.frameStart + frameLen s s.activeBank)) p)
  else none

/-! ### The freeze point (R26, R28, R117, R157, R160, R310) -/

/-- The registers whose values are frozen with the sets: X_DRIVE (R160), the plane counts (R157), STRING_CTRL (R209), the ledger's settings (R327),
and the other settings that the plan and the drive take together, LINE_USE, VLOW with K, and HMARGIN (R50, R312). -/
def frozenRegs : List Nat :=
  (List.range 8).flatMap (fun g => [Reg.GRP_X_DRIVE g, Reg.GRP_LINE_USE g]) ++
    (List.range 4).flatMap (fun n => [Reg.STRING_CTRL n, Reg.STRING_SUP n, Reg.STRING_X_SEQ n]) ++
    [Reg.FRAME_PLANES, Reg.LEDGER_BASIC, Reg.LEDGER_LIMITS]

/-- The registers whose values take effect as they stand at the commit clock (R132, R192, R234, R272). -/
def commitRegs : List Nat :=
  (List.range 8).flatMap (fun g => [Reg.FRAME_BUF g, Reg.KEY_SENSE g]) ++ [Reg.LCDB_BASIC, Reg.GHOST_BASIC]

/-- The settings are frozen. -/
def freezeSettings (s : State) : State := frozenRegs.foldl (fun s a => s.takeFreeze a) s

/-- A set that swaps finds the shadow bank not PASSED (R117). -/
def noteNotChecked (s : State) : State :=
  if s.shadowState = bankPassed ∨ s.shadowState = bankFailed then s
  else (s.set Fld.COMB_STATUS_CHECK_CAUSE 10).set Fld.COMB_STATUS_FAIL_CELL 0

/-- The sets are frozen: the local ones that wait, and the armed one when it is due at a commit clock on hive time `t`. -/
def freezeSets (t : Nat) (s : State) : State :=
  let due := armDue s t
  let swaps := (due && s.hive.arming.swap) || s.commit.sets.any (·.swap)
  let s := { s with commit := { s.commit with
    sets := s.commit.sets.map fun x => { x with frozen := true }
    frozen := true, hiveDue := due, combOk := decide (s.shadowState = bankPassed)
    busySwap := false, busyFlips := 0, busyCtx := [] } }
  if swaps then noteNotChecked s else s

/-- A frame whose pass has not begun has it at C + 64, and before the freeze point every pass has ended (R135). -/
def passesDone (c : Nat) (s : State) : State :=
  let s := if s.inStandby || s.pipe.passed then s else stageOne c [] (s.elapseTo (s.comb.frameStart + 64))
  (s.elapseTo (c - 1024)).passesEnded

/-- The freeze point of the coming commit clock at local tck `c`; in STANDBY no plan is formed (R321). -/
def freezeAt (c : Nat) (vled : List Nat) (s : State) : State :=
  let s := (passesDone c s).forEach 8 fun g s => readVled g (vled.getD g 0) s
  let s := freezeSets (s.hiveNow + (c - s.now)) (freezeSettings s)
  if s.inStandby then s else planFrame vled s

/-- FREEZE_POINT. -/
def freezePoint (vled : List Nat) (s : State) : State :=
  if s.commit.frozen then s
  else match commitTime s with
    | none => s
    | some c => freezeAt c vled s

/-- Stage 1 at C + 64 (R135, R139): once a frame, before its freeze point. -/
def stageFetch (found : List (Nat × BitVec 32)) (s : State) : State :=
  if s.runState = combRunning ∧ s.inStandby = false ∧ s.pipe.passed = false ∧ s.commit.frozen = false then
    let s := s.elapseTo (s.comb.frameStart + 64)
    stageOne ((commitTime s).getD s.now) found s
  else s

/-! ### The sets at a commit clock (R22 to R27, R31) -/

/-- The members of a set. -/
structure Members where
  swap : Bool
  flips : Nat
  ctx : Option Nat
  deriving DecidableEq, Repr

/-- The least cause that refuses a set, 0 for none (R26). -/
def setCause (s : State) (m : Members) : Nat :=
  let busyCtx := match m.ctx with | none => false | some c => decide (c ∈ s.commit.busyCtx)
  if (match m.ctx with | none => false | some c => !s.ctxOk c) then 1
  else if m.swap && !s.commit.combOk then 2
  else if m.swap && s.commit.busySwap || decide (m.flips &&& s.commit.busyFlips ≠ 0) || busyCtx then 3
  else 0

/-- The members of a local set, and of the armed hive set. -/
def LocalSet.members (x : LocalSet) : Members := ⟨x.swap, x.flips, x.ctx⟩
def armedMembers (s : State) : Members := ⟨s.hive.arming.swap, s.hive.arming.flips, s.hive.arming.ctx⟩

/-- The union of several sets' members: a member named twice is applied once (R24). -/
def unionMembers (ms : List Members) : Members :=
  ms.foldl (fun a m => ⟨a.swap || m.swap, a.flips ||| m.flips, match a.ctx with | some c => some c | none => m.ctx⟩) ⟨false, 0, none⟩

/-- FRONT of the groups in a mask is exchanged (R133); FRAME.STATUS and FRAME.EVENTS show it. -/
def flipBuffers (m : Nat) (s : State) : State :=
  (if m % 256 = 0 then s else s.raise Fld.FRAME_EVENTS_FLIPPED).forEach 8 fun g s =>
    if m.testBit g then
      let f := !s.frontB g
      (s.setFlag (Fld.FRAME_BUF_FRONT g) f).setFlag ⟨Reg.FRAME_STATUS, g, 1⟩ f
    else s

/-- Members take effect on the clock edge that begins the commit clock (R28). -/
def applyMembers (m : Members) (s : State) : State :=
  let s := if m.swap then exchangeBanks s else s
  let s := flipBuffers m.flips s
  match m.ctx with
  | none => s
  | some c => switchContext c s

/-- CONFIG.CTX_STATE.PENDING and PEND_CTX follow the tied switch that waits (R451). -/
def switchSync (s : State) : State :=
  (s.setFlag Fld.CONFIG_CTX_STATE_PENDING (switchWaits s).isSome).set Fld.CONFIG_CTX_STATE_PEND_CTX ((switchWaits s).getD 0)

/-- What a commit clock at which a set was due reports (R31): whether it applied a hive commit, the causes of the sets refused, the members
applied, and whether local sets, or a local swap, wait behind the hive commit (R25). -/
structure CommitOutcome where
  hive : Bool
  causes : List Nat
  members : Members
  deferred : Bool := false
  swapDeferred : Bool := false

/-- DEVICE.COMMIT_STAT and DEVICE.EVENTS with an outcome. -/
def withOutcome (o : CommitOutcome) (s : State) : State :=
  let bad := o.causes.filter (· ≠ 0)
  let low := bad.foldl min 7
  let bits := 4 * b2n o.members.swap + 2 * b2n (decide (o.members.flips ≠ 0)) + b2n o.members.ctx.isSome
  let s := (s.setFlag Fld.DEVICE_COMMIT_STAT_LAST_HIVE o.hive).setFlag Fld.DEVICE_COMMIT_STAT_LAST_REFUSED (!bad.isEmpty)
  let s := if bad.isEmpty then s
    else (s.set Fld.DEVICE_COMMIT_STAT_REFUSE_CAUSE low).raise Fld.DEVICE_EVENTS_COMMIT_REFUSED
  let s := if o.deferred then s.raise Fld.DEVICE_EVENTS_LOCAL_DEFERRED else s
  let s := s.set Fld.DEVICE_COMMIT_STAT_MEMBERS bits
  if bits = 0 then s else s.set Fld.DEVICE_COMMIT_STAT_FRAME_NO s.commit.frameCount

/-- The outcome of a commit clock C is reported at C + 1 (R28, step 5). -/
def reportCommit (o : CommitOutcome) (s : State) : State :=
  let t := withOutcome o (s.setReg Reg.DEVICE_EVENTS 0)
  s.later 1 (.commitReport (t.reg Reg.DEVICE_COMMIT_STAT) (t.reg Reg.DEVICE_EVENTS) o.swapDeferred)

/-- A tied switch refused at its commit clock (R447). -/
def reportCtx (ms : List Members) (s : State) : State :=
  if ms.any fun m => m.ctx.isSome && decide (setCause s m ≠ 0) then refuseSwitch 1 s else s

/-- The frozen local sets at a commit clock whose hive set is not applied: each applies as a whole or is refused and dropped. -/
def applyLocal (hiveCauses : List Nat) (s : State) : State :=
  let ms := (s.commit.sets.filter (·.frozen)).map LocalSet.members
  let causes := ms.map (setCause s)
  let ok := unionMembers (ms.filter fun m => decide (setCause s m = 0))
  let s := applyMembers ok (reportCtx ms s)
  let s := { s with commit := { s.commit with sets := s.commit.sets.filter fun x => !x.frozen } }
  if (hiveCauses ++ causes).isEmpty then s else reportCommit { hive := false, causes := hiveCauses ++ causes, members := ok } s

/-- A hive commit is applied: the frozen local sets wait for the following commit clock (R25). -/
def applyHive (s : State) : State :=
  let m := armedMembers s
  let waits := s.commit.sets.filter (·.frozen)
  let s := hiveApplied (applyMembers m s)
  let s := { s with commit := { s.commit with sets := s.commit.sets.map fun x => { x with frozen := false } } }
  reportCommit { hive := true, causes := [], members := m, deferred := !waits.isEmpty, swapDeferred := waits.any (·.swap) } s

/-- The sets due at this commit clock; the scan-frame count rises (R31). -/
def commitSets (s : State) : State :=
  let s := { s with commit := { s.commit with frameCount := (s.commit.frameCount + 1) % 2 ^ 32, last := some s.now } }
  let due := s.commit.hiveDue && decide (s.armState = armArmed)
  let c := setCause s (armedMembers s)
  let s := if due && c == 0 then applyHive s
    else if due then applyLocal [c] (hiveRefused s)
    else applyLocal [] s
  switchSync { s with commit := { s.commit with frozen := false, hiveDue := false } }

/-! ### Settings and readings at a commit clock -/

/-- The monitors as read at a commit clock or at the start of the comb: VLED_OK (R58) and STRn_TOP (R221). -/
def takeReadings (r : Readings) (s : State) : State :=
  let s := s.forEach 8 fun g s => readVled g (r.vled.getD g 0) s
  s.forEach 4 fun n s => s.set (Fld.STRING_MEAS_VTOP n) (r.vtop.getD n 0).toNat

/-- Every setting that takes effect at a commit clock is in force as frozen; PC_LEVEL and PC_DRIVE as they stand (R160, R166). -/
def settingsFrozen (s : State) : State :=
  let s := frozenRegs.foldl (fun s a => s.setForce a (Table.get regReset s.frozen a)) s
  let s := s.forEach 8 fun g s =>
    let a := Reg.GRP_X_DRIVE g
    let keep := Table.get regReset s.force a
    let w := withBits (s.reg a) (Fld.GRP_X_DRIVE_ISEG g).lo (Fld.GRP_X_DRIVE_ISEG g).width (bitsOf keep (Fld.GRP_X_DRIVE_ISEG g).lo (Fld.GRP_X_DRIVE_ISEG g).width)
    s.setForce a (withBits w (Fld.GRP_X_DRIVE_DROP g).lo (Fld.GRP_X_DRIVE_DROP g).width
      (bitsOf keep (Fld.GRP_X_DRIVE_DROP g).lo (Fld.GRP_X_DRIVE_DROP g).width))
  commitRegs.foldl (fun s a => s.setForce a (s.reg a)) s

/-- Every such setting takes effect as it stands: at the start of the comb and at the exit commit clock (R596). -/
def settingsNow (s : State) : State := settingsFrozen (freezeSettings s)

/-- Currents follow the settings in force: the segment current of ON groups (R160), the first step of a string whose goal moved (R209). -/
def followCurrents (before : State) (s : State) : State :=
  let s := s.forEach 8 fun g s =>
    if s.grpState g = grpOn ∧ s.isLcd g = false then s.set (Fld.GRP_STATUS_DAC_NOW g) (s.inForce (Fld.GRP_X_DRIVE_ISEG g)) else s
  s.forEach 4 fun n s =>
    if stringGoal before n ≠ stringGoal s n ∧ s.strState n = grpOn ∧ s.flag (Fld.STRING_STAT_RAMPING n) = false then nextStep n s else s

/-- A tile that failed at fetch is opened again for a group once its front buffer has moved to another tile (R141). -/
def forgetFailed (s : State) : State :=
  { s with pipe := { s.pipe with failed := s.pipe.failed.filter fun k => s.bufferBase (k / 4096) (s.frontB (k / 4096)) / 1024 == k % 4096 } }

/-- Nothing is lit: the frame after a start of the comb or an exit from STANDBY (R138, R173). The blink phases are those of this tck (R147). -/
def darkFrame (s : State) : State :=
  let s := { s with
    pipe := { s.pipe with nextNormal := [], nextSag := [], litNormal := [], litSag := [], phases := blinkPhases s s.hiveT10 }
    lamps := { s.lamps with nextNormal := [], nextSag := [], litNormal := [], litSag := [] }
    ledger := { s.ledger with next := {}, lit := {}, sagFrom := none } }
  let s := s.forEach 8 fun g s => s.modGrp g fun x => { x with passDone := false, vledLit := x.vledNext }
  s.forEach 4 fun n s => s.modStr n fun x => { x with nextFf := [], nextFfSag := [], litFf := [], litFfSag := [] }

/-- FRAME.BLINKn.PHASE: the phase of generator n in the frame now lit (R147). -/
def showPhases (s : State) : State := s.forEach 4 fun n s => s.setFlag (Fld.FRAME_BLINK_PHASE n) (s.pipe.phases.testBit n)

/-- LCD fields act again from the first commit clock with the generator ON (R184); the start of the comb is none (R127). -/
def lcdCommit (s : State) : State := { s with lcd := { s.lcd with acts := decide (biasState s = biasOn) } }

/-- Pending enables take effect or are refused (R171, R221). -/
def takeEnables (s : State) : State := (s.forEach 8 takeEnable).forEach 4 takeString

/-- What follows the settings: threshold capping, derived profiles, stale groups, lines that move, gates of blocks in use. -/
def settle (s : State) : State :=
  let s := moveLines (checkCapping s)
  let s := (deriveProfiles s).forEach 8 updateStale
  keyEngineUse s

/-! ### The commit clock (R28, R126) -/

/-- The comb stops at a commit clock with RUN = 0 and every group and string OFF (R126). At basic level X_CTRL.RUN holds BASIC.RUN, and at
expert level the block acts on X_CTRL.RUN alone (R76, R77). -/
def stopsHere (s : State) : Bool := !s.flag Fld.COMB_X_CTRL_RUN && s.allOff

/-- The comb is STOPPED; groups and the bias generator that wait for LCD advances are at their safe points (R126, R187, R191). DESIGN CHOICE:
CUR_CELL keeps the index of the last cell while no cell drives the lines (R125). -/
def stopComb (s : State) : State :=
  let s := s.set Fld.COMB_STATUS_RUN_STATE combStopped
  lcdCombStopped { s with comb := { s.comb with frameEnded := false, standbyFrame := false } }

/-- After a commit clock the comb stops, enters STANDBY (R425) or begins its next frame. -/
def afterCommit (s : State) : State :=
  let entering := standbyDue s
  let stop := stopsHere s
  let s := if entering then enterStandby s else s
  if stop then stopComb s
  else
    let s := s.set Fld.COMB_STATUS_RUN_STATE combRunning
    if entering then { s with comb := { s.comb with frameEnded := true, standbyFrame := true } } else beginFrame false s

/-- The samples, the measurements and the energy of the frame that ends (R216, R217, R225, R253, R325). -/
def closeFrame (s : State) : State :=
  frameEnergy (s.now - s.comb.frameStart) (((showSampled s).forEach 4 countString).forEach 4 publishString)

/-- FRAME.STATUS.HOLDING and the blink phases of the frame lit; the lines held are counted anew (R140, R147, R195). -/
def publishFrame (s : State) : State :=
  let s := showPhases s
  let s := s.set Fld.FRAME_STATUS_HOLDING s.pipe.nextHolding
  s.forEach 8 fun g s => s.set (Fld.GRP_STATUS_COMP_ACTIVE g) 0

/-- What a commit clock does up to the next frame's first cell. -/
def commitBody (r : Readings) (s : State) : State :=
  let before := s
  let s := commitSets (closeFrame (takeReadings r s))
  let s := (forgetFailed (settingsFrozen s)).forEach 4 (holdPattern before)
  let s := choosePlan (lightFrame s)
  let s := takeEnables (followCurrents before s)
  let s := lcdCommit (s.forEach 4 lightString)
  settle (checkScanned (publishFrame s))

/-- COMMIT_CLOCK: on the tck after the frame-end cell. -/
def commitClock (r : Readings) (s : State) : State :=
  if s.runState = combRunning ∧ s.comb.frameEnded = true ∧ s.inStandby = false then
    afterCommit (commitBody r (freezePoint r.vled s))
  else s

/-- ALIGN_WAIT_END: the wait for the hive grid ends on the commit clock of the frame that ended (R109). -/
def alignEnd (r : Readings) (s : State) : State :=
  if s.runState = combAligning then
    let s := freezePoint r.vled s
    afterCommit (commitBody r (s.elapse (s.toGrid (activePeriod s))))
  else s

/-! ### The comb starts and stops (R126, R127, R596) -/

/-- A write of RUN: STOPPED and WAITING change places. -/
def writeCombRun (run : Bool) (s : State) : State :=
  let s := setLive combPage Fld.COMB_BASIC_RUN Fld.COMB_X_CTRL_RUN (b2n run) s
  if run && decide (s.runState = combStopped) then
    let s := s.set Fld.COMB_STATUS_RUN_STATE combWaiting
    let s := s.forEach 8 fun g s => if s.flag (Fld.GRP_STATUS_KIND_NOW g) then gatesOn (gateGroup g) s else s
    let s := keyEngineUse s
    if s.shadowState = bankUnchecked then startCheck s else s
  else if !run && decide (s.runState = combWaiting) then s.set Fld.COMB_STATUS_RUN_STATE combStopped
  else s

/-- Cell 0 first begins: settings take effect, pending enables too, and the frame is dark (R126, R138, R171, R596). -/
def startComb (r : Readings) (s : State) : State :=
  let before := s
  let s := (exchangeBanks s).set Fld.COMB_STATUS_RUN_STATE combRunning
  let s := { s with comb := { s.comb with started := true } }
  let s := settingsNow (takeReadings r s)
  let s := showPhases (darkFrame (followCurrents before s))
  let s := settle (takeEnables s)
  beginFrame s.inStandby s

/-- The base terms of a STANDBY frame (R325). -/
def standbyEnergy (s : State) : State := postEnergy (accountBase 3840000 s)

/-- The hive tick on which a waiting comb may start (R126). -/
def startGrid (s : State) : Nat := if s.inStandby then 3840000 else s.period s.shadowBank

/-- COMB_START: a WAITING comb with a PASSED shadow bank starts on its grid tick, once the microcode is loaded (R126, R502). -/
def combStart (r : Readings) (s : State) : State :=
  if s.runState = combWaiting ∧ s.shadowState = bankPassed ∧ s.mcReady = true then
    let s := startComb r (s.elapse (s.toGrid (startGrid s)))
    if s.inStandby then standbyEnergy s else s
  else s

/-! ### STANDBY (R128, R425, R426) -/

/-- STANDBY_FRAME_START: on the next hive tick that is a multiple of 3,840,000. -/
def standbyFrameStart (s : State) : State :=
  if s.inStandby && decide (s.runState = combRunning) && s.comb.frameEnded && !s.flag Fld.CLOCK_POWER_LEAVING then
    beginFrame true (standbyEnergy (s.elapse (s.toNextGrid 3840000 (some s.comb.frameStart))))
  else s

/-- The device returns to RUN or DIM (R224, R249, R424). -/
def leaveState (s : State) : State :=
  let s := (s.set Fld.CLOCK_POWER_STATE (s.get Fld.CLOCK_POWER_RETURN)).set Fld.CLOCK_POWER_LEAVING 0
  let s := { s with clock := { s.clock with leaveAt := none } }
  stringsLight (zeroCounts (s.raise Fld.CLOCK_EVENTS_POWER_CHANGED))

/-- The exit commit clock with the comb running: pending sets pass, settings take effect, the first frame is dark. -/
def exitCommit (r : Readings) (s : State) : State :=
  let before := s
  let s := darkFrame (commitSets (takeReadings r s))
  let s := forgetFailed (settingsNow s)
  let s := takeEnables (followCurrents before s)
  let s := settle (checkScanned (publishFrame (lcdCommit s)))
  if stopsHere s then stopComb s else beginFrame false s

/-- STANDBY_EXIT. -/
def standbyExit (r : Readings) (s : State) : State :=
  match commitTime s with
  | none => s
  | some c =>
    if s.inStandby then
      if s.runState = combRunning then exitCommit r (leaveState ((freezePoint r.vled s).elapseTo c)) else leaveState (s.elapseTo c)
    else s

/-! ### Requests -/

/-- A write of DEVICE.COMMIT_CTRL (R29, R30). -/
def writeCommitCtrl (v : Word) (s : State) : State :=
  let s := s.putWord Reg.DEVICE_COMMIT_CTRL v
  let ctx := if bitAt v 40 then some (bitsOf v 37 3) else none
  if !bitAt v 0 then s
  else if s.commit.sets.any (·.bound) || ctx.isSome && ctxPending s then s.raise Fld.DEVICE_EVENTS_COMMIT_BUSY
  else if ctx.isNone && !bitAt v 36 && bitsOf v 28 8 == 0 then s
  else
    let s := { s with commit := { s.commit with sets := s.commit.sets ++ [(⟨bitAt v 36, bitsOf v 28 8, ctx, true, false⟩ : LocalSet)] } }
    s.setPendingSync

/-- A write of FRAME.BLINKn (R148). -/
def writeBlink (n : Nat) (v : Word) (s : State) : State :=
  let p := bitsOf v (Fld.FRAME_BLINK_PERIOD n).lo (Fld.FRAME_BLINK_PERIOD n).width
  if p < 5 ∨ 510 < p then s.raise Fld.FRAME_EVENTS_BLINK_RANGE else s.putWord (Reg.FRAME_BLINK n) v

/-- A write of FRAME.PLANES (R114, R157). -/
def writePlanes (v : Word) (s : State) : State :=
  if (List.range 8).any fun g => decide (bitsOf v (4 * g) 4 = 0 ∨ 10 < bitsOf v (4 * g) 4) then s.raise Fld.FRAME_EVENTS_PLANES_RANGE
  else
    let t := s.putWord Reg.FRAME_PLANES v
    if t.reg Reg.FRAME_PLANES = s.reg Reg.FRAME_PLANES then s else lapse t

/-! ### Commands -/

/-- CELL_EDGE: `r` holds the readings of the cell's last tck. -/
def execCellEdge (r : Readings) (s : State) : Host.Outcome State Fault Refusal := act s (cellEdge r)

/-- COMMIT_CLOCK. -/
def execCommitClock (r : Readings) (s : State) : Host.Outcome State Fault Refusal := act s (commitClock r)

/-- FREEZE_POINT: `vled` holds VLEDg in mV. -/
def execFreezePoint (vled : List Nat) (s : State) : Host.Outcome State Fault Refusal := act s (freezePoint vled)

/-- COMMIT_CTRL_SUBMIT: a write of DEVICE.COMMIT_CTRL. -/
def execCommitCtrlSubmit (p : Path) (v : Word) (s : State) : Host.Outcome State Fault Refusal :=
  access s (regWrite p Reg.DEVICE_COMMIT_CTRL writeCommitCtrl v)

/-- STAGE1_FETCH: `found` holds the tiles an upset makes fail, with the checksum read. -/
def execStage1Fetch (found : List (Nat × BitVec 32)) (s : State) : Host.Outcome State Fault Refusal := act s (stageFetch found)

/-- CHECK_REQ: COMB.X_CTRL.CHECK_REQ = 1. -/
def execCheckReq (p : Path) (s : State) : Host.Outcome State Fault Refusal := access s (fieldWrite p Reg.COMB_X_CTRL false checkRequest)

/-- BANK_CHECK_DONE. -/
def execBankCheckDone (s : State) : Host.Outcome State Fault Refusal := act s checkDone

/-- LOAD_REQ: COMB.BANK_CTRL.LOAD_REQ = 1 with LAYOUT_TILE, which keeps its value on a locked path. -/
def execLoadReq (p : Path) (tile : BitVec 12) (s : State) : Host.Outcome State Fault Refusal :=
  access s (regWrite p Reg.COMB_BANK_CTRL
    (fun v s => let s := s.putWord Reg.COMB_BANK_CTRL v; loadRequest (s.get Fld.COMB_BANK_CTRL_LAYOUT_TILE) s) (BitVec.ofNat 48 tile.toNat))

/-- LAYOUT_LOAD_DONE: `found` is the checksum read when an upset makes the opening fail. -/
def execLayoutLoadDone (found : Option (BitVec 32)) (s : State) : Host.Outcome State Fault Refusal := act s (loadDone found)

/-- COPY_REQ: COMB.X_CTRL.COPY_REQ = 1. -/
def execCopyReq (p : Path) (s : State) : Host.Outcome State Fault Refusal := access s (fieldWrite p Reg.COMB_X_CTRL false copyRequest)

/-- COPY_DONE. -/
def execCopyDone (s : State) : Host.Outcome State Fault Refusal := act s copyDone

/-- SWAP_REQ: in COMB.BANK_CTRL, or in COMB.X_CTRL at expert level. -/
def execSwapReq (p : Path) (s : State) : Host.Outcome State Fault Refusal :=
  access s (fieldWrite p (if s.expert combPage then Reg.COMB_X_CTRL else Reg.COMB_BANK_CTRL) false swapRequest)

/-- SHADOW_CELL_WRITE: a window write of table 0x01, at expert level (R122). -/
def execShadowCellWrite (p : Path) (cell : Fin 384) (v : Word) (s : State) : Host.Outcome State Fault Refusal :=
  access s fun s =>
    if !s.pathOpen p combPage then s
    else if s.expert combPage then writeShadowCell cell v s else s.raiseBit combPage 47

/-- SHADOW_PERIOD_WRITE: a write of COMB.X_PERIOD. -/
def execShadowPeriodWrite (p : Path) (period : BitVec 24) (s : State) : Host.Outcome State Fault Refusal :=
  access s (fieldWrite p Reg.COMB_X_PERIOD false (writeShadowPeriod period.toNat))

/-- COMB_RUN_WRITE: RUN in the register of the present level. -/
def execCombRunWrite (p : Path) (run : Bool) (s : State) : Host.Outcome State Fault Refusal := access s (levelWrite p combPage (writeCombRun run))

/-- COMB_START. -/
def execCombStart (r : Readings) (s : State) : Host.Outcome State Fault Refusal := act s (combStart r)

/-- ALIGN_WAIT_END. -/
def execAlignWaitEnd (r : Readings) (s : State) : Host.Outcome State Fault Refusal := act s (alignEnd r)

/-- STANDBY_FRAME_START. -/
def execStandbyFrameStart (s : State) : Host.Outcome State Fault Refusal := act s standbyFrameStart

/-- STANDBY_EXIT: the readings of the exit commit clock. -/
def execStandbyExit (r : Readings) (s : State) : Host.Outcome State Fault Refusal := act s (standbyExit r)

/-- FLIP_REQ: FRAME.BUFg.FLIP_REQ = 1. -/
def execFlipReq (p : Path) (g : Fin 8) (s : State) : Host.Outcome State Fault Refusal := access s (fieldWrite p (Reg.FRAME_BUF g) false (flipRequest g))

/-- BLINK_WRITE: a write of FRAME.BLINKn. -/
def execBlinkWrite (p : Path) (n : Fin 4) (v : Word) (s : State) : Host.Outcome State Fault Refusal := access s (regWrite p (Reg.FRAME_BLINK n) (writeBlink n) v)

/-- PLANES_WRITE: a write of FRAME.PLANES. -/
def execPlanesWrite (p : Path) (v : Word) (s : State) : Host.Outcome State Fault Refusal := access s (regWrite p Reg.FRAME_PLANES writePlanes v)

end Sys2Proof.Machine
end

