-- ==== Sys2Proof/Machine/Reset.lean ====
section
/-! DEFINITION. Resets: their sources, their reach, how the device leaves them, and what starts them (R303, R398, R415 to R420, R498 to
R506). -/
namespace Sys2Proof.Machine

/-! ### What a reset keeps (R416) -/

/-- The codes of the reset sources (R415). -/
def srcPowerOn : Nat := 0
def srcResetN : Nat := 1
def srcHive : Nat := 2
def srcCombo : Nat := 3
def srcWatchdog : Nat := 4

/-- The registers of the SYSTEM area and of the unit itself, which every reset keeps whole (R8, R499, R502, R504). -/
def unitRegs : List Nat :=
  [Reg.UPDATE_IMAGE, Reg.UPDATE_HOLD, Reg.UPDATE_BOOT, Reg.HIVE_UNIT_ID 0, Reg.HIVE_UNIT_ID 1, Reg.HIVE_UNIT_ID 2]

/-- The fields that every reset keeps: of the receive slot, the ABSENT strap, and the READY flags of XTAL and REFIN but at power-on (R403). -/
def unitFields : List Field :=
  [Fld.UPDATE_STATUS_SLOT, Fld.UPDATE_STATUS_CAUSE, Fld.UPDATE_STATUS_CLASS, Fld.UPDATE_STATUS_KEY_PRESENT, Fld.XMEM_STATUS_ABSENT]
def warmFields : List Field := [Fld.CLOCK_STATUS_XTAL_READY, Fld.CLOCK_STATUS_REFIN_READY, Fld.FABRIC_STATUS_SPARES_LEFT]

/-- The registers that a reset reaching the CLOCK page keeps. -/
def keepsReg (src a : Nat) : Bool :=
  decide (a ∈ unitRegs) ||
    (decide (src ≠ srcPowerOn) && decide (a ∈ [Reg.CLOCK_RESET_CAUSE, Reg.CLOCK_RESET_COUNT, Reg.LEDGER_ENERGY_SUP, Reg.LEDGER_ENERGY_HEAT])) ||
    (decide (srcCombo ≤ src) && (decide (a / 256 = 0x1B) || decide (a = Reg.CLOCK_STARTUP)))

/-- Fields of `s` put back as they were in `old`. -/
def restoreFields (old : State) (fs : List Field) (s : State) : State := fs.foldl (fun s f => s.set f (old.get f)) s

/-- The fields of KLOCK.STATUS that follow the key engine (R299). -/
def clearKlockStatus (s : State) : State :=
  ((s.set Fld.KLOCK_STATUS_SEQ_POS 0).set Fld.KLOCK_STATUS_ARMED 0).set Fld.KLOCK_STATUS_COMPLETE 0

/-- Key lock through a reset (R299, R303): combinations are disarmed; power-on reset and RESET_N clear all of it. -/
def keptKlock (src : Nat) (s : State) : KlockState := if srcCombo ≤ src then { s.klock with combos := Vector.replicate 4 {} } else {}

/-- Memory tiles under test become FAILED, every word 0 (R562). -/
def failTestedTiles (s : State) : State :=
  (s.fabric.tiles.filter fun e => decide (bitsOf e.2 46 2 = tileTesting)).foldl (fun s e => (s.zeroTile e.1).setTileState e.1 tileFailed) s

/-- The memory layer through a reset: kept, but cleared at power-on (R416, R437, R589). -/
def keptFabric (src : Nat) (s : State) : FabricState :=
  if src = srcPowerOn then {} else { mem := s.fabric.mem, tiles := s.fabric.tiles, memReady := s.fabric.memReady }

/-! ### External memory at power-on (R516, R525) -/

/-- A region's entry at power-on: in PSRAM its generation and COUNT are 0 and a rekey is gone; in NOR it is kept. -/
def powerOnRegion (s : State) (r : Nat) (w : Word) : Word :=
  if s.isNor (r * regionBytes) then w
  else
    let m := bitsOf w 46 2
    packWord [(46, 2, if m = modeRekeying then modeEncrypted else m)]

/-- A NOR rekey under way or stopped at power-off starts again from the SYSTEM copy, which holds the old ciphertext (R525). -/
def rewindRekey (s : State) (r : Nat) : State :=
  let g := s.regionGen r
  let n := s.regionCount r
  (List.range (s.rekeyedTo r)).foldl (fun t k =>
    let a := r * regionBytes + k
    match t.extRaw a with
    | none => t
    | some x => t.putExtRaw a (some (x ^^^ keystream t a g n ^^^ keystream t a (g + 1) 0))) s

/-- The NOR regions that are REKEYING, in the order in which their rekeys resume (R525). -/
def norRekeys (s : State) : List Nat :=
  (s.xmem.rekeys ++ s.xmem.kept.map (·.1)).eraseDups.filter fun r => s.isNor (r * regionBytes)

/-- The external memories and the region table through power-on reset. -/
def powerOnXmem (s : State) : XmemState :=
  let t := (norRekeys s).foldl rewindRekey s
  { bytes := t.xmem.bytes.filter fun e => s.isNor e.1
    regions := (s.xmem.regions.map fun e => (e.1, powerOnRegion s e.1 e.2)).filter fun e => !(e.2 == 0)
    psramKey := s.xmem.psramKey + 1
    rekeys := norRekeys s }

/-- The same through any other reset that reaches the XMEM and CRYPT pages. -/
def keptXmem (src : Nat) (s : State) : XmemState :=
  if src = srcPowerOn then powerOnXmem s
  else
    { bytes := s.xmem.bytes
      regions := s.xmem.regions
      psramKey := s.xmem.psramKey
      rekeys := s.xmem.rekeys
      position := s.xmem.position
      kept := s.xmem.kept }

/-! ### A reset begins (R415 to R419) -/

/-- The store through every reset: pieces that wait are lost (R416, R496). -/
def keptStore (s : State) : StoreState := { s.store with jobs := [], buffer := [] }

/-- What SYSTEM keeps of the receive slot (R496, R499). -/
def keptUpdate (s : State) : UpdateState :=
  { key := s.update.key
    received := s.update.committed
    committed := s.update.committed
    marker := s.update.marker
    streams := s.update.streams
    bootSector := s.update.bootSector
    checkTime := s.update.checkTime
    requireAccept := s.update.requireAccept }

/-- The clock generator through a reset that reaches the CLOCK page: the judgement of XTAL and REFIN goes on but at power-on (R403, R405). -/
def keptClock (src : Nat) (s : State) : ClockState :=
  let c := s.clock
  let cold : ClockState := {
    inReset := true
    deep := true
    sources := c.sources
    comboNo := c.comboNo
    fromHold := c.fromHold
    byActivation := c.byActivation
    hiveStart := c.hiveStart }
  if src = srcPowerOn then { cold with hiveStart := 0 }
  else { cold with
    windows := c.windows
    offsets := c.offsets
    record := c.record
    good := c.good.filter fun e => decide (e.1 < 2)
    bad := c.bad.filter fun e => decide (e.1 < 2)
    boot := if s.flag Fld.CLOCK_STATUS_XTAL_READY then some 0 else if s.flag Fld.CLOCK_STATUS_REFIN_READY then some 1 else none }

/-- The bypass through a reset that reaches the RINGA page: a switch that is not CLOSED moves at once and settles 7,680 tck after (R352). -/
def keptBypass (cold : Bool) (s t : State) : State :=
  if s.bypass = bypassClosed then t
  else
    let at_ := if s.bypass = bypassClosing then s.ring.settleAt else s.now + 7680
    { t.set Fld.RINGA_BYPASS_STATE bypassClosing with
      ring := { t.ring with settleAt := if cold then at_ - s.now else at_, drained := true } }

/-- A reset whose reach includes the CLOCK page (R416). -/
def applyDeep (src : Nat) (s0 : State) : State :=
  let s := failTestedTiles s0
  let cold := decide (src = srcPowerOn)
  let t : State := { State.reset with
    regs := s.regs.filter fun e => keepsReg src e.1
    now := if cold then 0 else s.now
    freeCount := s.freeCount
    ledger := if cold then {} else { supAcc := s.ledger.supAcc, heatAcc := s.ledger.heatAcc }
    clock := keptClock src s
    fault := { lineRecord := s.fault.lineRecord }
    fabric := keptFabric src s
    klock := keptKlock src s
    hive := { census := if srcCombo ≤ src then s.hive.census else [] }
    store := keptStore s
    update := keptUpdate s
    service := if cold then { enabled := s.service.enabled } else s.service
    xmem := keptXmem src s }
  let t := keptBypass cold s (restoreFields s (if cold then unitFields else unitFields ++ warmFields) t)
  clearKlockStatus ((t.set Fld.CLOCK_STATUS_PLL_LOCK 0).set Fld.FABRIC_STATUS_FSTATE fabReset)

/-- A register keeps its value through a hive reset; the FABRIC page is reset with the fabric (R416). -/
def hiveKeepsReg (a : Nat) : Bool :=
  !(State.hivePage (a / 256) && decide (a / 256 ≠ 0x38)) && decide (a ≠ Reg.HIVE_MODE) || decide (a = Reg.LEDGER_ENERGY_SUP ∨ a = Reg.LEDGER_ENERGY_HEAT)

/-- Self-tests on parts that a hive reset reaches are abandoned: probes, clamps, lamps and strings (R562). -/
def hiveAbandons (s : State) : State :=
  let s := abandonTests s fun t => decide (t.kind ≤ kindStringOpen)
  let open_ := s.fault.probes.toList.flatMap fun p => if p.retest then p.suspects else []
  let s := open_.foldl (fun s e => classify s kindProbe (objPair e.1 e.2) classUntested 0) s
  busySync { s with fault := { s.fault with probes := Vector.replicate 8 {} } }

/-- A packet of key events (R289). -/
def isEvents (k : Packet) : Bool := decide (pktPlane k = planeData ∧ pktType k = 3)

/-- The events that the queue held are lost (R286): unacknowledged EVENTS packets of a node are sent no more, and the number of the oldest
that was lost is the next one given. -/
def dropEvents (s : State) : State :=
  let next := match s.hive.held.find? fun h => isEvents h.packet with
    | none => s.hive.sendSeq
    | some h => Table.put (fun _ => 0) s.hive.sendSeq h.peer h.seq
  { s with
    hive := { s.hive with held := s.hive.held.filter fun h => !isEvents h.packet, sendSeq := next }
    ring := { s.ring with own := s.ring.own.filter fun k => !isEvents k } }

/-- A hive reset holds its blocks (R416, R417). -/
def applyHiveReset (s : State) : State :=
  let s := hiveAbandons s
  let s := { s with
    regs := s.regs.filter fun e => hiveKeepsReg e.1
    force := s.force.filter fun e => hiveKeepsReg e.1
    frozen := s.frozen.filter fun e => hiveKeepsReg e.1
    winCtrl := s.winCtrl.filter fun e => !State.hivePage (e.1 % 64)
    commit := {}
    comb := {}
    pipe := {}
    groups := Vector.replicate 8 {}
    lcd := {}
    strings := Vector.replicate 4 {}
    lamps := {}
    ledger := { supAcc := s.ledger.supAcc, heatAcc := s.ledger.heatAcc }
    events := {}
    keys := {}
    therm := {}
    klock := { s.klock with combos := Vector.replicate 4 {} }
    late := [] }
  let s := dropEvents s
  let s := { s with
    clock := { s.clock with hiveStart := s.now }
    hive := { s.hive with arming := {}, preparing := false, early := 0, txnMode := 0, reportAt := none, hiveReset := none } }
  let s := holdFabric (clearKlockStatus (s.set Fld.CONFIG_CTX_STATE_PENDING 0))
  let s := if standbyDue s then enterStandby s else s
  if s.flag Fld.CLOCK_POWER_LEAVING then { s with clock := { s.clock with leaveAt := some s.now } } else s

/-- A reset source becomes active (R415, R418); none but power-on reset and RESET_N acts in HOLD (R419). -/
def resetStart (src : Nat) (s : State) : State :=
  if s.inHold && decide (srcHive ≤ src) then s
  else
    let first := s.clock.sources.isEmpty
    let s := { s with clock := { s.clock with
      fromHold := if first then s.inHold else s.clock.fromHold
      byActivation := if first then false else s.clock.byActivation
      sources := if src ∈ s.clock.sources then s.clock.sources else src :: s.clock.sources } }
    if src = srcHive then applyHiveReset s else applyDeep src s

/-! ### The device leaves reset (R417, R418, R420, R501 to R504) -/

/-- The lowest code among the active sources. -/
def lowestSource (s : State) : Nat := s.clock.sources.foldl min 7

/-- The cause is recorded and counted, and the sources have ended (R420, R428); a hive-class activation is not counted (R500). -/
def recordCause (s : State) : State :=
  let c := lowestSource s
  let s := s.setReg Reg.CLOCK_RESET_CAUSE (packWord [(45, 3, c), (43, 2, if c = srcCombo then s.clock.comboNo else 0),
    (42, 1, b2n s.clock.record), (41, 1, b2n s.clock.fromHold)])
  let s := if s.clock.byActivation then s
    else if c = srcResetN then s.bump Fld.CLOCK_RESET_COUNT_RESET_N 1
    else if c = srcHive then s.bump Fld.CLOCK_RESET_COUNT_HIVE 1
    else if c = srcCombo then s.bump Fld.CLOCK_RESET_COUNT_COMBO 1
    else if c = srcWatchdog then s.bump Fld.CLOCK_RESET_COUNT_WATCHDOG 1
    else s
  { s with clock := { s.clock with record := false, sources := [], deep := false, inReset := false, fromHold := false, byActivation := false } }

/-- Lines of the SYSTEM line record are disabled from the start (R558). -/
def applyLineRecord (s : State) : State :=
  s.fault.lineRecord.foldl (fun s x =>
    s.setReg (Reg.GRP_LINE_DISABLED (x / 48)) (withBits (s.reg (Reg.GRP_LINE_DISABLED (x / 48))) (x % 48) 1 1)) s

/-- CRYPT.STATUS shows the regions and the rekey as they are (R526, R530). -/
def cryptSync (s : State) : State :=
  let s := s.set Fld.CRYPT_STATUS_EXHAUSTED (s.xmem.regions.filter fun e => decide (bitsOf e.2 46 2 = modeExhausted)).length
  let s := showRekey s
  if s.xmem.rekeys.isEmpty then s else opAt (opStart s cryptPage 1) cryptPage s.xmem.position regionBytes

/-- A load of the stream at the boot record into context 0, which the reset itself makes (R453, R503). -/
def bootStream (s : State) (e : Nat × Nat) : Bool := s.flag Fld.UPDATE_BOOT_VALID && decide (e = (0, s.get Fld.UPDATE_BOOT_SECTOR))

/-- The receive slot resumes (R496, R499, R501, R506): an activation enters or repeats its check, its BOOT section recorded. -/
def resumeSlot (s : State) : State :=
  if s.slot = slotReceiving then opAt (opStart s updatePage 1) updatePage s.update.received.length (imagePieces s)
  else if s.slot = slotVerifying then opStart s updatePage 2
  else if s.slot = slotActivating ∨ s.slot = slotChecking then
    let s := match s.update.bootSector with | none => s | some k => putBoot k s
    let s := if s.update.marker && decide (imageClass s ≠ classHive) then putMarker false s else s
    let s := opStart (slotTo slotChecking s) updatePage 4
    { s with update := { s.update with
      checkStart := some s.now
      toLoad := s.update.streams.filter fun e => !bootStream s e
      loadFailed := false
      accepted := false } }
  else s

/-- Context 0 is loaded, at power-on once the memory layer is zeroed; with no boot record only an activation's own loads run (R503, R589). -/
def startLoads (s : State) : State :=
  let s := if s.fabric.memReady then loadContext0 s else s
  if !s.flag Fld.UPDATE_BOOT_VALID && decide (s.slot = slotChecking) then runLoads s.update.toLoad s else s

/-- The exit from a reset that reached the CLOCK page, on any tck from the first after the PLL has locked (R10): ADDR0 to ADDR3 and VIOX are
as on its last tck (R57, R60, R512). A HOLD that is ACTIVE is entered again at power-on and RESET_N (R504). -/
def deepExit (pins : BitVec 4) (viox : Bool) (s : State) : State :=
  let hard := decide (lowestSource s ≤ srcResetN)
  let s := s.elapse 1
  let s := recordCause { s with
    seconds := 0
    tick := 0
    secondsPending := none
    config := { s.config with slotEnd := s.now + 80, passStart := s.now }
    twi := { s.twi with freeSince := s.now, lowSince := none } }
  let s := (s.set Fld.TWI_STATUS_ADDR_PINS pins.toNat).setFlag Fld.XMEM_STATUS_ABSENT (!viox)
  let s := cryptSync (poolSync (faultSync (applyLineRecord s)))
  if hard && s.flag Fld.UPDATE_HOLD_ACTIVE then holdEffects s else startLoads (resumeSlot s)

/-- A hive reset releases its blocks, on any tck from the first after its own (R10, R417). -/
def hiveExit (s : State) : State := applyLineRecord (recordCause (s.elapseTo (s.clock.hiveStart + 1)))

/-- RESET_EXIT: the last source has ended (R405, R418). A deep reset waits for its boot source and the PLL. -/
def resetExit (pins : BitVec 4) (viox : Bool) (s : State) : State :=
  if s.clock.sources.isEmpty then s
  else if !s.clock.deep then hiveExit s
  else if s.flag Fld.CLOCK_STATUS_PLL_LOCK then deepExit pins viox s
  else s

/-! ### What starts a reset -/

/-- RESET_N low for a number of nanoseconds: a reset from 1 µs, nothing below 200 ns; between them the manual does not say which (R415). -/
def resetPulse (ns : Nat) (s : State) : State :=
  if 1000 ≤ ns then resetStart srcResetN s
  else if ns < 200 then s
  else
    let f := s.fresh
    if bitAt f.1 0 then resetStart srcResetN f.2 else f.2

/-- The oldest waiting action of a combination is taken, 1,024 tck after the firing (R303). -/
def comboAction (s : State) : State :=
  match s.klock.actions with
  | [] => s
  | a :: rest =>
    let s := ({ s with klock := { s.klock with actions := rest } }).elapseTo a.due
    if a.action = 1 then
      let t := s.now + 192000 * s.get Fld.KLOCK_BASIC_PANEL_PULSE
      { s with klock := { s.klock with panelUntil := some (max t (s.klock.panelUntil.getD 0)) } }
    else if a.action = 2 then (if s.clock.inReset || !s.clock.sources.isEmpty then s else fabricReset s)
    else if a.action = 3 then
      resetStart srcCombo { s with clock := { s.clock with comboNo := a.combo } }
    else s

/-- The pending BLINK and DIM that are due at the commit clock of this tck (R398). -/
def waggleDue (s : State) (w : Option (Nat × Packet)) : Option Packet :=
  match w with
  | none => none
  | some (t, k) => if s.commit.last = some s.now ∧ t ≤ s.hiveNow then some k else none

/-- A BLINK is applied: it writes the FRAME.BLINKn that its mask selects (R398). -/
def applyBlink (k : Packet) (s : State) : State :=
  let s := { s with hive := { s.hive with blink := none } }
  s.forEach 4 fun n s => if bitAt (pktWord k 0) n then writeBlink n (pktWord k (2 + n)) s else s

/-- A DIM is applied. -/
def applyDim (k : Packet) (s : State) : State := dimWaggle (bitAt (pktWord k 0) 0) { s with hive := { s.hive with dim := none } }

/-- A pending waggle acts (R371, R398, R417): BLINK and DIM at a commit clock, HIVE_RESET on its tick. -/
def waggleApply (s : State) : State :=
  let b := waggleDue s s.hive.blink
  let d := waggleDue s s.hive.dim
  if b.isSome || d.isSome then
    let s := match b with | some k => applyBlink k s | none => s
    match d with | some k => applyDim k s | none => s
  else match s.hive.hiveReset with
    | none => s
    | some t => resetStart srcHive (s.elapseHive t)

/-! ### Activations (R498, R500, R506) -/

/-- Step 1 of a hive-class activation, its marker, and the reset (R500). -/
def hiveActivate (s : State) : State :=
  let s := resetStart srcWatchdog (putMarker true (mapImage s))
  { s with clock := { s.clock with byActivation := true } }

/-- The slot's image ends the HOLD recorded (R504). -/
def endsHold (s : State) : Bool :=
  let c := s.get Fld.UPDATE_HOLD_CAUSE
  if c = 1 then decide (imageClass s = classStation)
  else if c = 4 then decide (imageClass s = classStation) && (sectionsOf s).any (·.boot)
  else decide (imageClass s = classHive)

/-- The activation of an image that ends HOLD (R506). -/
def leaveHold (s : State) : State :=
  let s := putMarker true (mapImage s)
  resetStart srcResetN (systemWrite 4 (s.set Fld.UPDATE_HOLD_ACTIVE 0))

/-- A write of 1 to UPDATE.CTRL.ACTIVATE for a STATION or KEY image (R498, R499). -/
def activateStation (s : State) : State :=
  let c := if s.inHold then 0 else activateCause s
  if c ≠ 0 then refuseActivation c s
  else if s.config.load.isSome || opActive s updatePage then opRefused s updatePage
  else if s.inHold && decide (imageClass s ≠ classKey) then leaveHold s
  else acceptStation s

/-- A write of 1 to UPDATE.CTRL.ACTIVATE (R498, R500, R506). -/
def activateRequest (s : State) : State :=
  if s.slot ≠ slotReady then s
  else if s.inHold && decide (imageClass s ≠ classKey) && !endsHold s then refuseActivation 11 s
  else if imageClass s = classHive then
    if s.inHold then leaveHold s else if s.addr ≠ 0 then refuseActivation 10 s else hiveActivate s
  else activateStation s

/-- The activation second of a pending ACTIVATE waggle comes (R500). -/
def hiveActivation (s : State) : State :=
  match s.hive.activate with
  | none => s
  | some w =>
    let s := ({ s with hive := { s.hive with activate := none } }).elapseHive (bitsOf w 16 32 * ticksPerSecond)
    if s.slot = slotReady ∧ imageClass s = classHive ∧ slotImage s % 65536 = bitsOf w 0 16 then hiveActivate s
    else s.raise Fld.UPDATE_EVENTS_ACT_MISSED

/-! ### Commands -/

/-- POWER_ON. -/
def execPowerOn (s : State) : Host.Outcome State Fault Refusal := actAlways s (resetStart srcPowerOn)

/-- RESET_N: a low pulse of `ns` nanoseconds. -/
def execResetN (ns : Nat) (s : State) : Host.Outcome State Fault Refusal := actAlways s (resetPulse ns)

/-- WATCHDOG. -/
def execWatchdog (s : State) : Host.Outcome State Fault Refusal := act s (resetStart srcWatchdog)

/-- RESET_EXIT: ADDR3 to ADDR0 as the last tck of reset samples them (R60), and whether VIOX is at or above 1.62 V (R55, R57). -/
def execResetExit (pins : ExitPins) (s : State) : Host.Outcome State Fault Refusal :=
  if s.clock.coreStopped then .next s else actAlways s (resetExit pins.addr pins.viox)

/-- COMBO_ACTION: hard logic that no reset but power-on and RESET_N reaches (R303). -/
def execComboAction (s : State) : Host.Outcome State Fault Refusal := if s.clock.coreStopped then .next s else actAlways s comboAction

/-- WAGGLE_APPLY. -/
def execWaggleApply (s : State) : Host.Outcome State Fault Refusal := act s waggleApply

/-- ACTIVATE. -/
def execActivate (p : Path) (s : State) : Host.Outcome State Fault Refusal := access s (fieldWrite p Reg.UPDATE_CTRL false activateRequest)

/-- HIVE_ACTIVATION. -/
def execHiveActivation (s : State) : Host.Outcome State Fault Refusal := act s hiveActivation

end Sys2Proof.Machine
end

