-- ==== Sys2Proof/Machine/Therm.lean ====
section
/-! DEFINITION. The thermal inputs: sensors, NTC conversion and the thermal shut-down (R574 to R576). -/
namespace Sys2Proof.Machine

/-- The scale of fixed-point logarithms. -/
def lnScale : Nat := 2 ^ 64

/-- 2 × (z + z³/3 + z⁵/5 + …) over `n` terms, for z = t / `lnScale`: `t` the present odd power, `sq` the square of z, `k` the odd number. -/
def atanhSum (sq : Int) : Nat → Nat → Int → Int
  | 0, _, _ => 0
  | n + 1, k, t => 2 * t / (k : Int) + atanhSum sq n (k + 2) (t * sq / (lnScale : Int))

/-- ln((a) / (b)) × `lnScale` for a/b near 1. -/
def lnNear (a b : Nat) : Int :=
  let z := ((a : Int) - b) * lnScale / ((a : Int) + b)
  atanhSum (z * z / lnScale) 40 1 z

/-- ln(a / b) × `lnScale` for positive a and b. -/
def lnRatio (a b : Nat) : Int :=
  let e : Int := (Nat.log2 a : Int) - (Nat.log2 b : Int)
  let a' := if e < 0 then a * 2 ^ e.natAbs else a
  let b' := if 0 ≤ e then b * 2 ^ e.natAbs else b
  e * lnNear 2 1 + lnNear a' b'

/-- T of an NTC input in °C from its ADC code, 2.5 V at 4,096 (R574): the formula rounded to the nearest degree and clamped. -/
def ntcDegrees (code beta rnom : Nat) : Int :=
  let inv := (lnScale : Int) * 20 / 5963 + lnRatio (40 * code) ((4096 - code) * rnom) / (max 1 beta : Nat)
  let num := 20 * (lnScale : Int) - 5453 * inv
  let t := if 0 < inv then Int.fdiv num (20 * inv) else if inv < 0 then Int.fdiv (-num) (-(20 * inv)) else 127
  clampInt (-55) 127 t

/-- OPEN above 2.45 V, SHORT below 25 mV (R574). -/
def ntcState (code : Nat) : Nat := if 2450 * 4096 < 2500 * code then 1 else if 2500 * code < 25 * 4096 then 2 else 0

/-- An NTC input is converted: at code 0 the formula gives no temperature, which is then free. -/
def updateNtc (n code : Nat) (s : State) : State :=
  let beta := if n = 0 then s.get Fld.THERM_BASIC_BETA0 else s.get Fld.THERM_BASIC_BETA1
  let rnom := if n = 0 then s.get Fld.THERM_BASIC_RNOM0 else s.get Fld.THERM_BASIC_RNOM1
  let fState := if n = 0 then Fld.THERM_STATUS_NTC0_STATE else Fld.THERM_STATUS_NTC1_STATE
  let fFault := if n = 0 then Fld.THERM_EVENTS_NTC0_FAULT else Fld.THERM_EVENTS_NTC1_FAULT
  let fT := if n = 0 then Fld.THERM_NTC_T0 else Fld.THERM_NTC_T1
  let fV := if n = 0 then Fld.THERM_NTC_V0 else Fld.THERM_NTC_V1
  let old := s.get fState
  let new := ntcState code
  let s := (s.set fState new).set fV code
  let s := if new ≠ 0 ∧ new ≠ old then s.raise fFault else s
  if code = 0 then let f := s.fresh; f.2.set fT (bitsOf f.1 0 8) else s.setInt fT (ntcDegrees code beta rnom)

/-- The place of a sensor's reading. -/
def dieField (g : Nat) : Field := ⟨Reg.THERM_DIE_LO + g / 4, 40 - 8 * (g % 4), 8⟩

/-- A sensor's reading as its 8-bit two's complement field shows it; what the field shows of a temperature it cannot hold is free (R576). -/
def showDie (g : Nat) (t : Int) (s : State) : State :=
  if -128 ≤ t ∧ t ≤ 127 then s.setInt (dieField g) t else let f := s.fresh; f.2.set (dieField g) (bitsOf f.1 0 8)

/-- A drive-layer sensor is read (R575). -/
def updateDie (g : Nat) (t : Int) (s : State) : State :=
  let hot : Field := ⟨Fld.THERM_STATUS_HOT.reg, Fld.THERM_STATUS_HOT.lo + g, 1⟩
  let on := decide (125 ≤ t)
  let s := if on && !s.flag hot then s.raise Fld.THERM_EVENTS_HOT else s
  let s := { s with therm := { s.therm with die := Table.put (fun _ => 0) s.therm.die g t } }
  (showDie g t s).setFlag hot on

/-- A sensor reads 140 °C or more. -/
def tooHot (s : State) : Bool := (List.range 8).any fun g => decide (140 ≤ dieTemp s g)

/-- The sensors and NTC inputs are converted, 1 ms after the last time (R574). -/
def dieSensorUpdate (die : List Int) (ntc : List (BitVec 12)) (s : State) : State :=
  let s := match s.therm.lastUpdate with | none => s | some t => s.elapseTo (t + 192000)
  let s := s.forEach 8 fun g s => match die[g]? with | some t => updateDie g t s | none => s
  let s := s.forEach 2 fun n s => match ntc[n]? with | some c => updateNtc n c.toNat s | none => s
  { s with therm := { s.therm with lastUpdate := some s.now, hotSince := if tooHot s then some (s.therm.hotSince.getD s.now) else none } }

/-- The thermal shut-down (R575): the count starts again. -/
def thermalShutdown (s : State) : State :=
  match s.therm.hotSince with
  | none => s
  | some t =>
    let s := s.elapseTo (t + 192000)
    let s := disableBias ((s.forEach 8 disableGroup).forEach 4 disableString)
    { s.raise Fld.THERM_EVENTS_SHUTDOWN with therm := { s.therm with hotSince := some s.now } }

/-- A write of THERM.BASIC (R576). -/
def writeThermBasic (v : Word) (s : State) : State :=
  if bitsOf v 36 12 < 1000 ∨ bitsOf v 16 12 < 1000 ∨ bitsOf v 28 8 = 0 ∨ bitsOf v 8 8 = 0 then s.raiseBit 0x15 45
  else s.putWord Reg.THERM_BASIC v

/-! ### Commands -/

/-- DIE_SENSOR_UPDATE: the eight sensors in °C, and the codes of the two NTC inputs. -/
def execDieSensorUpdate (die : List Int) (ntc : List (BitVec 12)) (s : State) : Host.Outcome State Fault Refusal := actIn 0x15 s (dieSensorUpdate die ntc)

/-- SHUTDOWN. -/
def execShutdown (s : State) : Host.Outcome State Fault Refusal := act s thermalShutdown

/-- THERM_BASIC_WRITE. -/
def execThermBasicWrite (p : Path) (v : Word) (s : State) : Host.Outcome State Fault Refusal := access s (regWrite p Reg.THERM_BASIC writeThermBasic v)

end Sys2Proof.Machine
end

