-- ==== Sys2Proof/Machine/Arbiter.lean ====
section
/-! DEFINITION. The register file as its paths see it: what a read returns and does, what a write does, table windows, levels and locks,
and the management-plane requests (R63 to R94). -/
namespace Sys2Proof.Machine

/-! ### Table windows (R81, R82) -/

/-- Entries of table `t` behind a page's window; 0 for an undefined code. -/
def winSize (s : State) (page t : Nat) : Nat :=
  let of := fun l : List Nat => if t = 0 then 0 else l.getD (t - 1) 0
  if page = 0x02 then of [8, 10]
  else if page = 0x05 then of [388, 16]
  else if page = 0x10 then of [384, 384]
  else if page = 0x11 then (if 0x10 ≤ t ∧ t < 0x20 then 128 else of [4096, 4096])
  else if page = 0x12 then of [128, 8]
  else if page = 0x13 then of [384, 384]
  else if page = 0x14 then of [64, 64, 40]
  else if page = 0x18 then of [4096, 128]
  else if page = 0x19 then of [4096, 128]
  else if page = 0x28 then of [384, 384, 2304]
  else if page = 0x2A then of [683, 2048, 1792]
  else if page = 0x2B then of [683, 86, 11, 32]
  else if page = 0x2C then of [8192]
  else if page = 0x2D then of [extEntries s]
  else if page = 0x30 then of [8]
  else if page = 0x31 then of [64, 16]
  else if page = 0x38 then of [4096, 32]
  else 0

/-- FRAME window table 0x02: an LCD segment reads 1,023 when on and 0 when off (R158). -/
def litEntry (s : State) (i : Nat) : Word :=
  let e := litLevel s i
  if s.isLcd (cpGroup i) then packWord [(10, 3, e / 1024), (0, 10, if 512 ≤ e % 1024 then 1023 else 0)] else packWord [(0, 13, e)]

/-- The memory word of entry `i` of a frame buffer's table (R158). -/
def bufferWord (s : State) (t i : Nat) : Nat := s.bufferBase ((t - 0x10) / 2) (decide (t % 2 = 1)) + i

/-- Entry `i` of table `t` of a page but XMEM (R122, R151, R158, R201, R226, R254, R278, R329, R379, R452, R479, R507, R508, R565, R566). -/
def tableWord (s : State) (page t i : Nat) : Word :=
  let z := fun _ : Nat => (0 : Word)
  let pick := fun l : List Word => l.getD (t - 1) 0
  if page = 0x02 then pick [groupFigures s i, demandEntry s i]
  else if page = 0x05 then pick [Table.get z s.hive.census i, Table.get z s.hive.modes i]
  else if page = 0x10 then pick [s.cell s.shadowBank i, s.cell s.activeBank i]
  else if page = 0x11 then (if 0x10 ≤ t then s.memRead (bufferWord s t i) else pick [Table.get z s.pipe.pat i, litEntry s i])
  else if page = 0x12 then
    let d := Table.get (fun _ => 256) s.pipe.derate i
    pick [packWord [(0, 8, Table.get (fun _ => 0x80) s.pipe.bins i)], packWord [(16, 8, d / 512), (0, 9, d)]]
  else if page = 0x13 then pick [dcEntry s s.lcd.j s.lcd.jSat i, dcEntry s s.lcd.w s.lcd.wSat i]
  else if page = 0x14 then pick [s.lampEntry i, litCode s i, packWord [(0, 16, litPlane s (i / 10) (i % 10))]]
  else if page = 0x18 then pick [s.keyEntry i, rawMap s i]
  else if page = 0x19 then pick [s.healthEntry i, heldMap s i]
  else if page = 0x28 then pick [sourceEntry s i, digestEntry s i, mapWord s i]
  else if page = 0x2A then pick [Table.get z s.store.buffer i, sectorEntry s i, mapEntry s i]
  else if page = 0x2B then pick [Table.get z s.update.pieceBuf i, bitmapEntry s i, Table.get z s.update.keyBuf i, sectionWord s i]
  else if page = 0x2C then s.regionWord i
  else if page = 0x30 then probeEntry s i
  else if page = 0x31 then pick [s.fault.log.getD i 0, Table.get z s.fault.counters i]
  else if page = 0x38 then pick [tileEntry s i, s.winWord i]
  else 0

/-- A write of entry `i`; tables that are read only ignore it. -/
def tableWrite (page t i : Nat) (v : Word) (s : State) : State :=
  let z := fun _ : Nat => (0 : Word)
  if page = 0x05 ∧ t = 1 then writeCensus i v s
  else if page = 0x05 then { s with hive := { s.hive with modes := Table.put z s.hive.modes i (withBits v 0 22 0) } }
  else if page = 0x10 then
    if t = 2 then s.raise Fld.COMB_EVENTS_ACTIVE_WRITE else if s.expert combPage then writeShadowCell i v s else s.raiseBit combPage 47
  else if page = 0x11 ∧ 0x10 ≤ t then memWrite s (bufferWord s t i) v
  else if page = 0x11 ∧ t = 1 then writePat i (withBits v 0 13 0) s
  else if page = 0x12 ∧ t = 1 then writeBin i (bitsOf v 0 8) s
  else if page = 0x14 ∧ t = 1 then writeLamp i v s
  else if page = 0x18 ∧ t = 1 then writeKeyEntry i v s
  else if page = 0x19 ∧ t = 1 then writeHealthEntry i v s
  else if page = 0x2A ∧ t = 1 then writeStoreBuf i v s
  else if page = 0x2B ∧ t = 1 then { s with update := { s.update with pieceBuf := Table.put z s.update.pieceBuf i v } }
  else if page = 0x2B ∧ t = 3 then { s with update := { s.update with keyBuf := Table.put z s.update.keyBuf i v } }
  else s

/-- An access of entry `i` of a table: a write with a value, else a read. -/
def tableAccess (page t i : Nat) (w : Option Word) (s : State) : Word × State :=
  if page = xmemPage then extWindow i w s
  else match w with
    | none => (tableWord s page t i, s)
    | some v => (0, tableWrite page t i v s)

/-- A register address is WIN_DATA or WIN_ARRAYn of a page with a window. -/
def isWindow (a : Nat) : Bool := hasWindow (a / 256) && decide (0xE1 ≤ a % 256 ∧ a % 256 ≤ 0xFD)

/-- The entry that a window register reaches for a path, with its table. -/
def winEntryOf (s : State) (p : Path) (a : Nat) : Nat × Nat :=
  let c := s.winCtl p (a / 256)
  (bitsOf c 40 8, bitsOf c 0 24 + (a % 256 - 0xE2))

/-- The access falls outside its table. -/
def winOutside (s : State) (p : Path) (a : Nat) : Bool :=
  let e := winEntryOf s p a
  decide (winSize s (a / 256) e.1 ≤ e.2)

/-- An access of the entry that WIN_DATA or WIN_ARRAYn reaches (R81, R82). -/
def entryAccess (p : Path) (a : Nat) (w : Option Word) (s : State) : Word × State :=
  let e := winEntryOf s p a
  if winOutside s p a then (0, s.raiseBit (a / 256) 44) else tableAccess (a / 256) e.1 e.2 w s

/-- A complete access through WIN_DATA or WIN_ARRAYn: WIN_DATA moves INDEX on with AUTO_INC. -/
def winAccess (p : Path) (a : Nat) (w : Option Word) (s : State) : Word × State :=
  let r := entryAccess p a w s
  (r.1, if a % 256 = 0xE1 then r.2.autoInc p (a / 256) else r.2)

/-! ### Reads (R64, R65, R67, R85, R92) -/

/-- STATUS of a page with the fields its block computes. -/
def blockStatus (s : State) (p : Path) (page : Nat) : Word :=
  if 8 ≤ page ∧ page < 0x10 then grpStatus s (page - 8)
  else if page = 0x05 then hiveStatus s
  else if page = 0x06 then
    let w := s.reg Reg.TWI_STATUS
    match p with
    | .twi => withBits (withBits w 29 3 4) 8 3 0
    | .ring => w
    | .fabric => w
    | .service => w
    | .waggle => w
  else if page = 0x18 then keyStatus s
  else if page = 0x19 then ghostStatus s
  else if page = 0x1A then eventStatus s
  else s.reg (page * 256 + 3)

/-- STATUS with the copies that every page shows (R594). -/
def statusView (s : State) (p : Path) (page : Nat) : Word :=
  let c := pageStatus s page
  withBits (withBits (blockStatus s p page) 47 1 (bitsOf c 47 1)) 46 1 (bitsOf c 46 1)

/-- The store's next piece write moves its worn sector first (R483). -/
def movesSector (s : State) : Bool :=
  match nextJob (decide (s.slot = slotActivating)) s.store.jobs with
  | none => false
  | some (j, _) => s.readOnly (if j.ctrl then s.physOf j.sector else s.store.reserved.getD j.sector 0)

/-- PROGRESS of a page while its operation runs: a bank check, a load, a tile test, a verification and a sector move show how far they have
come, and a post-activation check its units of 10 ms (R70, R115, R463, R483, R499, R507, R508, R565). -/
def progressView (s : State) (page : Nat) : Word :=
  let a := page * 256 + 5
  let at_ := fun (d n : Nat) => (opAt s page d n).reg a
  if page = storePage ∧ movesSector s = true then withBits (at_ (doneNow s page 16) 16) 32 8 2
  else if !opActive s page then s.reg a
  else if page = combPage then at_ (doneNow s page (combTotal s)) (combTotal s)
  else if page = configPage then (match s.config.load with | none => s.reg a | some l => let p := loadPoint s l; at_ p.1 p.2)
  else if page = 0x30 then at_ (doneNow s page 20480) 20480
  else if page = updatePage ∧ s.slot = slotVerifying then
    let n := bitsOf (imageWord s 7) 16 32
    at_ (doneNow s page n) n
  else if page = updatePage ∧ s.slot = slotChecking then
    let n := if s.update.checkTime = 0 then 100 else s.update.checkTime
    at_ (min n ((s.now - s.update.checkStart.getD s.now) / 1920000)) n
  else s.reg a

/-- A register of a block as a path reads it. DESIGN CHOICE: at expert level a register at a basic index that the hardware updates stays live, as
R6 has it of RO fields, HEADROOM alone apart (R77, R179). -/
def blockView (s : State) (p : Path) (a : Nat) : Word :=
  if a % 256 = 5 then progressView s (a / 256)
  else if a = 0x0B then eventSum0 s
  else if a = 0x0C then eventSum1 s
  else if a = Reg.HIVE_SECONDS then secondsWord s
  else if a = Reg.HIVE_TICK then tickWord s
  else if a = Reg.HIVE_MODE_CENSUS then modeCensus s
  else if a = Reg.COMB_X_PERIOD then combPeriods s
  else if a / 256 = 0x14 ∧ 0x10 ≤ a % 256 ∧ a % 256 < 0x14 then stringStat s (a % 256 - 0x10)
  else if a = Reg.EVENT_POP then (popByPath p s.settledNow).1
  else if a = Reg.EVENT_PEEK then peekWord s
  else if a = Reg.EVENT_LAST_EXT then lastExt s p
  else if a = Reg.EVENT_PEEK_EXT then peekExt s
  else if a = Reg.UPDATE_RXCOUNT then rxCount s
  else s.reg a

/-- What a path reads at an address; nothing changes. -/
def regView (s : State) (p : Path) (a : Nat) : Word :=
  let page := a / 256
  let index := a % 256
  if reservedPage page then 0
  else if index = 0xFE then packWord [(0, 6, s.get Fld.TWI_STATUS_PAGE)]
  else if isWindow a then (winAccess p a none s).1
  else if index = 0xE0 then (if hasWindow page then s.winCtl p page else 0)
  else if (regFields a).isNone then 0
  else if index = 0 then pageId page
  else if index = 3 then statusView s p page
  else if index = 6 then pageLock s page
  else blockView s p a

/-- The side-effect of a read by the fabric: what it does by itself, and what it does when its data returns, 2 tck after the arbiter served it
(R85, R431, R433). -/
def fabricReadEffect (a : Nat) (s : State) : State :=
  if a = Reg.EVENT_POP then s.later 2 .fabricPop
  else if isWindow a then
    let t := if winOutside s .fabric a then s else (entryAccess .fabric a none s).2
    t.later 2 (.windowRead (a / 256) (winOutside s .fabric a) (decide (a % 256 = 0xE1)))
  else s

/-- The side-effect of a complete read: a pop, a window's advance and flags (R85). -/
def readEffect (p : Path) (a : Nat) (s : State) : State :=
  if p = .fabric then fabricReadEffect a s
  else if a = Reg.EVENT_POP then (popByPath p s.settledNow).2
  else if isWindow a then (winAccess p a none s).2
  else s

/-- A path may read: the service port in HOLD on its pages, any other out of HOLD (R504, R506). -/
def readOpen (s : State) (p : Path) (page : Nat) : Bool :=
  if s.inHold then decide (p = .service ∧ (page = 0 ∨ page = 1 ∨ page = 0x2A ∨ page = 0x2B)) else decide (p ≠ .service)

/-- The word of a read on its way back to its path: the fabric's returns 2 tck after the arbiter served it (R431). -/
def readReturns (p : Path) (a : Nat) (v : Word) (s : State) : State :=
  if p = .fabric ∧ a ≠ Reg.EVENT_POP then s.later 2 (.bridgeData 0 { data := v }) else s

/-- A read that the arbiter serves. -/
def serveRead (p : Path) (a : Nat) (s : State) : Word × State :=
  if readOpen s p (a / 256) then (regView s p a, readReturns p a (regView s p a) (readEffect p a s)) else (0, s)

/-! ### Levels (R75 to R80) -/

/-- Expert registers that stand alone return to their reset values, which are their derived values. -/
def rederiveRegs (as : List Nat) (s : State) : State := as.foldl (fun s a => s.setReg a (regReset a)) s

/-- The expert registers of a page that has returned to basic level take their derived values, as a write of each (R79). -/
def rederive (page : Nat) (s : State) : State :=
  if page = 0x03 ∨ page = 0x04 then rederiveRegs [Reg.RING_X_PHY (page - 3)] s
  else if 8 ≤ page ∧ page < 0x10 then rederiveGroup (page - 8) s
  else if page = 0x10 then
    writeShadowPeriod s.comb.loadPeriod (writeCombRun (s.flag Fld.COMB_BASIC_RUN) (s.set Fld.COMB_X_CTRL_PORT_EN 0))
  else if page = 0x13 then rederiveRegs [Reg.LCDB_X_COMP] s
  else if page = 0x14 then rederiveStrings s
  else if page = 0x18 then deriveProfiles s
  else if page = 0x19 then rederiveRegs [Reg.GHOST_X_RESOLVE, Reg.GHOST_X_HEALTH] s
  else s

/-- A write of LEVEL (R75, R78 to R80). -/
def writeLevel (page : Nat) (v : Word) (s : State) : State :=
  let on := bitAt v 0
  if on && !hasExpert page then s.raiseBit page 47
  else if on = s.expert page then s
  else if on then s.setReg (page * 256 + 7) 1
  else rederive page (s.setReg (page * 256 + 7) 0)

/-! ### Writes of the blocks' registers -/

/-- The bits of a register that a write of 1 clears. -/
def w1cMask (a : Nat) : Word :=
  match regFields a with
  | none => 0
  | some fs => accessMask (fun x => decide (x = .w1c)) fs

/-- A register without a rule of its own: writable fields take the written values, W1C fields clear (R6, R84). -/
def plainWrite (a : Nat) (v : Word) (s : State) : State :=
  let t := s.putWord a v
  t.setReg a (t.reg a &&& ~~~(v &&& w1cMask a))

/-- A write of HIVE.EVENTS: HIVE.GONE counts from 0 when NODE_GONE is cleared (R401). -/
def writeHiveEvents (v : Word) (s : State) : State :=
  let s := plainWrite Reg.HIVE_EVENTS v s
  if s.flag Fld.HIVE_EVENTS_NODE_GONE then s else s.set Fld.HIVE_GONE_DROPPED 0

/-- A write of EVENT.EVENTS: LOST counts from 0 when OVERFLOW is cleared (R306). -/
def writeEventEvents (v : Word) (s : State) : State :=
  let s := plainWrite Reg.EVENT_EVENTS v s
  if s.flag Fld.EVENT_EVENTS_OVERFLOW then s else s.set Fld.EVENT_STATUS_LOST 0

/-- A write of UPDATE.EVENTS: ACTIVATED clears with its event (R508). -/
def writeUpdateEvents (v : Word) (s : State) : State :=
  let s := plainWrite Reg.UPDATE_EVENTS v s
  if s.flag Fld.UPDATE_EVENTS_ACTIVATED then s else s.set Fld.UPDATE_STATUS_ACTIVATED 0

/-- Several actions of one write, in rising bit order; none acts on a device that an earlier one has reset. -/
def writeActions (v : Word) (fs : List (Nat × (State → State))) (s : State) : State :=
  fs.foldl (fun s f => if bitAt v f.1 && !s.clock.inReset then f.2 s else s) s

/-- UPDATE.CTRL (R508). -/
def writeUpdateCtrl (v : Word) (s : State) : State :=
  writeActions v [(0, activateRequest), (1, abortSlot), (2, acceptBuild), (3, keyCommit), (4, pieceGo)] s

/-- The COMB page (R125). -/
def writeCombPage (index : Nat) (v : Word) (s : State) : State :=
  if index = 2 then writeCombRun (bitAt v 0) (s.set Fld.COMB_BASIC_LOCK_HIVE (bitsOf v 1 1))
  else if index = 8 then
    writeActions v [(12, fun s => loadRequest (s.get Fld.COMB_BANK_CTRL_LAYOUT_TILE) s), (13, swapRequest)] (s.putWord Reg.COMB_BANK_CTRL v)
  else if index = 0x40 then
    writeActions v [(1, swapRequest), (2, checkRequest), (3, copyRequest)] (writeCombRun (bitAt v 0) (s.set Fld.COMB_X_CTRL_PORT_EN (bitsOf v 4 1)))
  else if index = 0x41 then writeShadowPeriod (bitsOf v 24 24) s
  else plainWrite (0x1000 + index) v s

/-- A group's page (R178, R179, R202). -/
def writeGroupPage (g index : Nat) (v : Word) (s : State) : State :=
  if index = 2 then writeGrpShared g v s
  else if index = 8 then writeLineUse g v s
  else if index = 0x0A ∨ index = 0x41 then clearHeadroom g v s
  else if index = 0x0B then writeLcd g v s
  else if index = 0x40 then writeXDrive g v s
  else plainWrite ((8 + g) * 256 + index) v s

/-- The FRAME page (R131, R147, R157). -/
def writeFramePage (index : Nat) (v : Word) (s : State) : State :=
  if 8 ≤ index ∧ index < 0x10 then writeActions v [(0, flipRequest (index - 8))] (s.putWord (0x1100 + index) v)
  else if index = 0x10 then writePlanes v s
  else if 0x12 ≤ index ∧ index < 0x16 then writeBlink (index - 0x12) v s
  else plainWrite (0x1100 + index) v s

/-- The STRING page (R225). -/
def writeStringPage (index : Nat) (v : Word) (s : State) : State :=
  if 8 ≤ index ∧ index < 0x0C then writeStringCtrl (index - 8) v s
  else if 0x10 ≤ index ∧ index < 0x14 then clearFailed (index - 0x10) v s
  else if 0x18 ≤ index ∧ index < 0x1C then writeStringSup (index - 0x18) v s
  else if 0x40 ≤ index ∧ index < 0x44 then writeXSeq (index - 0x40) v s
  else plainWrite (0x1400 + index) v s

/-- The KEY page (R253). -/
def writeKeyPage (index : Nat) (v : Word) (s : State) : State :=
  if index = 2 then writeKeyBasic v s
  else if 8 ≤ index ∧ index < 0x10 then writeSense (index - 8) v s
  else if 0x10 ≤ index ∧ index < 0x18 then writeProfile (index - 0x10) v s
  else if 0x40 ≤ index ∧ index < 0x48 then writeXProfile (index - 0x40) v s
  else plainWrite (0x1800 + index) v s

/-- The KLOCK page (R307). -/
def writeKlockPage (index : Nat) (v : Word) (s : State) : State :=
  if index = 2 then writeKlockBasic v s
  else if index = 8 then writeKlockCtrl v s
  else if 9 ≤ index ∧ index < 0x0C then writeSeq (index - 9) v s
  else if 0x10 ≤ index ∧ index < 0x14 then writeComboKeys (index - 0x10) v s
  else if 0x14 ≤ index ∧ index < 0x18 then writeComboCtrl (index - 0x14) v s
  else plainWrite (0x1B00 + index) v s

/-- The CLOCK page (R428, R429). -/
def writeClockPage (index : Nat) (v : Word) (s : State) : State :=
  if index = 2 then writeClockBasic v s
  else if index = 8 then writeGate v s
  else if index = 9 then writePower v s
  else if index = 0x0A then writeStartup v s
  else if index = 0x0C then writeActions v [(0, clearResetCounts)] s
  else plainWrite (0x100 + index) v s

/-- The LEDGER and HIVE pages, and the ring pages (R327, R328, R366, R367, R401). -/
def writeLedgerPage (index : Nat) (v : Word) (s : State) : State :=
  if index = 8 then writeLimits v s
  else if index = 9 then writeMon v s
  else if index = 0x0E then clearCounters (bitAt v 0) (bitAt v 1) s
  else plainWrite (0x200 + index) v s
def writeRingPage (x index : Nat) (v : Word) (s : State) : State :=
  if index = 2 then writeRingBasic x v s
  else if index = 0x0C then writeBypass v s
  else plainWrite ((3 + x) * 256 + index) v s
def writeHivePage (index : Nat) (v : Word) (s : State) : State :=
  if index = 4 then writeHiveEvents v s
  else if index = 8 then writeSeconds (bitsOf v 16 32) s
  else if index = 0x0A then writeAlign v s
  else if index = 0x0B then writeRole v s
  else if index = 0x11 then writeTxCtrl v none s
  else plainWrite (0x500 + index) v s

/-- TWI.BASIC is in force when the bus is free (R546). -/
def twiSettings (s : State) : State := { s with twi := { s.twi with basic := s.reg Reg.TWI_BASIC } }
def writeTwiPage (index : Nat) (v : Word) (s : State) : State :=
  let s := plainWrite (0x600 + index) v s
  if s.get Fld.TWI_STATUS_STATE = 0 ∨ s.get Fld.TWI_STATUS_STATE = 6 then twiSettings s else s

/-- The pages of the fabric, the configuration layer and the store (R451, R452, R479, R480, R507, R508). -/
def writeFabricPage (index : Nat) (v : Word) (s : State) : State :=
  if index = 8 then writeFabricCtrl v s
  else if index = 9 then writeTileCtrl v s
  else if 0x10 ≤ index ∧ index < 0x18 then writeProt (index - 0x10) v s
  else if index = 0x18 then writeActions v [(0, freezeProt)] s
  else plainWrite (0x3800 + index) v s
def writeConfigPage (index : Nat) (v : Word) (s : State) : State :=
  if index = 9 then writeCtxSwitch v s
  else if index = 0x0A then writeLoadCtrl v s
  else if index = 0x0C then writeStage v s
  else plainWrite (0x2800 + index) v s
def writeScrubPage (index : Nat) (v : Word) (s : State) : State :=
  if index = 2 then writeScrubBasic v s else if index = 0x0A then writePasses v s else plainWrite (0x2900 + index) v s
def writeUpdatePage (index : Nat) (v : Word) (s : State) : State :=
  if index = 4 then writeUpdateEvents v s
  else if index = 0x0A then writeUpdateCtrl v s
  else if index = 0x0E then writeBoot v s
  else plainWrite (0x2B00 + index) v s

/-- The XMEM page (R529). -/
def writeXmemPage (index : Nat) (v : Word) (s : State) : State :=
  if index = 2 then writeXmemBasic v s
  else if index = 8 ∨ index = 9 then writeDev (index - 8) v s
  else if index = 0x0A then writeCmd v s
  else if 0x10 ≤ index ∧ index < 0x18 then writeXmemProt (index - 0x10) v s
  else plainWrite (0x2D00 + index) v s

/-- A write of a register of a block, past the tests of level and LOCK. -/
def blockWrite (a : Nat) (v : Word) (s : State) : State :=
  let page := a / 256
  let index := a % 256
  if index = 6 then plainWrite a v s
  else if index = 7 then writeLevel page v s
  else if a = 9 then writeCommitCtrl v s
  else if page = 0x01 then writeClockPage index v s
  else if page = 0x02 then writeLedgerPage index v s
  else if page = 0x03 ∨ page = 0x04 then writeRingPage (page - 3) index v s
  else if page = 0x05 then writeHivePage index v s
  else if page = 0x06 then writeTwiPage index v s
  else if 8 ≤ page ∧ page < 0x10 then writeGroupPage (page - 8) index v s
  else if page = 0x10 then writeCombPage index v s
  else if page = 0x11 then writeFramePage index v s
  else if a = Reg.LCDB_BASIC then writeLcdbBasic v s
  else if page = 0x14 then writeStringPage index v s
  else if a = Reg.THERM_BASIC then writeThermBasic v s
  else if page = 0x18 then writeKeyPage index v s
  else if a = Reg.EVENT_EVENTS then writeEventEvents v s
  else if page = 0x1B then writeKlockPage index v s
  else if page = 0x28 then writeConfigPage index v s
  else if page = 0x29 then writeScrubPage index v s
  else if a = Reg.STORE_PIECE_CTRL then writePieceCtrl v s
  else if page = 0x2B then writeUpdatePage index v s
  else if a = Reg.CRYPT_REGION_CTRL then writeRegionCtrl v s
  else if page = 0x2D then writeXmemPage index v s
  else if a = Reg.SELFTEST_REQ then writeTestReq v s
  else if a = Reg.FAULT_LINE_CTRL then writeLineCtrl v s
  else if a = Reg.FAULT_LOG_CTRL then writeLogCtrl v s
  else if page = 0x38 then writeFabricPage index v s
  else plainWrite a v s

/-! ### Writes (R64, R65, R72, R76, R77, R83, R84) -/

/-- A write of PAGE_SEL: from the two-wire port it changes the page; from any other path it is ignored (R83). -/
def writePageSel (p : Path) (v : Word) (s : State) : State :=
  let page := bitsOf v 0 6
  match p with
  | .twi => if reservedPage page then s.raise Fld.TWI_EVENTS_PAGE_REFUSED else s.set Fld.TWI_STATUS_PAGE page
  | .ring => s
  | .fabric => s
  | .service => s
  | .waggle => s

/-- The writable bits of WIN_CTRL. -/
def winCtlMask : Word := 0xFF8000FFFFFF

/-- A write that the arbiter serves. -/
def serveWrite (p : Path) (a : Nat) (v : Word) (s : State) : State :=
  let page := a / 256
  let index := a % 256
  if !s.pathOpen p page then s
  else if reservedPage page then s.raise Fld.DEVICE_EVENTS_RESERVED_PAGE
  else if index = 0xFE then writePageSel p v s
  else if isWindow a then (winAccess p a (some v) s).2
  else if index = 0xE0 ∧ hasWindow page = true then s.putWinCtl p page (v &&& winCtlMask)
  else if (regFields a).isNone then s.raiseBit page 45
  else regWrite p a (blockWrite a) v s

/-- The problem that a write met, as R88 codes it: 1 level, 2 LOCK, 3 reserved index or page, 4 window range; 0 for none. -/
def writeProblem (s : State) (p : Path) (a : Nat) (v : Word) : Nat :=
  let page := a / 256
  let index := a % 256
  if reservedPage page then 3
  else if index = 0xFE then 0
  else if isWindow a then
    if winOutside s p a then 4
    else if page = combPage ∧ (winEntryOf s p a).1 = 1 ∧ s.expert page = false then 1
    else 0
  else if index = 0xE0 ∧ hasWindow page = true then 0
  else if (regFields a).isNone then 3
  else if (8 ≤ index ∧ index < 0x40 ∨ index = 2) ∧ s.expert page = true ∨ 0x40 ≤ index ∧ index < 0xE0 ∧ s.expert page = false then 1
  else if s.locked p page ∧ State.lockMask a ≠ 0 then 2
  else if index = 7 ∧ bitAt v 0 = true ∧ hasExpert page = false then 1
  else 0

/-- The problem that a read met. -/
def readProblem (s : State) (p : Path) (a : Nat) : Nat := if isWindow a && winOutside s p a then 4 else 0

/-! ### Management-plane requests (R86 to R90) -/

/-- The address of register `k` of a request: it rises and wraps within the page, or stays (R86). -/
def requestAddr (w : Word) (k : Nat) : Nat :=
  let a := bitsOf w 0 14
  if bitsOf w 24 2 = 0 then a / 256 * 256 + (a % 256 + k) % 256 else a

/-- The code that refuses a request whole: 6 for its COUNT or MODE, 5 for its length, 0 for none (R88). -/
def requestRefusal (k : Packet) (write : Bool) : Nat :=
  let w := pktWord k 0
  let n := bitsOf w 32 8
  if n = 0 ∨ 2 ≤ bitsOf w 24 2 then 6
  else if k.payload.length ≠ (if write then 1 + n else 1) then 5
  else 0

/-- A response to a request (R87). -/
def respond (k : Packet) (type : Nat) (payload : List Word) (s : State) : State :=
  ownSend (nodePacket s (pktSource k) planeManagement type (pktSeq k) payload) s

/-- The access word with STATUS. -/
def withStatus (k : Packet) (code : Nat) : Word := withBits (pktWord k 0) 40 8 code

/-- The request in progress presents its next register to the arbiter (R89): its problem, and on a read its word, are kept. -/
def presentRegister (r : RegRequest) (s : State) : RegRequest × State :=
  let a := requestAddr (pktWord r.packet 0) r.next
  if r.write then
    let v := r.packet.payload.getD (r.next + 1) 0
    let e := writeProblem s .ring a v
    ({ r with next := r.next + 1, problem := if r.problem = 0 then e else r.problem }, serveWrite .ring a v s)
  else
    let o := serveRead .ring a s
    ({ r with next := r.next + 1, problem := if r.problem = 0 then readProblem s .ring a else r.problem, words := r.words ++ [o.1] }, o.2)

/-- The response to a request whose registers have all been served; none to a broadcast (R87, R88). -/
def answerRequest (r : RegRequest) (s : State) : State :=
  let k := r.packet
  let s := { s with ring := { s.ring with request := none } }
  if pktDest k = broadcast then s
  else if r.write then respond k 0x22 [withStatus k r.problem] s
  else respond k 0x21 (withStatus k r.problem :: r.words) s

/-- One tck of a request: its next register is served, and after the last one the response is formed (R89). -/
def serveRequest (r : RegRequest) (s : State) : State :=
  let o := presentRegister r s.nextTck
  if bitsOf (pktWord r.packet 0) 32 8 ≤ o.1.next then answerRequest o.1 o.2
  else { o.2 with ring := { o.2.ring with request := some o.1 } }

/-- A REG_READ is taken (R86 to R88): one to 0x7F is discarded, one with a wrong length, COUNT or MODE touches no register. -/
def regRead (k : Packet) (s : State) : State :=
  if pktDest k = broadcast then s
  else if requestRefusal k false ≠ 0 then respond k 0x21 [withStatus k (requestRefusal k false)] s
  else serveRequest { packet := k, write := false } s

/-- A REG_WRITE is taken (R86 to R88): one to 0x7F is applied and not answered. -/
def regWriteRequest (k : Packet) (s : State) : State :=
  if requestRefusal k true ≠ 0 then
    (if pktDest k = broadcast then s else respond k 0x22 [withStatus k (requestRefusal k true)] s)
  else serveRequest { packet := k, write := true } s

/-- The register request in progress goes on with its next register when it is of the kind, or, when none is in progress, the first packet
delivered is taken. Accesses of other paths may come between two registers of one packet (R89). -/
def nextRegister (write : Bool) (s : State) : State :=
  match s.ring.request with
  | some r => if r.write = write then serveRequest r s else s
  | none => takePacket planeManagement (if write then 2 else 1) (if write then regWriteRequest else regRead) s

/-- The registers of a telemetry set, in order; none for a reserved set (R90). -/
def telemetrySet (n : Nat) : Option (List Nat) :=
  if n = 0 then some [0x0B, 0x0C, Reg.DEVICE_COMMIT_STAT, 0x103, Reg.CLOCK_RESET_CAUSE, Reg.HIVE_ALIGN, Reg.HIVE_MODE, Reg.LEDGER_STATUS,
    Reg.LEDGER_ENERGY_SUP, Reg.LEDGER_ENERGY_HEAT, Reg.THERM_STATUS, Reg.THERM_DIE_LO, Reg.THERM_DIE_HI, Reg.KEY_STATUS, Reg.GHOST_STATUS,
    Reg.EVENT_STATUS, Reg.SCRUB_COUNTS, Reg.FAULT_STATUS, 0x2A03, Reg.UPDATE_STATUS, Reg.RING_ERRORS 0, Reg.RING_ERRORS 1]
  else if n = 1 then some ((List.range 8).map (fun g => (8 + g) * 256 + 3) ++ (List.range 8).map fun g => (8 + g) * 256 + 4)
  else if n = 2 then some [Reg.RING_STATUS 0, Reg.RING_ERRORS 0, Reg.RING_LINK 0, Reg.RING_STATUS 1, Reg.RING_ERRORS 1, Reg.RING_LINK 1,
    Reg.HIVE_ALIGN, Reg.HIVE_TICK]
  else none

/-- The payload of a TELEM_RESP. -/
def telemetryWords (s : State) (k : Packet) : List Word :=
  let n := bitsOf (pktWord k 0) 32 8
  let head := fun (code m : Nat) => packWord [(40, 8, code), (32, 8, n), (24, 8, m)]
  if k.payload.length ≠ 1 then [head 5 0]
  else match telemetrySet n with
    | none => [head 6 0]
    | some as => head 0 as.length :: as.map (regView s .ring)

/-- TELEM_READ (R90): the set is taken in the one tck in which the arbiter serves the request; a broadcast is answered by a node that holds an
address, in its slot, which counts from the tck the request was taken on. -/
def telemRead (k : Packet) (s : State) : State :=
  let all := decide (pktDest k = broadcast)
  if all && decide (s.addr = 0) then s
  else
    let t := s.nextTck
    let p := nodePacket t (pktSource k) planeManagement 0x23 (pktSeq k) (telemetryWords t k)
    let due := if all then some (s.now + 64 + s.addr * 2048) else none
    { t with hive := { t.hive with answers := t.hive.answers ++ [⟨p, due⟩] } }

/-- The answer that goes out next: the oldest whose slot has come or that waits for none, else the one whose slot comes first. -/
def nextAnswer (now : Nat) (as : List Answer) : Option Answer :=
  match as.find? fun a => decide (a.due.getD 0 ≤ now) with
  | some a => some a
  | none => as.foldl (fun m a => match m with
    | none => some a
    | some b => if a.due.getD 0 < b.due.getD 0 then some a else some b) none

/-- A TELEM_RESP goes out, at its time (R90). -/
def telemResp (s : State) : State :=
  match nextAnswer s.now s.hive.answers with
  | none => s
  | some a =>
    let s := { s with hive := { s.hive with answers := s.hive.answers.erase a } }
    ownSend a.packet (match a.due with | none => s | some t => s.elapseTo t)

/-! ### Commands -/

/-- REG_WRITE_GENERIC: a write of any register by a path. -/
def execRegWriteGeneric (p : Path) (a : BitVec 14) (v : Word) (s : State) : Host.Outcome State Fault Refusal := access s (serveWrite p a.toNat v)

/-- LEVEL_WRITE: a write of a page's LEVEL. -/
def execLevelWrite (p : Path) (page : BitVec 6) (v : Word) (s : State) : Host.Outcome State Fault Refusal :=
  access s (serveWrite p (page.toNat * 256 + 7) v)

/-- PAGE_LOCK_WRITE: a write of a page's LOCK. -/
def execPageLockWrite (p : Path) (page : BitVec 6) (v : Word) (s : State) : Host.Outcome State Fault Refusal :=
  access s (serveWrite p (page.toNat * 256 + 6) v)

/-- WIN_DATA_ACCESS: WIN_DATA (0) or WIN_ARRAY of a page, written with a value, else read. -/
def execWinDataAccess (p : Path) (page : BitVec 6) (k : Fin 29) (w : Option Word) (s : State) : Host.Outcome State Fault Refusal :=
  access s fun s =>
    match w with
    | some v => serveWrite p (page.toNat * 256 + 0xE1 + k) v s
    | none => (serveRead p (page.toNat * 256 + 0xE1 + k) s).2

/-- PAGE_SEL_WRITE: a write of PAGE_SEL at a page. -/
def execPageSelWrite (p : Path) (page : BitVec 6) (v : Word) (s : State) : Host.Outcome State Fault Refusal :=
  access s (serveWrite p (page.toNat * 256 + 0xFE) v)

/-- XMEM_WINDOW_ACCESS: WIN_DATA (0) or WIN_ARRAY of the XMEM page, written with a value, else read. -/
def execXmemWindowAccess (p : Path) (k : Fin 29) (w : Option Word) (s : State) : Host.Outcome State Fault Refusal :=
  access s fun s =>
    match w with
    | some v => serveWrite p (0x2DE1 + k) v s
    | none => (serveRead p (0x2DE1 + k) s).2

/-- REG_READ: one register of the request. -/
def execRegRead (s : State) : Host.Outcome State Fault Refusal := act s (nextRegister false)

/-- REG_WRITE: one register of the request. -/
def execRegWrite (s : State) : Host.Outcome State Fault Refusal := act s (nextRegister true)

/-- TELEM_READ. -/
def execTelemRead (s : State) : Host.Outcome State Fault Refusal := act s (takePacket planeManagement 3 telemRead)

/-- TELEM_RESP. -/
def execTelemResp (s : State) : Host.Outcome State Fault Refusal := act s telemResp

end Sys2Proof.Machine
end

