-- ==== Sys2Proof/Machine/Service.lean ====
section
/-! DEFINITION. The service port: the test access port's instructions and its accesses of registers and memory (R443, R505, R506). -/
namespace Sys2Proof.Machine

/-- Codes of the instructions (R505). -/
def irExtest : BitVec 8 := 0x00
def irSample : BitVec 8 := 0x02
def irReg : BitVec 8 := 0x40
def irMem : BitVec 8 := 0x41
def irBypass : BitVec 8 := 0xFF

/-- The state with an instruction in force; only EXTEST drives the balls from the boundary register. -/
def selectIr (ir : BitVec 8) (s : State) : State :=
  { s with service := { s.service with
    ir := ir
    driving := decide (ir = irExtest) } }

/-- SVC_REG reaches a register: in HOLD, on the DEVICE, CLOCK, STORE and UPDATE pages (R506). -/
def svcReaches (s : State) (a : Nat) : Bool := readOpen s .service (a / 256)

/-- One SVC_REG access: its read data, free after a write that was made, and 0 where it does not act (R506). -/
def svcAccess (write : Bool) (a : Nat) (v : Word) (s : State) : Word × State :=
  if !svcReaches s a then (0, s)
  else if write then (serveWrite .service a v s).fresh
  else serveRead .service a s

/-- The access is done and its read data waits for Capture-DR. -/
def svcRegDone (r : Word × State) : State := { r.2 with service := { r.2.service with regDone := true, regData := r.1 } }
def svcMemDone (r : Word × State) : State := { r.2 with service := { r.2.service with memDone := true, memData := r.1 } }

/-- SVC_REG, while SERVICE_EN is high (R505, R506). -/
def svcReg (write : Bool) (a : Nat) (v : Word) (s : State) : State :=
  if s.service.enabled then svcRegDone (svcAccess write a v (selectIr irReg s)) else s

/-- A word of the memory layer: refused outside it and on a protected tile (R443). -/
def svcMemWord (write : Bool) (a : Nat) (v : Word) (s : State) : Word × State :=
  if 4194304 ≤ a then (0, s)
  else if protectedTile s (a / 1024) then (0, protHit true false a s)
  else if write then (memWrite s a v).fresh
  else (s.memRead a, s)

/-- Six bytes of the external space: refused where no device answers or a byte is protected (R443, R512, R513, R528). -/
def svcExtWord (write : Bool) (a : Nat) (v : Word) (s : State) : Word × State :=
  match ((List.range 6).map (a + ·)).find? s.extProtectedByte with
  | some b => (0, protHit true true b s)
  | none =>
    let c := extCause s a 6
    if c ≠ 0 then (0, extRefuse c s)
    else if write then
      let r := extWrite a (wordBytes v) s
      if r.1 then r.2.fresh else (0, r.2)
    else extRead a s

/-- SVC_MEM, in every power state while SERVICE_EN is high (R505, R506). -/
def svcMem (write ext : Bool) (a : Nat) (v : Word) (s : State) : State :=
  if s.service.enabled then
    let s := selectIr irMem s
    svcMemDone (if ext then svcExtWord write a v s else svcMemWord write a v s)
  else s

/-- One scan of the boundary register under an instruction: the cells capture, shift in `si` if given, and update (R505). -/
def boundaryScan (ir : BitVec 8) (captured : BitVec 324) (si : Option (BitVec 324)) (s : State) : State :=
  if s.service.enabled then
    let v := si.getD captured
    let s := selectIr ir s
    { s with service := { s.service with boundary := v, latched := v } }
  else s

/-- One scan of the bypass register: it captures 0 and holds the last bit shifted in. -/
def bypassScan (si : Option Bool) (s : State) : State :=
  if s.service.enabled then
    let s := selectIr irBypass s
    { s with service := { s.service with bypassBit := si.getD false } }
  else s

/-- SERVICE_EN changes level: low holds the port in Test-Logic-Reset, which selects BYPASS (R505). -/
def serviceEn (on : Bool) (s : State) : State :=
  let s := selectIr irBypass s
  { s with service := { s.service with enabled := on } }

/-! ### Commands -/

/-- SVC_REG. -/
def execSvcReg (write : Bool) (a : BitVec 14) (v : Word) (s : State) : Host.Outcome State Fault Refusal := act s (svcReg write a.toNat v)

/-- SVC_MEM: a word of the memory layer, or six bytes of the external space. -/
def execSvcMem (write ext : Bool) (a : BitVec 29) (v : Word) (s : State) : Host.Outcome State Fault Refusal := act s (svcMem write ext a.toNat v)

/-- EXTEST: what the cells capture, and what is shifted in; TCK clocks it, whatever the core does. -/
def execExtest (captured : BitVec 324) (si : Option (BitVec 324)) (s : State) : Host.Outcome State Fault Refusal :=
  actAlways s (boundaryScan irExtest captured si)

/-- SAMPLE_PRELOAD. -/
def execSamplePreload (captured : BitVec 324) (si : Option (BitVec 324)) (s : State) : Host.Outcome State Fault Refusal :=
  actAlways s (boundaryScan irSample captured si)

/-- BYPASS. -/
def execBypass (si : Option Bool) (s : State) : Host.Outcome State Fault Refusal := actAlways s (bypassScan si)

/-- SERVICE_EN_CHANGE. -/
def execServiceEnChange (on : Bool) (s : State) : Host.Outcome State Fault Refusal := actAlways s (serviceEn on)

end Sys2Proof.Machine
end

