-- ==== Sys2Proof/Machine/Twi.lean ====
section
/-! DEFINITION. The two-wire target port: its state machine, its pointer, and the registers it moves byte by byte (R531 to R551). -/
namespace Sys2Proof.Machine

/-- States of the port (R550). -/
def twiIdle : Nat := 0
def twiAddress : Nat := 1
def twiIndex : Nat := 2
def twiWrite : Nat := 3
def twiRead : Nat := 4
def twiIgnore : Nat := 5
def twiAsleep : Nat := 6
def twiRecover : Nat := 7

/-- Free bus that ends RECOVER, and that lets the port sleep again, in tck (R545, R547). -/
def twiFreeTck : Nat := 1920
def twiSleepTck : Nat := 1920000

/-- One millisecond in tck. DESIGN CHOICE: the milliseconds of hive time of R544 are counted on the local tck, so that a step of hive time neither
shortens nor lengthens them. -/
def twiMs : Nat := 192000

namespace State

/-- The port's state. -/
def twiState (s : State) : Nat := s.get Fld.TWI_STATUS_STATE

/-- The state with the port in another state. -/
def twiTo (s : State) (n : Nat) : State := s.set Fld.TWI_STATUS_STATE n

/-- The register that the pointer names (R83, R535). -/
def twiAddr (s : State) : Nat := s.get Fld.TWI_STATUS_PAGE * 256 + s.get Fld.TWI_STATUS_INDEX

/-- A transaction is in progress. -/
def twiBusy (s : State) : Bool := decide (s.twiState = twiAddress ∨ s.twiState = twiIndex ∨ s.twiState = twiWrite ∨ s.twiState = twiRead ∨
  s.twiState = twiIgnore)

end State

/-- The port drives a line from now on: an acknowledge, a stretch or a byte of a read (R542, R543). -/
def twiDrives (s : State) : State := { s with twi := { s.twi with lowSince := some s.now } }

/-- The port drives neither line. -/
def twiReleases (s : State) : State := { s with twi := { s.twi with lowSince := none } }

/-- The port leaves the rest of the transaction to the controller (R540, R548, R550). -/
def twiLeave (s : State) : State := twiReleases (s.twiTo twiIgnore)

/-- The pointer moves on after a complete register: it wraps within the page, or stays under REPEAT_IDX as in force (R536 to R538). -/
def twiAdvance (s : State) : State :=
  if bitAt s.twi.basic 37 then s else s.set Fld.TWI_STATUS_INDEX ((s.get Fld.TWI_STATUS_INDEX + 1) % 256)

/-- Bytes of an incomplete write register are discarded (R536). -/
def twiDropPartial (s : State) : State :=
  if s.twi.bytes.isEmpty then s else { s with twi := { s.twi with bytes := [] } }.raise Fld.TWI_EVENTS_PARTIAL_WRITE

/-- The transaction in progress ends where it stands, `mid` within a byte (R541). -/
def twiEnd (mid : Bool) (s : State) : State :=
  let s := if mid && s.twiBusy then s.raise Fld.TWI_EVENTS_BUS_ERROR else s
  (twiDropPartial s).set Fld.TWI_STATUS_BYTE 0

/-- The bus is free: settings written meanwhile take effect (R546). -/
def twiFree (s : State) : State :=
  let s := twiReleases (twiSettings (s.twiTo twiIdle))
  { s with twi := { s.twi with freeSince := s.now } }

/-- A start condition (R541, R547). -/
def twiStart (mid : Bool) (s : State) : State :=
  if s.twiState = twiAsleep then
    let s := ((s.twiTo twiIgnore).set Fld.TWI_STATUS_AWAKE 1).raise Fld.TWI_EVENTS_WAKE
    { s with twi := { s.twi with woken := true } }
  else if s.twiState = twiRecover then s
  else twiReleases ((twiEnd mid s).twiTo twiAddress)

/-- A stop condition (R541, R545). -/
def twiStop (mid : Bool) (s : State) : State :=
  if s.twiState = twiAsleep then s
  else if s.twiState = twiRecover then twiFree s
  else twiFree (twiEnd mid s)

/-- The register at the pointer is loaded through the arbiter, its first byte next; its side-effect waits (R67, R84, R537). Free values that
the load takes are used up. -/
def twiLoad (s : State) : State :=
  let s := s.nextTck
  let a := s.twiAddr
  let v := if readOpen s .twi (a / 256) then regView s .twi a else 0
  let n := if isWindow a then (winAccess .twi a none s).2.freeCount else s.freeCount
  { s with
    freeCount := n
    twi := { s.twi with loaded := v } }.set Fld.TWI_STATUS_BYTE 0

/-- The address byte: the port's own for a write or a read, else ignored; in HOLD the port acknowledges nothing (R532, R548, R550). -/
def twiAddressByte (b : Byte) (s : State) : State :=
  let own := 0x60 + 2 * s.get Fld.TWI_STATUS_ADDR_PINS
  if s.twiState ≠ twiAddress then s
  else if s.inHold then twiLeave s
  else if b.toNat = own then twiDrives (s.twiTo twiIndex)
  else if b.toNat = own + 1 then twiLoad (twiDrives (s.twiTo twiRead))
  else twiLeave s

/-- The index byte (R535). -/
def twiIndexByte (b : Byte) (s : State) : State :=
  if s.twiState ≠ twiIndex then s
  else if s.inHold then twiLeave s
  else twiDrives (((s.set Fld.TWI_STATUS_INDEX b.toNat).set Fld.TWI_STATUS_BYTE 0).twiTo twiWrite)

/-- The index at the pointer is reserved in the page: 0xFF, and any index without a register but PAGE_SEL and a window's (R65, R540). -/
def twiReserved (s : State) : Bool :=
  let a := s.twiAddr
  let i := a % 256
  !(i == 0xFE || isWindow a || (i == 0xE0 && hasWindow (a / 256))) && (regFields a).isNone

/-- A register refused at its first byte (R540). -/
def twiNack (s : State) : State := twiLeave ((s.raiseBit (s.get Fld.TWI_STATUS_PAGE) 45).raise Fld.TWI_EVENTS_NACKED)

/-- The word of six bytes, most significant byte first (R536). -/
def twiWord (bs : List Byte) : Word := BitVec.ofNat 48 (bs.foldl (fun n b => n * 256 + b.toNat) 0)

/-- The sixth byte: the register reaches the arbiter, and the pointer moves on; an accepted or refused PAGE_SEL leaves it at 0xFF (R536, R539). -/
def twiCommit (bs : List Byte) (s : State) : State :=
  let a := s.twiAddr
  let s := { s with twi := { s.twi with bytes := [] } }.set Fld.TWI_STATUS_BYTE 0
  let s := serveWrite .twi a (twiWord bs) s.nextTck
  if a % 256 = 0xFE then s.set Fld.TWI_STATUS_INDEX 0xFF else twiAdvance s

/-- A data byte of a write (R536, R540). -/
def twiWriteByte (b : Byte) (s : State) : State :=
  if s.twiState ≠ twiWrite then s
  else if s.inHold then twiLeave s
  else if s.twi.bytes.isEmpty && twiReserved s then twiNack s
  else
    let s := twiDrives s
    let bs := s.twi.bytes ++ [b]
    if bs.length < 6 then { s with twi := { s.twi with bytes := bs } }.set Fld.TWI_STATUS_BYTE bs.length
    else twiCommit bs s

/-- The controller acknowledges a byte of a read: the sixth completes the register, with its side-effect, and the next one loads (R537). -/
def twiReadAck (s : State) : State :=
  let n := s.get Fld.TWI_STATUS_BYTE
  if s.twiState ≠ twiRead then s
  else if s.inHold then twiLeave s
  else if n < 5 then twiDrives (s.set Fld.TWI_STATUS_BYTE (n + 1))
  else
    let s := (twiDrives s).nextTck
    let a := s.twiAddr
    let t := if readOpen s .twi (a / 256) then readEffect .twi a s else s
    twiLoad (twiAdvance { t with freeCount := s.freeCount })

/-- The controller does not acknowledge: the register being read stays as it is (R537). -/
def twiReadNack (s : State) : State := if s.twiState = twiRead then twiLeave (s.set Fld.TWI_STATUS_BYTE 0) else s

/-- The port has held a line low for (TIMEOUT + 1) ms and releases both (R544): the time runs at the earliest from the last acknowledge or
byte that it began to drive. -/
def twiTimeout (s : State) : State :=
  match s.twi.lowSince with
  | some t0 =>
    let s := s.elapseTo (t0 + (bitsOf s.twi.basic 38 6 + 1) * twiMs)
    twiReleases ((((twiDropPartial s).set Fld.TWI_STATUS_BYTE 0).raise Fld.TWI_EVENTS_TIMEOUT).twiTo twiRecover)
  | none => s

/-- 1,920 tck of free bus end RECOVER (R545). -/
def twiBusFree (s : State) : State := if s.twiState = twiRecover then twiFree (s.elapse twiFreeTck) else s

/-- The port's clock is gated in STANDBY: at the first moment the bus is free, and after a start has woken it, when 10 ms have passed
with the bus free (R547). -/
def twiSleep (s : State) : State :=
  if s.inStandby && decide (s.twiState = twiIdle) then
    let s := if s.twi.woken then s.elapseTo (s.twi.freeSince + twiSleepTck) else s
    (s.twiTo twiAsleep).set Fld.TWI_STATUS_AWAKE 0
  else s

/-! ### Commands -/

/-- TWI_START: `mid` when it arrives within a byte. -/
def execTwiStart (mid : Bool) (s : State) : Host.Outcome State Fault Refusal := act s (twiStart mid)

/-- TWI_STOP: `mid` when it arrives within a byte. -/
def execTwiStop (mid : Bool) (s : State) : Host.Outcome State Fault Refusal := act s (twiStop mid)

/-- TWI_ADDRESS_BYTE. -/
def execTwiAddressByte (b : Byte) (s : State) : Host.Outcome State Fault Refusal := act s (twiAddressByte b)

/-- TWI_INDEX_BYTE. -/
def execTwiIndexByte (b : Byte) (s : State) : Host.Outcome State Fault Refusal := act s (twiIndexByte b)

/-- TWI_WRITE_BYTE. -/
def execTwiWriteByte (b : Byte) (s : State) : Host.Outcome State Fault Refusal := act s (twiWriteByte b)

/-- TWI_READ_ACK. -/
def execTwiReadAck (s : State) : Host.Outcome State Fault Refusal := act s twiReadAck

/-- TWI_READ_NACK. -/
def execTwiReadNack (s : State) : Host.Outcome State Fault Refusal := act s twiReadNack

/-- TWI_TIMEOUT. -/
def execTwiTimeout (s : State) : Host.Outcome State Fault Refusal := act s twiTimeout

/-- TWI_BUS_FREE. -/
def execTwiBusFree (s : State) : Host.Outcome State Fault Refusal := act s twiBusFree

/-- TWI_SLEEP. -/
def execTwiSleep (s : State) : Host.Outcome State Fault Refusal := act s twiSleep

/-- TWI_BASIC_WRITE: a write of TWI.BASIC. -/
def execTwiBasicWrite (p : Path) (v : Word) (s : State) : Host.Outcome State Fault Refusal := access s (serveWrite p Reg.TWI_BASIC v)

end Sys2Proof.Machine
end

