-- ==== Sys2Proof/Machine/Dispatch.lean ====
section
/-! DEFINITION. One command's effect on everything but the queue: one arm per command of the table. -/
namespace Sys2Proof.Machine

/-- The effect of a command. -/
def exec (i : Instr) (s : State) : Host.Outcome State Fault Refusal :=
  match i with
  | .cellEdge r => Sys2Proof.Machine.execCellEdge r s
  | .commitClock r => Sys2Proof.Machine.execCommitClock r s
  | .freezePoint vled => Sys2Proof.Machine.execFreezePoint vled s
  | .commitCtrlSubmit p v => Sys2Proof.Machine.execCommitCtrlSubmit p v s
  | .coreClockStop => Sys2Proof.Machine.execCoreClockStop s
  | .txPacketStart x => Sys2Proof.Machine.execTxPacketStart x s
  | .regWriteGeneric p a v => Sys2Proof.Machine.execRegWriteGeneric p a v s
  | .levelWrite p page v => Sys2Proof.Machine.execLevelWrite p page v s
  | .pageLockWrite p page v => Sys2Proof.Machine.execPageLockWrite p page v s
  | .winDataAccess p page k w => Sys2Proof.Machine.execWinDataAccess p page k w s
  | .pageSelWrite p page v => Sys2Proof.Machine.execPageSelWrite p page v s
  | .regRead => Sys2Proof.Machine.execRegRead s
  | .regWrite => Sys2Proof.Machine.execRegWrite s
  | .telemRead => Sys2Proof.Machine.execTelemRead s
  | .telemResp => Sys2Proof.Machine.execTelemResp s
  | .packetReceived x k e => Sys2Proof.Machine.execPacketReceived x k e s
  | .checkReq p => Sys2Proof.Machine.execCheckReq p s
  | .bankCheckDone => Sys2Proof.Machine.execBankCheckDone s
  | .loadReq p tile => Sys2Proof.Machine.execLoadReq p tile s
  | .layoutLoadDone found => Sys2Proof.Machine.execLayoutLoadDone found s
  | .copyReq p => Sys2Proof.Machine.execCopyReq p s
  | .copyDone => Sys2Proof.Machine.execCopyDone s
  | .swapReq p => Sys2Proof.Machine.execSwapReq p s
  | .shadowCellWrite p cell v => Sys2Proof.Machine.execShadowCellWrite p cell v s
  | .combCellPortWrite cell v => Sys2Proof.Machine.execCombCellPortWrite cell v s
  | .shadowPeriodWrite p period => Sys2Proof.Machine.execShadowPeriodWrite p period s
  | .combRunWrite p run => Sys2Proof.Machine.execCombRunWrite p run s
  | .combStart r => Sys2Proof.Machine.execCombStart r s
  | .alignWaitEnd r => Sys2Proof.Machine.execAlignWaitEnd r s
  | .standbyFrameStart => Sys2Proof.Machine.execStandbyFrameStart s
  | .flipReq p g => Sys2Proof.Machine.execFlipReq p g s
  | .fbPortWrite g front w v flip => Sys2Proof.Machine.execFbPortWrite g front w v flip s
  | .stage1Fetch found => Sys2Proof.Machine.execStage1Fetch found s
  | .blinkWrite p n v => Sys2Proof.Machine.execBlinkWrite p n v s
  | .planesWrite p v => Sys2Proof.Machine.execPlanesWrite p v s
  | .groupEnable p g => Sys2Proof.Machine.execGroupEnable p g s
  | .groupDisable p g => Sys2Proof.Machine.execGroupDisable p g s
  | .kindWrite p g lcd => Sys2Proof.Machine.execKindWrite p g lcd s
  | .isegWrite p g code => Sys2Proof.Machine.execIsegWrite p g code s
  | .dropWrite p g code => Sys2Proof.Machine.execDropWrite p g code s
  | .lineUseWrite p g v => Sys2Proof.Machine.execLineUseWrite p g v s
  | .rampStepTick g => Sys2Proof.Machine.execRampStepTick g s
  | .dischargeEnd g => Sys2Proof.Machine.execDischargeEnd g s
  | .headroom g lines => Sys2Proof.Machine.execHeadroom g lines s
  | .clineClamp g c => Sys2Proof.Machine.execClineClamp g c s
  | .vledLow g => Sys2Proof.Machine.execVledLow g s
  | .lcdWrite p g v => Sys2Proof.Machine.execLcdWrite p g v s
  | .biasEnable p => Sys2Proof.Machine.execBiasEnable p s
  | .biasDisable p => Sys2Proof.Machine.execBiasDisable p s
  | .biasReady => Sys2Proof.Machine.execBiasReady s
  | .pumpFail => Sys2Proof.Machine.execPumpFail s
  | .pumpOverload => Sys2Proof.Machine.execPumpOverload s
  | .biasDischargeEnd vlcd => Sys2Proof.Machine.execBiasDischargeEnd vlcd s
  | .vlcdTargetUpdate vlcd => Sys2Proof.Machine.execVlcdTargetUpdate vlcd s
  | .biasSetWrite p bias vset => Sys2Proof.Machine.execBiasSetWrite p bias vset s
  | .stringEnable p n => Sys2Proof.Machine.execStringEnable p n s
  | .stringDisable p n => Sys2Proof.Machine.execStringDisable p n s
  | .stringCtrlWrite p n iref rsns => Sys2Proof.Machine.execStringCtrlWrite p n iref rsns s
  | .stringSupWrite p n vlow k => Sys2Proof.Machine.execStringSupWrite p n vlow k s
  | .hmarginWrite p n v => Sys2Proof.Machine.execHmarginWrite p n v s
  | .stringRampTick n => Sys2Proof.Machine.execStringRampTick n s
  | .releaseStep n => Sys2Proof.Machine.execReleaseStep n s
  | .lampOpen n k => Sys2Proof.Machine.execLampOpen n k s
  | .stringOpen n => Sys2Proof.Machine.execStringOpen n s
  | .stringHeadroom n => Sys2Proof.Machine.execStringHeadroom n s
  | .lampSample n mv lamps => Sys2Proof.Machine.execLampSample n mv lamps s
  | .keySenseWrite p g v => Sys2Proof.Machine.execKeySenseWrite p g v s
  | .profileWrite p n v => Sys2Proof.Machine.execProfileWrite p n v s
  | .keyEntryWrite n v => Sys2Proof.Machine.execKeyEntryWrite n v s
  | .keyEngineTick => Sys2Proof.Machine.execKeyEngineTick s
  | .healthEntryWrite n v => Sys2Proof.Machine.execHealthEntryWrite n v s
  | .eventEnqueue => Sys2Proof.Machine.execEventEnqueue s
  | .eventPop p => Sys2Proof.Machine.execEventPop p s
  | .fabricEventPop => Sys2Proof.Machine.execFabricEventPop s
  | .eventsPacketForm => Sys2Proof.Machine.execEventsPacketForm s
  | .keyLockWrite p on => Sys2Proof.Machine.execKeyLockWrite p on s
  | .clearFails p => Sys2Proof.Machine.execClearFails p s
  | .seal p => Sys2Proof.Machine.execSeal p s
  | .seqWrite p k v => Sys2Proof.Machine.execSeqWrite p k v s
  | .comboWrite p n ctrl v => Sys2Proof.Machine.execComboWrite p n ctrl v s
  | .klockBasicWrite p v => Sys2Proof.Machine.execKlockBasicWrite p v s
  | .seqGapTimeout => Sys2Proof.Machine.execSeqGapTimeout s
  | .lockoutEnded => Sys2Proof.Machine.execLockoutEnded s
  | .comboFire => Sys2Proof.Machine.execComboFire s
  | .comboAction => Sys2Proof.Machine.execComboAction s
  | .panelPulseEnd => Sys2Proof.Machine.execPanelPulseEnd s
  | .vsupSample v => Sys2Proof.Machine.execVsupSample v s
  | .zcEdge rising => Sys2Proof.Machine.execZcEdge rising s
  | .zcMissing => Sys2Proof.Machine.execZcMissing s
  | .recovered => Sys2Proof.Machine.execRecovered s
  | .ledgerMonWrite p v => Sys2Proof.Machine.execLedgerMonWrite p v s
  | .baseHeatWrite p v => Sys2Proof.Machine.execBaseHeatWrite p v s
  | .ctrClear p sup heat => Sys2Proof.Machine.execCtrClear p sup heat s
  | .lswSend x => Sys2Proof.Machine.execLswSend x s
  | .timeSend x sub => Sys2Proof.Machine.execTimeSend x sub s
  | .epochSend x => Sys2Proof.Machine.execEpochSend x s
  | .lswReceive x w => Sys2Proof.Machine.execLswReceive x w s
  | .lossOfSignal x => Sys2Proof.Machine.execLossOfSignal x s
  | .lswTimeout x => Sys2Proof.Machine.execLswTimeout x s
  | .codeErrorLimit x n => Sys2Proof.Machine.execCodeErrorLimit x n s
  | .wrapChange => Sys2Proof.Machine.execWrapChange s
  | .timeSetReceive x w sub => Sys2Proof.Machine.execTimeSetReceive x w sub s
  | .epochReceive x w => Sys2Proof.Machine.execEpochReceive x w s
  | .holdoverEnd x => Sys2Proof.Machine.execHoldoverEnd x s
  | .hiveSecondsWrite p v => Sys2Proof.Machine.execHiveSecondsWrite p v s
  | .clearErr p x => Sys2Proof.Machine.execClearErr p x s
  | .portEnable p x => Sys2Proof.Machine.execPortEnable p x s
  | .portDisable p x => Sys2Proof.Machine.execPortDisable p x s
  | .bypassInsertWrite p v => Sys2Proof.Machine.execBypassInsertWrite p v s
  | .bypassMove => Sys2Proof.Machine.execBypassMove s
  | .bypassSettled => Sys2Proof.Machine.execBypassSettled s
  | .queenEnWrite p => Sys2Proof.Machine.execQueenEnWrite p s
  | .queenRelease p => Sys2Proof.Machine.execQueenRelease p s
  | .beaconSend => Sys2Proof.Machine.execBeaconSend s
  | .beaconReceive => Sys2Proof.Machine.execBeaconReceive s
  | .presentSend => Sys2Proof.Machine.execPresentSend s
  | .presentReceive => Sys2Proof.Machine.execPresentReceive s
  | .joinSend => Sys2Proof.Machine.execJoinSend s
  | .joinReceive => Sys2Proof.Machine.execJoinReceive s
  | .assignReceive => Sys2Proof.Machine.execAssignReceive s
  | .nodeGone a => Sys2Proof.Machine.execNodeGone a s
  | .leaveWrite p => Sys2Proof.Machine.execLeaveWrite p s
  | .leaveSend => Sys2Proof.Machine.execLeaveSend s
  | .leaveReceive => Sys2Proof.Machine.execLeaveReceive s
  | .display => Sys2Proof.Machine.execDisplay s
  | .events => Sys2Proof.Machine.execEvents s
  | .ack => Sys2Proof.Machine.execAck s
  | .ackSend => Sys2Proof.Machine.execAckSend s
  | .retransmit a => Sys2Proof.Machine.execRetransmit a s
  | .arm => Sys2Proof.Machine.execArm s
  | .armPrepared => Sys2Proof.Machine.execArmPrepared s
  | .commit => Sys2Proof.Machine.execCommit s
  | .revert => Sys2Proof.Machine.execRevert s
  | .commitTickPass => Sys2Proof.Machine.execCommitTickPass s
  | .modeReportSend => Sys2Proof.Machine.execModeReportSend s
  | .armedReceive => Sys2Proof.Machine.execArmedReceive s
  | .waggleSchedule => Sys2Proof.Machine.execWaggleSchedule s
  | .waggleApply => Sys2Proof.Machine.execWaggleApply s
  | .txSubmit p v found => Sys2Proof.Machine.execTxSubmit p v found s
  | .censusWrite n v => Sys2Proof.Machine.execCensusWrite n v s
  | .clockSrcWrite p v => Sys2Proof.Machine.execClockSrcWrite p v s
  | .switched => Sys2Proof.Machine.execSwitched s
  | .judgeWindowEnd src count offset => Sys2Proof.Machine.execJudgeWindowEnd src count offset s
  | .pllLock => Sys2Proof.Machine.execPllLock s
  | .gateWrite p v => Sys2Proof.Machine.execGateWrite p v s
  | .powerReqWrite p v => Sys2Proof.Machine.execPowerReqWrite p v s
  | .standbyExit r => Sys2Proof.Machine.execStandbyExit r s
  | .powerOn => Sys2Proof.Machine.execPowerOn s
  | .resetN ns => Sys2Proof.Machine.execResetN ns s
  | .watchdog => Sys2Proof.Machine.execWatchdog s
  | .resetExit pins => Sys2Proof.Machine.execResetExit pins s
  | .startupStep => Sys2Proof.Machine.execStartupStep s
  | .startupSlow => Sys2Proof.Machine.execStartupSlow s
  | .startupWrite p v => Sys2Proof.Machine.execStartupWrite p v s
  | .resetCountClear p => Sys2Proof.Machine.execResetCountClear p s
  | .memWindowOpen w t => Sys2Proof.Machine.execMemWindowOpen w t s
  | .windowOpenDone w found => Sys2Proof.Machine.execWindowOpenDone w found s
  | .windowClose w => Sys2Proof.Machine.execWindowClose w s
  | .memWindowAccess w a v => Sys2Proof.Machine.execMemWindowAccess w a v s
  | .tileClear p v => Sys2Proof.Machine.execTileClear p v s
  | .dmaDescriptor srcExt src dstExt dst count => Sys2Proof.Machine.execDmaDescriptor srcExt src dstExt dst count s
  | .dmaDone found => Sys2Proof.Machine.execDmaDone found s
  | .protWrite p n v => Sys2Proof.Machine.execProtWrite p n v s
  | .freeze p => Sys2Proof.Machine.execFreeze p s
  | .ctxSwitch p v => Sys2Proof.Machine.execCtxSwitch p v s
  | .fabricReset p => Sys2Proof.Machine.execFabricReset p s
  | .fabricResetRelease => Sys2Proof.Machine.execFabricResetRelease s
  | .loadGo p v => Sys2Proof.Machine.execLoadGo p v s
  | .loadCopyEnd => Sys2Proof.Machine.execLoadCopyEnd s
  | .loadCheckEnd found => Sys2Proof.Machine.execLoadCheckEnd found s
  | .loadWriteEnd flips => Sys2Proof.Machine.execLoadWriteEnd flips s
  | .loadDone => Sys2Proof.Machine.execLoadDone s
  | .stageWrite p v => Sys2Proof.Machine.execStageWrite p v s
  | .scrubSlot flips => Sys2Proof.Machine.execScrubSlot flips s
  | .mapScrubDone found => Sys2Proof.Machine.execMapScrubDone found s
  | .selfUpset v => Sys2Proof.Machine.execSelfUpset v s
  | .scrubBasicWrite p v => Sys2Proof.Machine.execScrubBasicWrite p v s
  | .passesClear p v => Sys2Proof.Machine.execPassesClear p v s
  | .pieceCtrlGo p v => Sys2Proof.Machine.execPieceCtrlGo p v s
  | .pieceWriteDone ok => Sys2Proof.Machine.execPieceWriteDone ok s
  | .piece => Sys2Proof.Machine.execPiece s
  | .pieceGo p => Sys2Proof.Machine.execPieceGo p s
  | .pieceResp => Sys2Proof.Machine.execPieceResp s
  | .verifyDone => Sys2Proof.Machine.execVerifyDone s
  | .abort p => Sys2Proof.Machine.execAbort p s
  | .activate p => Sys2Proof.Machine.execActivate p s
  | .hiveActivation => Sys2Proof.Machine.execHiveActivation s
  | .accept p => Sys2Proof.Machine.execAccept p s
  | .checkTimeEnd => Sys2Proof.Machine.execCheckTimeEnd s
  | .postActivationCheck ok => Sys2Proof.Machine.execPostActivationCheck ok s
  | .keyCommit p => Sys2Proof.Machine.execKeyCommit p s
  | .bootWrite p v => Sys2Proof.Machine.execBootWrite p v s
  | .mcReady ok => Sys2Proof.Machine.execMcReady ok s
  | .svcReg write a v => Sys2Proof.Machine.execSvcReg write a v s
  | .svcMem write ext a v => Sys2Proof.Machine.execSvcMem write ext a v s
  | .extest captured si => Sys2Proof.Machine.execExtest captured si s
  | .samplePreload captured si => Sys2Proof.Machine.execSamplePreload captured si s
  | .bypass si => Sys2Proof.Machine.execBypass si s
  | .xmemEnWrite p v => Sys2Proof.Machine.execXmemEnWrite p v s
  | .xmemPllLock => Sys2Proof.Machine.execXmemPllLock s
  | .xmemDevWrite p n v => Sys2Proof.Machine.execXmemDevWrite p n v s
  | .xmemCmdGo p v => Sys2Proof.Machine.execXmemCmdGo p v s
  | .cmdDone data => Sys2Proof.Machine.execCmdDone data s
  | .xmemWindowAccess p k w => Sys2Proof.Machine.execXmemWindowAccess p k w s
  | .streamTimeout => Sys2Proof.Machine.execStreamTimeout s
  | .regionCtrlGo p v => Sys2Proof.Machine.execRegionCtrlGo p v s
  | .rekeyBurst => Sys2Proof.Machine.execRekeyBurst s
  | .twiStart mid => Sys2Proof.Machine.execTwiStart mid s
  | .twiStop mid => Sys2Proof.Machine.execTwiStop mid s
  | .twiAddressByte b => Sys2Proof.Machine.execTwiAddressByte b s
  | .twiIndexByte b => Sys2Proof.Machine.execTwiIndexByte b s
  | .twiWriteByte b => Sys2Proof.Machine.execTwiWriteByte b s
  | .twiReadAck => Sys2Proof.Machine.execTwiReadAck s
  | .twiReadNack => Sys2Proof.Machine.execTwiReadNack s
  | .twiTimeout => Sys2Proof.Machine.execTwiTimeout s
  | .twiBusFree => Sys2Proof.Machine.execTwiBusFree s
  | .twiSleep => Sys2Proof.Machine.execTwiSleep s
  | .twiBasicWrite p v => Sys2Proof.Machine.execTwiBasicWrite p v s
  | .selftestDone kind lasting => Sys2Proof.Machine.execSelftestDone kind lasting s
  | .selftestReq p v => Sys2Proof.Machine.execSelftestReq p v s
  | .lineClear p v => Sys2Proof.Machine.execLineClear p v s
  | .logClear p v => Sys2Proof.Machine.execLogClear p v s
  | .dieSensorUpdate die ntc => Sys2Proof.Machine.execDieSensorUpdate die ntc s
  | .shutdown => Sys2Proof.Machine.execShutdown s
  | .thermBasicWrite p v => Sys2Proof.Machine.execThermBasicWrite p v s
  | .alignmentGained x => Sys2Proof.Machine.execAlignmentGained x s
  | .secondRollover => Sys2Proof.Machine.execSecondRollover s
  | .clockManagerLock r => Sys2Proof.Machine.execClockManagerLock r s
  | .memoryInitDone => Sys2Proof.Machine.execMemoryInitDone s
  | .activationChecking => Sys2Proof.Machine.execActivationChecking s
  | .quietWindowEnd => Sys2Proof.Machine.execQuietWindowEnd s
  | .serviceEnChange on => Sys2Proof.Machine.execServiceEnChange on s

end Sys2Proof.Machine
end

