-- ==== Sys2Proof/Machine/Step.lean ====
section
/-! DEFINITION. One step: the command at the front of the queue acts, or one tck passes on an empty queue. -/
namespace Sys2Proof.Machine

/-- One tck with no command: it passes, but not while the core clock is stopped (R36), and in a reset only once the PLL has locked (R415). -/
def idle (s : State) : State :=
  if s.clock.coreStopped || s.clock.inReset && !s.flag Fld.CLOCK_STATUS_PLL_LOCK then s else s.settled.elapse 1

/-- The command at the front of the queue acts on the state with the queue's rest. -/
def step (s : State) : Host.Outcome State Fault Refusal :=
  match s.pending with
  | [] => .next (idle s)
  | c :: cs => exec c { s with pending := cs }

/-- The state with the command that a word spells at the front of the queue; no word spells one. -/
def State.withFetchWord (s : State) (nbits w : Nat) : State :=
  match decodeTableWord nbits w with
  | none => s
  | some c => { s with pending := c :: s.pending }

end Sys2Proof.Machine
end

