-- ==== Sys2Proof/Safety.lean ====
section
/-! DEFINITION. The terms in which claims are made: a device that runs, what a command leaves as it was, and the invariant of the state. -/
namespace Sys2Proof.Machine

/-- The core clock runs and the device is out of reset: commands act (R36, R415); and no late effect is due that would come first. -/
abbrev Live (s : State) : Prop := s.clock.coreStopped = false ∧ s.clock.inReset = false ∧ s.settled = s

/-- A command has answered a next state that has the property. -/
def Answers (c : Instr) (s : State) (P : State → Prop) : Prop := ∃ t, exec c s = .next t ∧ P t

/-- Every register but those at the listed addresses holds its word. -/
def RegsBut (as : List Nat) (s t : State) : Prop := ∀ a, a ∉ as → t.reg a = s.reg a

/-- Nothing but the words of the listed registers has changed: every other register, and everything outside the register file. -/
def OnlyRegs (as : List Nat) (s t : State) : Prop := RegsBut as s t ∧ t = { s with regs := t.regs }

/-- Every field of a register but the listed bits holds its value. -/
def BitsBut (a : Nat) (m : Word) (s t : State) : Prop := t.reg a &&& ~~~m = s.reg a &&& ~~~m

/-- Every word of the memory layer reads as before. -/
def SameMemory (s t : State) : Prop := ∀ a, t.memRaw a = s.memRaw a

/-- Every byte of the external memories is as before. -/
def SameExternal (s t : State) : Prop := ∀ a, t.extRaw a = s.extRaw a

/-- A path may write a page's RWL registers at basic level: it reaches the page, no LOCK stands, the page is at basic level. -/
abbrev MayWriteBasic (p : Path) (page : Nat) (s : State) : Prop :=
  s.pathOpen p page = true ∧ s.locked p page = false ∧ s.expert page = false

/-- The commands that reach the part while its core clock is stopped or it is held in reset: power-on and RESET_N, the end of reset, a
combination's reset and its pulse's end, the judgement of a clock source and the PLL's lock, the loss of the core clock itself, and what the test
access port and its enable pin do (R36, R303, R404, R415, R505). -/
def wakes : Instr → Bool
  | .powerOn => true
  | .resetN _ => true
  | .resetExit _ => true
  | .comboAction => true
  | .panelPulseEnd => true
  | .judgeWindowEnd _ _ _ => true
  | .pllLock => true
  | .coreClockStop => true
  | .extest _ _ => true
  | .samplePreload _ _ => true
  | .bypass _ => true
  | .serviceEnChange _ => true
  | _ => false

/-- The node may send to an address: it holds an address, its ring is not isolated, and the queen does not send to itself (R347, R376). -/
abbrev MaySend (dest : Nat) (s : State) : Prop := s.addr ≠ 0 ∧ s.wrap ≠ wrapIsolated ∧ (s.isQueen = true → dest ≠ s.addr)

/-- A packet of a plane and type is the first of those delivered that have not yet acted, and `r` are the others. -/
abbrev Arrived (plane type : Nat) (k : Packet) (r : List Packet) (s : State) : Prop :=
  s.ring.inbox = k :: r ∧ pktPlane k = plane ∧ pktType k = type

/-- The state with other packets delivered that have not yet acted. -/
def State.withInbox (s : State) (r : List Packet) : State := { s with ring := { s.ring with inbox := r } }

/-- The state with one more packet of the node's own that waits to be sent. -/
def State.sent (s : State) (k : Packet) : State := { s with ring := { s.ring with own := s.ring.own ++ [k] } }

/-- The canonical forms and ranges that every step keeps: the register file and the memory layer list no value that an unlisted entry
reads as, in rising order of address, and hive time is a count below one second and a second of 32 bits (R35). -/
abbrev Inv (s : State) : Prop :=
  Table.wf regReset s.regs = true ∧ Memory.wf s.fabric.mem = true ∧ s.tick < ticksPerSecond ∧ s.seconds < 2 ^ 32

end Sys2Proof.Machine
end

