-- ==== Sys2Proof/Certificates/Slice0/Obligations.lean ====
section
/-! DEFINITION. The statements about the machine. `Answers c s P`: the command's effect on the state is a next state with the property. -/
open Sys2Proof Sys2Proof.Machine

/-- With a command at the front of the queue, a step is exec of that command on the state with the queue's rest. The queue of commands is
the model's form (log entry 3). -/
def Obligations.StepRunsFrontCommand : Prop :=
  ∀ (c : Instr) (cs : List Instr) (s : State), s.pending = c :: cs → step s = exec c { s with pending := cs }

/-- On an empty queue a step lets one tck pass: local time and hive time rise by one, and at the last tick of a second hive time
wraps to tick 0 of the next second, or, at a node that is FREE or SOURCE, of the second that was written (R35, R365). In a part whose core clock is stopped
nothing changes, nor in a reset until the PLL has locked. That an empty queue passes time is the model's choice (log entry 1). -/
def Obligations.EmptyQueuePassesOneTck : Prop :=
  ∀ s : State, s.pending = [] →
    (Live s → s.tick + 1 < 192000000 → step s = .next { s with now := s.now + 1, tick := s.tick + 1 }) ∧
    (Live s → s.tick + 1 = 192000000 → step s = .next { s with
      now := s.now + 1
      tick := 0
      seconds := (match s.secondsPending with
        | none => s.seconds + 1
        | some v => if s.timeState = timeFree ∨ s.timeState = timeSource then v else s.seconds + 1) % 4294967296
      secondsPending := none }) ∧
    (s.clock.coreStopped = true ∨ s.clock.inReset = true ∧ s.flag Fld.CLOCK_STATUS_PLL_LOCK = false → step s = .next s) ∧
    (s.clock.coreStopped = false → s.clock.inReset = true → s.flag Fld.CLOCK_STATUS_PLL_LOCK = true → step s = .next (s.settled.elapse 1))

/-- No command ends in a fault or a refusal, whatever the state and its operands, and whatever it does, it leaves the queue of the commands that
wait as it is. -/
def Obligations.EveryCommandAnswersAndKeepsTheQueue : Prop := ∀ (c : Instr) (s : State), ∃ t, exec c s = .next t ∧ t.pending = s.pending

/-- While the core clock is stopped or the part is held in reset, no command changes anything but those that reach the part without its
core clock: the power-on reset, the RESET_N pin, the end of reset, the judgement of a clock source, the PLL's lock, the loss of the core clock, and what the
test access port and its enable pin do. -/
def Obligations.StoppedCoreHoldsItsState : Prop :=
  ∀ (c : Instr) (s : State), s.clock.coreStopped = true ∨ s.clock.inReset = true → wakes c = false → exec c s = .next s

/-- In a part whose core clock is stopped, or that is held in reset without its PLL locked, with no command in the queue that reaches it so, every
step leaves the whole state as it is but for the queue, which only shortens: the state stays the same state for ever, and stays stopped. -/
def Obligations.StoppedPartIsKeptByEveryStep : Prop :=
  ∀ u s s' : State,
    (s.clock.coreStopped = true ∨ s.clock.inReset = true ∧ s.flag Fld.CLOCK_STATUS_PLL_LOCK = false) ∧ (∀ c ∈ s.pending, wakes c = false) ∧
      { s with pending := u.pending } = u →
    step s = .next s' →
    (s'.clock.coreStopped = true ∨ s'.clock.inReset = true ∧ s'.flag Fld.CLOCK_STATUS_PLL_LOCK = false) ∧ (∀ c ∈ s'.pending, wakes c = false) ∧
      { s' with pending := u.pending } = u

/-- From every state in which the register file and the memory layer are in canonical form and hive time is a tick of a second and a
second of 32 bits, each step leads to such a state. -/
def Obligations.InvariantIsKeptByEveryStep : Prop := ∀ s s' : State, Machine.Inv s → step s = .next s' → Machine.Inv s'

/-- The state after power-on reset has canonical tables and hive time within its range. -/
def Obligations.InvariantHoldsAtReset : Prop := Machine.Inv State.reset

/-- R64: on a reserved page a read of any index returns 0 and changes nothing (but that the 0 is on its way to the fabric, R431), and a write by a
path that may write changes nothing but DEVICE.EVENTS.RESERVED_PAGE, which it sets. -/
def Obligations.ReservedPagesReadZeroAndFlagWrites : Prop :=
  ∀ (p : Path) (a : BitVec 14) (v : Word) (s : State), Live s → reservedPage (a.toNat / 256) = true →
    (serveRead p a.toNat s).1 = 0 ∧ { (serveRead p a.toNat s).2 with late := s.late } = s ∧ (p ≠ .fabric → (serveRead p a.toNat s).2 = s) ∧
    (s.pathOpen p (a.toNat / 256) = true → exec (.regWriteGeneric p a v) s = .next (s.nextTck.set Fld.DEVICE_EVENTS_RESERVED_PAGE 1))

/-- A write of a register without a rule of its own takes its writable fields (R6, R84): it is shown of EVENT.BASIC, SELFTEST.BASIC and the external memory
port's CMD_ADDR and WIN_BASE. A write of an index that the page's chapter does not define changes nothing but INDEX_INVALID of the page (R65); a write
of a basic register at expert level, or of an expert register at basic level, changes nothing but LEVEL_VIOLATION (R76, R77); a write of a page's EVENTS
clears the flags that it writes 1 to and changes nothing else (HIVE, EVENT and UPDATE apart, where other registers follow). Each acts on the tck after
the command's (R91). Completion: exec answers the stated next state of the command's own effect, wherever the conditions that its clause puts on the
state and the operands alone hold, for REG_WRITE_GENERIC. -/
def Obligations.GenericWritesAreTestedOrClearFlags : Prop :=
  ∀ (p : Path) (a : BitVec 14) (v : Word) (s : State), Live s → s.pathOpen p (a.toNat / 256) = true → reservedPage (a.toNat / 256) = false →
    a.toNat % 256 ≠ 0xFE → isWindow a.toNat = false → (a.toNat % 256 = 0xE0 → hasWindow (a.toNat / 256) = false) →
    (regFields a.toNat = none → exec (.regWriteGeneric p a v) s = .next (s.nextTck.raiseBit (a.toNat / 256) 45)) ∧
    (regFields a.toNat ≠ none → (8 ≤ a.toNat % 256 ∧ a.toNat % 256 < 0x40 ∨ a.toNat % 256 = 2) → s.expert (a.toNat / 256) = true →
      exec (.regWriteGeneric p a v) s = .next (s.nextTck.raiseBit (a.toNat / 256) 47)) ∧
    (regFields a.toNat ≠ none → 0x40 ≤ a.toNat % 256 → a.toNat % 256 < 0xE0 → s.expert (a.toNat / 256) = false →
      exec (.regWriteGeneric p a v) s = .next (s.nextTck.raiseBit (a.toNat / 256) 47)) ∧
    (a.toNat ∈ [Reg.EVENT_BASIC, Reg.SELFTEST_BASIC, 0x2D0B, Reg.XMEM_WIN_BASE] → s.expert (a.toNat / 256) = false →
      s.locked p (a.toNat / 256) = false → exec (.regWriteGeneric p a v) s = .next (s.nextTck.setReg a.toNat
        ((s.reg a.toNat &&& ~~~(State.writeMask a.toNat)) ||| (v &&& State.writeMask a.toNat)))) ∧
    (a.toNat % 256 = 4 → a.toNat / 256 ≠ 0x05 → a.toNat / 256 ≠ 0x1A → a.toNat / 256 ≠ 0x2B →
      exec (.regWriteGeneric p a v) s = .next (s.nextTck.setReg a.toNat (s.nextTck.reg a.toNat &&& ~~~(v &&& w1cMask a.toNat))))

/-- R72: a write by a path whose PATHS bit is set, of a register with RWL fields, raises LOCKED_WRITE and changes nothing else where the register has
no writable field of another type; where it has, the write acts as that, by a path that is not locked, of the word with the register's own RWL fields in
place of the written ones. -/
def Obligations.LockedWritesKeepTheLockedFields : Prop :=
  ∀ (p q : Path) (a : BitVec 14) (v : Word) (s : State), Live s →
    s.pathOpen p (a.toNat / 256) = true → s.pathOpen q (a.toNat / 256) = true →
    s.locked p (a.toNat / 256) = true → s.locked q (a.toNat / 256) = false →
    reservedPage (a.toNat / 256) = false → a.toNat % 256 ≠ 0xFE → isWindow a.toNat = false →
    (a.toNat % 256 = 0xE0 → hasWindow (a.toNat / 256) = false) → State.lockMask a.toNat ≠ 0 →
    ((8 ≤ a.toNat % 256 ∧ a.toNat % 256 < 0x40 ∨ a.toNat % 256 = 2) → s.expert (a.toNat / 256) = false) →
    (0x40 ≤ a.toNat % 256 → a.toNat % 256 < 0xE0 → s.expert (a.toNat / 256) = true) →
    (State.freeMask a.toNat = 0 → exec (.regWriteGeneric p a v) s = .next (s.nextTck.raiseBit (a.toNat / 256) 46)) ∧
    (State.freeMask a.toNat ≠ 0 → exec (.regWriteGeneric p a v) s =
      exec (.regWriteGeneric q a ((v &&& ~~~(State.lockMask a.toNat)) ||| (s.reg a.toNat &&& State.lockMask a.toNat)))
        (s.raiseBit (a.toNat / 256) 46))

/-- A write of LEVEL sets EXPERT on a page that has an expert level, with nothing else changed (R78), and is refused with LEVEL_VIOLATION on one that has
none (R75); a write of the level that stands changes nothing, and one by a locked path nothing but LOCKED_WRITE (R72); back at basic level a ring page's
expert register takes its derived value (R79). A write of LOCK by a path that is not locked takes the three PATHS bits; by a locked one it changes
nothing but LOCKED_WRITE, so that it cannot unlock itself (R72, R73). Completion: exec answers the stated next state of the command's own effect,
wherever the conditions that its clause puts on the state and the operands alone hold, for LEVEL_WRITE and PAGE_LOCK_WRITE. -/
def Obligations.LevelAndLockWrites : Prop :=
  ∀ (p : Path) (page : BitVec 6) (v : Word) (s : State), Live s → s.pathOpen p page.toNat = true → reservedPage page.toNat = false →
    (s.locked p page.toNat = false →
      (hasExpert page.toNat = true → s.expert page.toNat = false → bitAt v 0 = true →
        exec (.levelWrite p page v) s = .next (s.nextTck.setReg (page.toNat * 256 + 7) 1)) ∧
      (hasExpert page.toNat = false → bitAt v 0 = true → exec (.levelWrite p page v) s = .next (s.nextTck.raiseBit page.toNat 47)) ∧
      (bitAt v 0 = s.expert page.toNat → (bitAt v 0 = true → hasExpert page.toNat = true) → exec (.levelWrite p page v) s = .next s.nextTck) ∧
      (∀ x : Fin 2, page.toNat = 3 + x → s.expert page.toNat = true → bitAt v 0 = false →
        exec (.levelWrite p page v) s =
          .next ((s.nextTck.setReg (page.toNat * 256 + 7) 0).setReg (Reg.RING_X_PHY x) (regReset (Reg.RING_X_PHY x))))) ∧
    (s.locked p page.toNat = true → (s.expert page.toNat = true → hasExpert page.toNat = true) →
      exec (.levelWrite p page v) s = .next (s.nextTck.raiseBit page.toNat 46)) ∧
    (s.locked p page.toNat = false → Answers (.pageLockWrite p page v) s fun t =>
      t.reg (page.toNat * 256 + 6) = (s.reg (page.toNat * 256 + 6) &&& 0xFFFFFFFFFFF8) ||| (v &&& 7) ∧ OnlyRegs [page.toNat * 256 + 6] s.nextTck t) ∧
    (s.locked p page.toNat = true → Answers (.pageLockWrite p page v) s fun t => OnlyRegs [] (s.nextTck.raiseBit page.toNat 46) t)

/-- An access through a window past the end of the selected table reads 0, writes nothing and raises WINDOW_RANGE, and AUTO_INC moves INDEX on past the end,
in the path's own copy of WIN_CTRL (R81, R82); of a read by the fabric both come with its data, 2 tck later (R431). An entry of the bin table within
range takes its 8 bits; PAGE_SEL moves only from the two-wire port, to a page that is not reserved (R83). Completion: exec answers the stated next state
of the command's own effect, wherever the conditions that its clause puts on the state and the operands alone hold, for WIN_DATA_ACCESS and
PAGE_SEL_WRITE. -/
def Obligations.WindowsAndPageSelection : Prop :=
  (∀ (p : Path) (page : BitVec 6) (w : Option Word) (s : State), Live s → hasWindow page.toNat = true → s.pathOpen p page.toNat = true →
    readOpen s p page.toNat = true →
    winSize s page.toNat (bitsOf (s.winCtl p page.toNat) 40 8) ≤ bitsOf (s.winCtl p page.toNat) 0 24 →
    bitsOf (s.winCtl p page.toNat) 0 24 < 16777215 →
    bitAt (s.winCtl p page.toNat) 39 = true →
    (serveRead p (page.toNat * 256 + 0xE1) s).1 = 0 ∧
    (p = .fabric → w = none → Answers (.winDataAccess p page 0 w) s fun t => { t with late := s.late } = s.nextTck ∧
      ⟨s.now + 3, .windowRead page.toNat true true⟩ ∈ t.late ∧ ⟨s.now + 3, .bridgeData 0 { data := 0 }⟩ ∈ t.late) ∧
    (p ≠ .fabric ∨ w ≠ none → exec (.winDataAccess p page 0 w) s = .next ((s.nextTck.raiseBit page.toNat 44).putWinCtl p page.toNat
      (withBits (s.nextTck.winCtl p page.toNat) 0 24 (bitsOf (s.nextTck.winCtl p page.toNat) 0 24 + 1))))) ∧
  (∀ (p : Path) (k : Fin 29) (v : Word) (s : State), Live s → s.pathOpen p 0x12 = true → bitAt (s.winCtl p 0x12) 39 = false →
    bitsOf (s.winCtl p 0x12) 40 8 = 1 → bitsOf (s.winCtl p 0x12) 0 24 + (k.val - 1) < 128 →
    Answers (.winDataAccess p 0x12 k (some v)) s fun t =>
      Table.get (fun _ => 0x80) t.pipe.bins (bitsOf (s.winCtl p 0x12) 0 24 + (k.val - 1)) = bitsOf v 0 8 ∧
      (∀ j, j ≠ bitsOf (s.winCtl p 0x12) 0 24 + (k.val - 1) → Table.get (fun _ => 0x80) t.pipe.bins j = Table.get (fun _ => 0x80) s.pipe.bins j) ∧
      t = { s.nextTck with pipe := { s.pipe with bins := t.pipe.bins } }) ∧
  (∀ (p : Path) (page : BitVec 6) (v : Word) (s : State), Live s → s.pathOpen p page.toNat = true → reservedPage page.toNat = false →
    (p ≠ .twi → exec (.pageSelWrite p page v) s = .next s.nextTck) ∧
    (p = .twi → reservedPage (bitsOf v 0 6) = true → exec (.pageSelWrite p page v) s = .next (s.nextTck.set Fld.TWI_EVENTS_PAGE_REFUSED 1)) ∧
    (p = .twi → reservedPage (bitsOf v 0 6) = false → exec (.pageSelWrite p page v) s = .next (s.nextTck.set Fld.TWI_STATUS_PAGE (bitsOf v 0 6))))

/-- Check, load and copy requests start their operation on a shadow bank that none runs on, and are refused with OP_REFUSED while a load or copy fills it
(R116). A check that ends leaves PASSED with no cause or FAILED with its cause and cell (R113, R116); a load whose tile does not open, or whose header
or CRC is wrong, fails with cause 11, 12 or 13 and leaves the bank as it was (R113, R119, R120); a load or copy that ends has written the bank, and its
check starts. A cell write at expert level, or through the fabric's port, writes that cell alone and leaves the bank UNCHECKED, and is refused at basic
level (R122); the port answers a write it refuses with its error flag (R123, R431); a swap request joins the local sets and starts the check of an
UNCHECKED bank (R116). Completion: exec answers the stated next state of the command's own effect, wherever the conditions that its clause puts on the
state and the operands alone hold, for CHECK_REQ, BANK_CHECK_DONE, LOAD_REQ, LAYOUT_LOAD_DONE, COPY_REQ, COPY_DONE, SWAP_REQ, SHADOW_CELL_WRITE,
COMB_CELL_PORT_WRITE and SHADOW_PERIOD_WRITE. -/
def Obligations.ShadowBankOperations : Prop :=
  (∀ (p : Path) (s : State), Live s → s.pathOpen p 0x10 = true → s.expert 0x10 = true →
    (s.shadowState ≠ bankChecking → s.shadowState ≠ bankFilling →
      (Answers (.checkReq p) s fun t => t.shadowState = bankChecking ∧ opActive t 0x10 = true ∧ OnlyRegs [0x1003, 0x1005] s.nextTck t) ∧
      (Answers (.copyReq p) s fun t => t.shadowState = bankFilling ∧ t.comb.op = .copy ∧ t.comb.priorState = s.shadowState ∧ opActive t 0x10 = true ∧
        t.comb.cells = s.comb.cells ∧ (s.commit.frozen = true → t.flag Fld.COMB_EVENTS_LATE_WRITE = true ∧ t.commit.busySwap = true) ∧
        RegsBut [0x1003, 0x1004, 0x1005] s t ∧ t = { s.nextTck with regs := t.regs, comb := t.comb, commit := t.commit })) ∧
    (s.shadowState = bankFilling → exec (.checkReq p) s = .next (s.nextTck.raiseBit 0x10 43) ∧ exec (.copyReq p) s = .next (s.nextTck.raiseBit 0x10 43))) ∧
  (∀ (p : Path) (tile : BitVec 12) (s : State), Live s → MayWriteBasic p 0x10 s → s.shadowState ≠ bankChecking → s.shadowState ≠ bankFilling →
    Answers (.loadReq p tile) s fun t => t.shadowState = bankFilling ∧ t.comb.op = .load tile.toNat (s.flag Fld.COMB_BASIC_LOCK_HIVE) ∧
      t.get Fld.COMB_BANK_CTRL_LAYOUT_TILE = tile.toNat ∧ RegsBut [0x1003, 0x1005, Reg.COMB_BANK_CTRL] s t ∧ t.comb.cells = s.comb.cells) ∧
  (∀ s : State, Live s → s.shadowState = bankChecking →
    ((checkCause s s.shadowBank).1 = 0 → Answers .bankCheckDone s fun t => t.shadowState = bankPassed ∧ t.get Fld.COMB_STATUS_CHECK_CAUSE = 0 ∧
      opActive t 0x10 = false ∧ RegsBut [0x1003, 0x1005] s t ∧ t.comb.cells = s.comb.cells) ∧
    ((checkCause s s.shadowBank).1 ≠ 0 → Answers .bankCheckDone s fun t => t.shadowState = bankFailed ∧ t.flag Fld.COMB_EVENTS_CHECK_FAILED = true ∧
      t.get Fld.COMB_STATUS_CHECK_CAUSE = (checkCause s s.shadowBank).1 % 16 ∧ OnlyRegs [0x1003, 0x1004, 0x1005] s t)) ∧
  (∀ (tile : Nat) (lock : Bool) (s : State), Live s → s.comb.op = .load tile lock → s.shadowState = bankFilling →
    (s.tileState tile ≠ tileGood → ∀ f, Answers (.layoutLoadDone f) s fun t => t.shadowState = s.comb.priorState % 8 ∧ t.comb.op = .none ∧
      t.get Fld.COMB_STATUS_CHECK_CAUSE = 11 ∧ t.flag Fld.COMB_EVENTS_LOAD_FAILED = true ∧ t.comb.cells = s.comb.cells ∧ SameMemory s t) ∧
    (s.tileState tile = tileGood → layoutCause s tile ≠ 0 → Answers (.layoutLoadDone none) s fun t => t.shadowState = s.comb.priorState % 8 ∧
      t.get Fld.COMB_STATUS_CHECK_CAUSE = layoutCause s tile ∧ t.comb.cells = s.comb.cells ∧ SameMemory s t) ∧
    (s.tileState tile = tileGood → layoutCause s tile = 0 → Answers (.layoutLoadDone none) s fun t => t.shadowState = bankChecking ∧ t.comb.op = .none ∧
      (∀ k, k < bitsOf (s.memRead (1024 * tile)) 12 12 → t.cell s.shadowBank k = s.memRead (1024 * tile + 2 + k)) ∧
      (∀ k, bitsOf (s.memRead (1024 * tile)) 12 12 ≤ k → k < 384 → t.cell s.shadowBank k = 0) ∧
      (∀ k, k < 384 → t.cell s.activeBank k = s.cell s.activeBank k) ∧
      t.period s.shadowBank = (if lock then bitsOf (s.memRead (1024 * tile + 1)) 0 24 else 0) ∧ SameMemory s t)) ∧
  (∀ s : State, Live s → s.comb.op = .copy → s.shadowState = bankFilling → Answers .copyDone s fun t => t.shadowState = bankChecking ∧ t.comb.op = .none ∧
    (∀ k, k < 384 → t.cell s.shadowBank k = s.cell s.activeBank k ∧ t.cell s.activeBank k = s.cell s.activeBank k) ∧
    t.period s.shadowBank = s.period s.activeBank ∧ SameMemory s t) ∧
  (∀ (p : Path) (s : State), Live s → s.pathOpen p 0x10 = true →
    (s.shadowState ≠ bankUnchecked → exec (.swapReq p) s =
      .next { s.nextTck with commit := { s.nextTck.commit with sets := s.nextTck.commit.sets ++ [⟨true, 0, none, false, false⟩] } }) ∧
    (s.shadowState = bankUnchecked → Answers (.swapReq p) s fun t => t.shadowState = bankChecking ∧
      t.commit.sets = s.commit.sets ++ [⟨true, 0, none, false, false⟩] ∧ RegsBut [0x1003, 0x1005] s t)) ∧
  (∀ (p : Path) (i : Fin 384) (v : Word) (s : State), Live s → s.pathOpen p 0x10 = true →
    (s.expert 0x10 = false → exec (.shadowCellWrite p i v) s = .next (s.nextTck.raiseBit 0x10 47)) ∧
    (s.expert 0x10 = true → s.shadowState = bankFilling → exec (.shadowCellWrite p i v) s = .next (s.nextTck.raiseBit 0x10 43)) ∧
    (s.expert 0x10 = true → s.shadowState ≠ bankFilling → Answers (.shadowCellWrite p i v) s fun t =>
      t.shadowState = bankUnchecked ∧ t.cell s.shadowBank i = v ∧ (∀ b j, j < 512 → (b ≠ s.shadowBank ∨ j ≠ i.val) → t.cell b j = s.cell b j) ∧
      (s.commit.frozen = true → t.flag Fld.COMB_EVENTS_LATE_WRITE = true) ∧ RegsBut [0x1003, 0x1004, 0x1005] s t)) ∧
  (∀ (i : BitVec 9) (v : Word) (s : State), Live s →
    (writesOn s = false → exec (.combCellPortWrite i v) s = .next s) ∧
    (writesOn s = true → (s.flag Fld.COMB_X_CTRL_PORT_EN = false ∨ 384 ≤ i.toNat) →
      exec (.combCellPortWrite i v) s = .next (s.bridgeAnswers 2 { error := true })) ∧
    (s.flag Fld.COMB_X_CTRL_PORT_EN = true → writesOn s = true → i.toNat < 384 → s.shadowState ≠ bankFilling → Answers (.combCellPortWrite i v) s fun t =>
      t.shadowState = bankUnchecked ∧ t.cell s.shadowBank i.toNat = v ∧ (t.bridgeAnswer 2).error = false ∧
      (∀ j, j < 384 → t.cell s.activeBank j = s.cell s.activeBank j))) ∧
  (∀ (p : Path) (n : BitVec 24) (s : State), Live s → s.pathOpen p 0x10 = true → s.expert 0x10 = true → s.shadowState ≠ bankFilling →
    Answers (.shadowPeriodWrite p n) s fun t => t.shadowState = bankUnchecked ∧ t.period s.shadowBank = n.toNat ∧
      t.period s.activeBank = s.period s.activeBank ∧ t.comb.cells = s.comb.cells ∧ RegsBut [0x1003, 0x1004, 0x1005] s t)

/-- While the comb runs, a cell ends at its length and the next one begins on the following tck; the frame-end cell ends the frame, in a bank locked to the
hive grid with a wait for the grid when the frame ends off it (R102, R105, R109). Stage 1 of a frame runs once, from C + 64 (R135). Completion: exec
answers the stated next state of the command's own effect, wherever the conditions that its clause puts on the state and the operands alone hold, for
CELL_EDGE and STAGE1_FETCH. -/
def Obligations.CellsAdvanceAndFramesEnd : Prop :=
  (∀ (r : Readings) (s : State), Live s → s.runState = combRunning → s.comb.frameEnded = false → s.inStandby = false →
    (s.get Fld.COMB_STATUS_CUR_CELL ≠ (frameEndOf s s.activeBank).getD 383 → Answers (.cellEdge r) s fun t =>
      t.get Fld.COMB_STATUS_CUR_CELL = (s.get Fld.COMB_STATUS_CUR_CELL + 1) % 512 ∧ t.comb.cellStart = t.now ∧ t.comb.frameEnded = false ∧
      t.now = max s.now (s.comb.cellStart + cellLen s s.activeBank (s.cell s.activeBank (s.get Fld.COMB_STATUS_CUR_CELL)) - 1) + 1 ∧
      t.comb.cells = s.comb.cells ∧ t.runState = combRunning) ∧
    (s.get Fld.COMB_STATUS_CUR_CELL = (frameEndOf s s.activeBank).getD 383 → activePeriod s = 0 → Answers (.cellEdge r) s fun t =>
      t.comb.frameEnded = true ∧ t.runState = combRunning ∧ t.get Fld.COMB_STATUS_CUR_CELL = s.get Fld.COMB_STATUS_CUR_CELL) ∧
    (s.get Fld.COMB_STATUS_CUR_CELL = (frameEndOf s s.activeBank).getD 383 → activePeriod s ≠ 0 → Answers (.cellEdge r) s fun t =>
      t.comb.frameEnded = true ∧ (t.tick % activePeriod s = 0 ↔ t.runState = combRunning) ∧
      (t.tick % activePeriod s ≠ 0 → t.flag Fld.COMB_EVENTS_RESYNC = true))) ∧
  (∀ (r : Readings) (s : State), Live s → (s.runState ≠ combRunning ∨ s.comb.frameEnded = true) → exec (.cellEdge r) s = .next s) ∧
  (∀ (f : List (Nat × BitVec 32)) (s : State), Live s →
    (s.pipe.passed = true → exec (.stage1Fetch f) s = .next s) ∧
    (s.runState = combRunning → s.inStandby = false → s.pipe.passed = false → s.commit.frozen = false → Answers (.stage1Fetch f) s fun t =>
      t.pipe.passed = true ∧ t.now = max s.now (s.comb.frameStart + 64) ∧ SameMemory s t ∧ t.comb = s.comb))

/-- The freeze point, 1,024 tck before its commit clock, freezes every local set that waits, and whether the shadow bank had passed (R26, R28). At the
commit clock each frozen set is applied or dropped, as COMMIT_STAT reports from the following tck on, a swap refused with cause 2 when the bank had not
passed; the frame count rises, and the comb begins its next frame on the same tck, or stops (R28, R31, R126); a comb that waits for the grid does so on
its grid tick (R109). A waiting comb with a PASSED bank exchanges the banks and begins cell 0 on its grid tick (R126). In STANDBY a frame begins on a
multiple of 3,840,000 ticks, and an exit ends at its commit clock in the state of RETURN (R426). Completion: exec answers the stated next state of the
command's own effect, wherever the conditions that its clause puts on the state and the operands alone hold, for COMMIT_CLOCK, FREEZE_POINT, COMB_START,
ALIGN_WAIT_END, STANDBY_FRAME_START and STANDBY_EXIT. -/
def Obligations.FreezePointsCommitClocksAndStarts : Prop :=
  (∀ (vled : List Nat) (s : State), Live s →
    (s.commit.frozen = true ∨ commitTime s = none → exec (.freezePoint vled) s = .next s) ∧
    (∀ c, s.commit.frozen = false → commitTime s = some c → Answers (.freezePoint vled) s fun t =>
      t.commit.frozen = true ∧ t.commit.sets = s.commit.sets.map (fun x => { x with frozen := true }) ∧
      t.commit.combOk = decide (s.shadowState = bankPassed) ∧
      (s.inStandby = true ∨ s.pipe.passed = true ∨ s.comb.frameStart + 64 ≤ c - 1024 → t.now = max s.now (c - 1024)) ∧ t.runState = s.runState ∧ SameMemory s t)) ∧
  (∀ (r : Readings) (s : State), Live s → s.runState = combRunning → s.comb.frameEnded = true → s.inStandby = false → s.commit.frozen = true →
    Answers (.commitClock r) s fun t => t.commit.frameCount = (s.commit.frameCount + 1) % 4294967296 ∧ t.commit.last = some s.now ∧
      t.commit.frozen = false ∧ (∀ x ∈ t.commit.sets, x.frozen = false) ∧ t.now = s.now ∧
      (s.flag Fld.COMB_X_CTRL_RUN = true → t.runState = combRunning ∧
        (s.get Fld.CLOCK_POWER_REQ ≠ powerStandby → t.comb.frameEnded = false ∧ t.comb.frameStart = s.now ∧ t.get Fld.COMB_STATUS_CUR_CELL = 0)) ∧
      (s.commit.sets = [⟨true, 0, none, false, true⟩] → s.commit.hiveDue = false → s.late = [] →
        (s.commit.combOk = true → s.commit.busySwap = false → t.activeBank ≠ s.activeBank ∧ t.commit.sets = [] ∧
          (t.elapse 1).settled.get Fld.DEVICE_COMMIT_STAT_MEMBERS = 4 ∧ (t.elapse 1).settled.flag Fld.DEVICE_COMMIT_STAT_LAST_REFUSED = false) ∧
        (s.commit.combOk = false → t.activeBank = s.activeBank ∧ t.commit.sets = [] ∧ (t.elapse 1).settled.get Fld.DEVICE_COMMIT_STAT_MEMBERS = 0 ∧
          (t.elapse 1).settled.get Fld.DEVICE_COMMIT_STAT_REFUSE_CAUSE = 2 ∧ (t.elapse 1).settled.flag Fld.DEVICE_EVENTS_COMMIT_REFUSED = true) ∧
        t.get Fld.DEVICE_COMMIT_STAT_MEMBERS = s.get Fld.DEVICE_COMMIT_STAT_MEMBERS)) ∧
  (∀ (r : Readings) (s : State), Live s → s.runState = combAligning → s.commit.frozen = true → s.flag Fld.COMB_X_CTRL_RUN = true → s.inStandby = false →
    s.get Fld.CLOCK_POWER_REQ ≠ powerStandby → Answers (.alignWaitEnd r) s fun t =>
      t.runState = combRunning ∧ t.commit.frozen = false ∧ t.comb.frameStart = t.now ∧
      t.now = s.now + (if activePeriod s = 0 then 0 else (activePeriod s - s.tick % activePeriod s) % activePeriod s)) ∧
  (∀ (r : Readings) (s : State), Live s →
    (s.runState = combWaiting → s.shadowState = bankPassed → s.mcReady = true → s.inStandby = false → Answers (.combStart r) s fun t =>
      t.runState = combRunning ∧ t.activeBank = s.shadowBank % 2 ∧ t.get Fld.COMB_STATUS_CUR_CELL = 0 ∧ t.comb.frameStart = t.now ∧ t.comb.started = true ∧
      t.pipe.litNormal = [] ∧ t.lamps.litNormal = [] ∧
      t.now = s.now + (if s.period s.shadowBank = 0 then 0 else (s.period s.shadowBank - s.tick % s.period s.shadowBank) % s.period s.shadowBank)) ∧
    (s.runState ≠ combWaiting ∨ s.shadowState ≠ bankPassed ∨ s.mcReady = false → exec (.combStart r) s = .next s)) ∧
  (∀ s : State, Live s → s.inStandby = true → s.runState = combRunning → s.comb.frameEnded = true → s.flag Fld.CLOCK_POWER_LEAVING = false →
    s.tick < 192000000 → Answers .standbyFrameStart s fun t => t.comb.frameEnded = false ∧ t.comb.standbyFrame = true ∧ t.comb.frameStart = t.now ∧
      t.tick % 3840000 = 0 ∧ t.get Fld.COMB_STATUS_CUR_CELL = 0 ∧ t.runState = combRunning) ∧
  (∀ (r : Readings) (c : Nat) (s : State), Live s → s.inStandby = true → s.runState ≠ combRunning → commitTime s = some c → Answers (.standbyExit r) s fun t =>
    t.get Fld.CLOCK_POWER_STATE = s.get Fld.CLOCK_POWER_RETURN ∧ t.flag Fld.CLOCK_POWER_LEAVING = false ∧
    t.flag Fld.CLOCK_EVENTS_POWER_CHANGED = true ∧ t.now = max s.now c)

/-- A submission through COMMIT_CTRL adds its set of a bank swap, flips and a context switch, unless one is pending (COMMIT_BUSY), as is a context switch
beside its own, or it has no member (R29, R30). A FLIP_REQ adds a set of that group's flip (R23). BLINK outside 5 to 510 units and a plane count outside
1 to 10 are refused with their flags and else taken; a changed plane count returns a PASSED shadow bank to UNCHECKED (R114, R148, R157). The
frame-buffer port writes one word of the front or back buffer, and its strobe asks for the flip (R131). RUN of a stopped comb makes it WAITING, and RUN
= 0 of a waiting one STOPPED (R126). Completion: exec answers the stated next state of the command's own effect, wherever the conditions that its clause
puts on the state and the operands alone hold, for COMMIT_CTRL_SUBMIT, COMB_RUN_WRITE, FLIP_REQ, FB_PORT_WRITE, BLINK_WRITE and PLANES_WRITE. -/
def Obligations.CommitRequestsAndFrameSettings : Prop :=
  (∀ (p : Path) (v : Word) (s : State), Live s → s.pathOpen p 0 = true → s.expert 0 = false → s.locked p 0 = false →
    (bitAt v 0 = true → s.commit.sets.any (·.bound) = true ∨ bitAt v 40 = true ∧ ctxPending s = true → Answers (.commitCtrlSubmit p v) s fun t =>
      t.flag Fld.DEVICE_EVENTS_COMMIT_BUSY = true ∧ t.commit = s.commit ∧ OnlyRegs [Reg.DEVICE_COMMIT_CTRL, 4] s.nextTck t) ∧
    (bitAt v 0 = true → s.commit.sets.any (·.bound) = false → (bitAt v 40 = true → ctxPending s = false) →
      (bitAt v 40 = true ∨ bitAt v 36 = true ∨ bitsOf v 28 8 ≠ 0) → Answers (.commitCtrlSubmit p v) s fun t =>
      t.commit = { s.commit with sets :=
        s.commit.sets ++ [⟨bitAt v 36, bitsOf v 28 8, if bitAt v 40 then some (bitsOf v 37 3) else none, true, false⟩] } ∧ t.flag Fld.DEVICE_COMMIT_STAT_SET_PENDING = true ∧
      RegsBut [Reg.DEVICE_COMMIT_CTRL, Reg.DEVICE_COMMIT_STAT, Reg.CONFIG_CTX_STATE] s t) ∧
    (bitAt v 0 = true → s.commit.sets.any (·.bound) = false → bitAt v 40 = false → bitAt v 36 = false → bitsOf v 28 8 = 0 → Answers (.commitCtrlSubmit p v) s fun t =>
      t.commit = s.commit ∧ OnlyRegs [Reg.DEVICE_COMMIT_CTRL] s.nextTck t) ∧
    (bitAt v 0 = false → Answers (.commitCtrlSubmit p v) s fun t => t.commit = s.commit ∧ OnlyRegs [Reg.DEVICE_COMMIT_CTRL] s.nextTck t)) ∧
  (∀ (p : Path) (g : Fin 8) (s : State), Live s → s.pathOpen p 0x11 = true → s.expert 0x11 = false →
    exec (.flipReq p g) s = .next { s.nextTck with commit := { s.nextTck.commit with sets := s.nextTck.commit.sets ++ [⟨false, 2 ^ g.val, none, false, false⟩] } }) ∧
  (∀ (p : Path) (n : Fin 4) (v : Word) (s : State), Live s → MayWriteBasic p 0x11 s →
    (bitsOf v 39 9 < 5 ∨ 510 < bitsOf v 39 9 → exec (.blinkWrite p n v) s = .next (s.nextTck.set Fld.FRAME_EVENTS_BLINK_RANGE 1)) ∧
    (5 ≤ bitsOf v 39 9 → bitsOf v 39 9 ≤ 510 → Answers (.blinkWrite p n v) s fun t => t.get (Fld.FRAME_BLINK_PERIOD n) = bitsOf v 39 9 ∧
      t.get (Fld.FRAME_BLINK_ON n) = bitsOf v 30 9 ∧ t.get (Fld.FRAME_BLINK_OFFSET n) = bitsOf v 21 9 ∧ OnlyRegs [Reg.FRAME_BLINK n] s.nextTck t)) ∧
  (∀ (p : Path) (v : Word) (s : State), Live s → MayWriteBasic p 0x11 s →
    ((∃ g, g < 8 ∧ (bitsOf v (4 * g) 4 = 0 ∨ 10 < bitsOf v (4 * g) 4)) → exec (.planesWrite p v) s = .next (s.nextTck.set Fld.FRAME_EVENTS_PLANES_RANGE 1)) ∧
    ((∀ g, g < 8 → 1 ≤ bitsOf v (4 * g) 4 ∧ bitsOf v (4 * g) 4 ≤ 10) → Answers (.planesWrite p v) s fun t =>
      t.get Fld.FRAME_PLANES_PLANES = bitsOf v 0 32 ∧
      (bitsOf v 0 32 ≠ s.get Fld.FRAME_PLANES_PLANES → t.comb.activePassed = false ∧ (s.shadowState = bankPassed → t.shadowState = bankUnchecked)) ∧
      RegsBut [Reg.FRAME_PLANES, 0x1003, 0x1005] s t)) ∧
  (∀ (g : Fin 8) (front flip : Bool) (w : BitVec 7) (v : Word) (s : State), Live s →
    (writesOn s = false → exec (.fbPortWrite g front w v flip) s = .next s) ∧
    (writesOn s = true → Answers (.fbPortWrite g front w v flip) s fun t =>
      (∀ a, a ≠ s.bufferBase g (if front then s.frontB g else !s.frontB g) + w.toNat → t.memRaw a = s.memRaw a) ∧
      (flip = false → t.commit.sets = s.commit.sets) ∧
      (flip = true → t.commit.sets = s.commit.sets ++ [⟨false, 2 ^ g.val, none, false, false⟩]) ∧
      (s.tileState ((s.bufferBase g (if front then s.frontB g else !s.frontB g) + w.toNat) / 1024) = tileGood → s.config.load = none → s.isQueen = false →
        t.memRaw (s.bufferBase g (if front then s.frontB g else !s.frontB g) + w.toNat) = v))) ∧
  (∀ (p : Path) (s : State), Live s → MayWriteBasic p 0x10 s →
    (s.runState = combStopped → s.shadowState = bankPassed → Answers (.combRunWrite p true) s fun t => t.runState = combWaiting ∧
      t.flag Fld.COMB_BASIC_RUN = true ∧ t.flag Fld.COMB_X_CTRL_RUN = true ∧ t.shadowState = bankPassed ∧ SameMemory s t) ∧
    (s.runState = combWaiting → Answers (.combRunWrite p false) s fun t => t.runState = combStopped ∧ t.flag Fld.COMB_BASIC_RUN = false ∧
      OnlyRegs [Reg.COMB_BASIC, Reg.COMB_X_CTRL, Reg.COMB_STATUS] s.nextTck t))

/-- ENABLE = 1 makes an OFF group wait for its commit clock and a STOPPING one RESTART_PENDING; ENABLE = 0 cancels the wait of an OFF group and stops an ON
LED group with no ramp to run, whose current is then 0 and which is SAFE (R171, R176). KIND of a group that is neither OFF nor idle is refused, and so
is an LCD setting (R175, R185); a current, drop or line setting that would break a hard limit is refused with LIMIT_REFUSED and else stands in the basic
and the derived expert field (R164, R324). Completion: exec answers the stated next state of the command's own effect, wherever the conditions that its
clause puts on the state and the operands alone hold, for GROUP_ENABLE, GROUP_DISABLE, KIND_WRITE, ISEG_WRITE, DROP_WRITE, LINE_USE_WRITE and LCD_WRITE. -/
def Obligations.GroupSettingsAndEnables : Prop :=
  (∀ (p : Path) (g : Fin 8) (s : State), Live s → MayWriteBasic p (8 + g.val) s →
    (s.grpState g = grpOff → Answers (.groupEnable p g) s fun t => t.grpState g = grpOff ∧ t.flag (Fld.GRP_STATUS_START_PENDING g) = true ∧
      t.flag (Fld.GRP_BASIC_ENABLE g) = true ∧ t.flag (Fld.GRP_X_DRIVE_ENABLE g) = true ∧ t.groups = s.groups ∧ SameMemory s t) ∧
    (s.grpState g = grpStopping → Answers (.groupEnable p g) s fun t => t.grpState g = grpRestart ∧
      t.flag (Fld.GRP_STATUS_START_PENDING g) = true ∧ RegsBut [Reg.GRP_BASIC g, Reg.GRP_X_DRIVE g, Reg.GRP_STATUS g] s t) ∧
    (s.grpState g = grpOff → exec (.groupDisable p g) s = .next (((s.nextTck.set (Fld.GRP_BASIC_ENABLE g) 0).set (Fld.GRP_X_DRIVE_ENABLE g) 0).set
      (Fld.GRP_STATUS_START_PENDING g) 0)) ∧
    (s.grpState g = grpOn → s.isLcd g = false → s.get (Fld.GRP_X_DRIVE_RAMP_STEP g) = 0 → s.get (Fld.GRP_X_DRIVE_DISCHARGE g) = 0 →
      Answers (.groupDisable p g) s fun t => t.grpState g = grpOff ∧ t.get (Fld.GRP_STATUS_DAC_NOW g) = 0 ∧ t.flag (Fld.GRP_STATUS_SAFE g) = true ∧
        t.flag (Fld.GRP_EVENTS_STOPPED g) = true ∧ t.now = s.nextTck.now ∧ SameMemory s t) ∧
    (∀ lcd : Bool, lcd ≠ s.isLcd g → s.grpState g ≠ grpOff → exec (.kindWrite p g lcd) s = .next (s.nextTck.set (Fld.GRP_EVENTS_KIND_REFUSED g) 1)) ∧
    (∀ lcd : Bool, lcd ≠ s.isLcd g → s.grpState g = grpOff → s.flag (Fld.GRP_STATUS_START_PENDING g) = false → Answers (.kindWrite p g lcd) s fun t =>
      t.isLcd g = lcd ∧ t.flag (Fld.GRP_BASIC_KIND g) = lcd ∧ t.comb.activePassed = false ∧
      (s.shadowState = bankPassed → t.shadowState = bankUnchecked)) ∧
    (∀ c : BitVec 8, guardOk ((s.nextTck.set (Fld.GRP_BASIC_DROP g) c.toNat).set (Fld.GRP_X_DRIVE_DROP g) c.toNat) = true →
      exec (.dropWrite p g c) s = .next ((s.nextTck.set (Fld.GRP_BASIC_DROP g) c.toNat).set (Fld.GRP_X_DRIVE_DROP g) c.toNat)) ∧
    (∀ c : BitVec 8, guardOk ((s.nextTck.set (Fld.GRP_BASIC_DROP g) c.toNat).set (Fld.GRP_X_DRIVE_DROP g) c.toNat) = false →
      exec (.dropWrite p g c) s = .next (s.nextTck.set (Fld.GRP_EVENTS_LIMIT_REFUSED g) 1)) ∧
    (∀ c : BitVec 8, nSWorst ((s.nextTck.set (Fld.GRP_BASIC_ISEG g) c.toNat).set (Fld.GRP_X_DRIVE_ISEG g) c.toNat) g * c.toNat ≤ clineLimit →
      guardOk ((s.nextTck.set (Fld.GRP_BASIC_ISEG g) c.toNat).set (Fld.GRP_X_DRIVE_ISEG g) c.toNat) = true →
      exec (.isegWrite p g c) s = .next ((s.nextTck.set (Fld.GRP_BASIC_ISEG g) c.toNat).set (Fld.GRP_X_DRIVE_ISEG g) c.toNat)) ∧
    (∀ c : BitVec 8, (clineLimit < nSWorst ((s.nextTck.set (Fld.GRP_BASIC_ISEG g) c.toNat).set (Fld.GRP_X_DRIVE_ISEG g) c.toNat) g * c.toNat ∨ guardOk ((s.nextTck.set (Fld.GRP_BASIC_ISEG g) c.toNat).set (Fld.GRP_X_DRIVE_ISEG g) c.toNat) = false) →
      exec (.isegWrite p g c) s = .next (s.nextTck.set (Fld.GRP_EVENTS_LIMIT_REFUSED g) 1)) ∧
    (∀ v : Word, nSWritten (s.nextTck.setReg (Reg.GRP_LINE_USE g) v) g * larger (s.nextTck.setReg (Reg.GRP_LINE_USE g) v) (Fld.GRP_X_DRIVE_ISEG g) ≤ clineLimit → guardOk (s.nextTck.setReg (Reg.GRP_LINE_USE g) v) = true →
      exec (.lineUseWrite p g v) s = .next (s.nextTck.setReg (Reg.GRP_LINE_USE g) v)) ∧
    (∀ v : Word, (clineLimit < nSWritten (s.nextTck.setReg (Reg.GRP_LINE_USE g) v) g * larger (s.nextTck.setReg (Reg.GRP_LINE_USE g) v) (Fld.GRP_X_DRIVE_ISEG g) ∨ guardOk (s.nextTck.setReg (Reg.GRP_LINE_USE g) v) = false) → exec (.lineUseWrite p g v) s = .next (s.nextTck.set (Fld.GRP_EVENTS_LIMIT_REFUSED g) 1)) ∧
    (∀ v : Word, bitsOf v 43 5 = bitsOf (s.reg (Reg.GRP_LCD g)) 43 5 → exec (.lcdWrite p g v) s = .next s.nextTck) ∧
    (∀ v : Word, bitsOf v 43 5 ≠ bitsOf (s.reg (Reg.GRP_LCD g)) 43 5 → s.grpState g ≠ grpOff →
      exec (.lcdWrite p g v) s = .next (if s.isLcd g then s.nextTck.set (Fld.GRP_EVENTS_LCD_REFUSED g) 1 else s.nextTck)) ∧
    (∀ v : Word, bitsOf v 43 5 ≠ bitsOf (s.reg (Reg.GRP_LCD g)) 43 5 → s.grpState g = grpOff → s.flag (Fld.GRP_STATUS_START_PENDING g) = false →
      Answers (.lcdWrite p g v) s fun t => t.get (Fld.GRP_LCD_DUTY g) = bitsOf v 44 4 ∧ t.get (Fld.GRP_LCD_INV g) = bitsOf v 43 1 ∧
        t.comb.activePassed = false ∧ RegsBut [Reg.GRP_LCD g, Reg.GRP_STATUS g, Reg.GRP_EVENTS g, 0x1003, 0x1005] s t))

/-- A RAMP step, when due, lowers the segment current by one code (R169); the end of DISCHARGE, when due, is OFF (R170). VLED_LOW clears VLED_OK and stops
the group (R58, R174); a C-line clamp stops an ON group (R165); lines out of regulation count only while they source in an LED cell, where they join the
record of the group, with a current flowing (R162). Completion: exec answers the stated next state of the command's own effect, wherever the conditions
that its clause puts on the state and the operands alone hold, for RAMP_STEP_TICK, DISCHARGE_END, HEADROOM, CLINE_CLAMP and VLED_LOW. -/
def Obligations.GroupRampsAndReports : Prop :=
  (∀ (g : Fin 8) (s : State), Live s →
    ((s.grp g).phase = .ramp → 2 ≤ s.get (Fld.GRP_STATUS_DAC_NOW g) → Answers (.rampStepTick g) s fun t =>
      t.get (Fld.GRP_STATUS_DAC_NOW g) = s.get (Fld.GRP_STATUS_DAC_NOW g) - 1 ∧ t.now = max s.now (s.grp g).due ∧
      (t.grp g).due = t.now + (s.grp g).rampStep ∧ (t.grp g).phase = .ramp ∧ RegsBut [Reg.GRP_STATUS g] s t) ∧
    ((s.grp g).phase ≠ .ramp → exec (.rampStepTick g) s = .next s) ∧
    ((s.grp g).phase = .discharge → Answers (.dischargeEnd g) s fun t => t.grpState g = grpOff ∧ t.flag (Fld.GRP_EVENTS_STOPPED g) = true ∧
      t.flag (Fld.GRP_STATUS_SAFE g) = true ∧ t.now = max s.now (s.grp g).due ∧ (t.grp g).phase = .none ∧ RegsBut [Reg.GRP_STATUS g, Reg.GRP_EVENTS g] s t) ∧
    ((s.grp g).phase ≠ .discharge → exec (.dischargeEnd g) s = .next s)) ∧
  (∀ (g : Fin 8) (s : State), Live s →
    (s.grpState g = grpOff ∨ s.grpState g = grpStopping →
      exec (.vledLow g) s = .next ((s.set (Fld.GRP_STATUS_VLED_OK g) 0).set (Fld.GRP_EVENTS_VLED_LOW g) 1)) ∧
    (s.grpState g = grpOn → Answers (.vledLow g) s fun t => t.grpState g ≠ grpOn ∧ t.flag (Fld.GRP_STATUS_VLED_OK g) = false ∧
      t.flag (Fld.GRP_EVENTS_VLED_LOW g) = true)) ∧
  (∀ (g : Fin 8) (c : Fin 16) (s : State), Live s →
    (s.grpState g ≠ grpOn → exec (.clineClamp g c) s = .next s) ∧
    (s.grpState g = grpOn → Answers (.clineClamp g c) s fun t => t.grpState g ≠ grpOn ∧ t.flag (Fld.GRP_EVENTS_CLINE_CLAMP g) = true)) ∧
  (∀ (g : Fin 8) (lines : BitVec 32) (s : State), Live s →
    (cellDrives s = false ∨ cellType (drivingCell s) g ≠ slotLed ∨ ledLit s g = false ∨ s.get (Fld.GRP_STATUS_DAC_NOW g) = 0 ∨ lines = 0 →
      exec (.headroom g lines) s = .next s) ∧
    (∀ low, low = lines.toNat &&& (bitsOf (encodedWord s g (cellCommon (drivingCell s)) (cellPlane (drivingCell s))) 16 32 &&& (s.linesOn g / 65536)) →
      cellDrives s = true → cellType (drivingCell s) g = slotLed → ledLit s g = true → s.get (Fld.GRP_STATUS_DAC_NOW g) ≠ 0 → low ≠ 0 → Answers (.headroom g lines) s fun t =>
        t.get (Fld.GRP_X_HEADROOM_LOW g) = s.get (Fld.GRP_X_HEADROOM_LOW g) ||| low ∧ t.flag (Fld.GRP_EVENTS_HEADROOM g) = true ∧
        OnlyRegs [Reg.GRP_X_HEADROOM g, Reg.GRP_HEADROOM g, Reg.GRP_EVENTS g] s t))

/-- ENABLE of the generator starts its pump from OFF and makes a stopping one in LEVEL RESTART_PENDING; ENABLE = 0 of one that is OFF changes the setting
alone, and one that is ON and drives no ON LCD group goes through LEVEL to DISCHARGE at once (R191). READY of a starting pump makes it ON; PUMP_FAIL, 5
ms after the start, and PUMP_OVERLOAD of one that is ON stop it and clear ENABLE (R189); VLCD below 200 mV in DISCHARGE is OFF. The target moves by at
most one step of 20 mV in each update, on the 10 ms grid (R188). BIAS outside 2 to 5 or VSET outside 50 to 240 is refused, and a legal VSET is taken
(R190). Completion: exec answers the stated next state of the command's own effect, wherever the conditions that its clause puts on the state and the
operands alone hold, for BIAS_ENABLE, BIAS_DISABLE, BIAS_READY, PUMP_FAIL, PUMP_OVERLOAD, BIAS_DISCHARGE_END, VLCD_TARGET_UPDATE and BIAS_SET_WRITE. -/
def Obligations.LcdBiasGenerator : Prop :=
  (∀ (p : Path) (s : State), Live s → MayWriteBasic p 0x13 s →
    (biasState s = biasOff → Answers (.biasEnable p) s fun t => biasState t = biasStarting ∧ t.flag Fld.LCDB_BASIC_ENABLE = true ∧
      t.flag Fld.LCDB_STATUS_SAFE = false ∧ t.lcd.startedAt = s.nextTck.now ∧ t.lcd.acts = false ∧ SameMemory s t) ∧
    (biasState s = biasStopping → s.flag Fld.LCDB_STATUS_SAFE = false → Answers (.biasEnable p) s fun t => biasState t = biasRestart ∧
      RegsBut [Reg.LCDB_BASIC, Reg.LCDB_STATUS] s t) ∧
    (biasState s = biasOff → exec (.biasDisable p) s = .next (s.nextTck.set Fld.LCDB_BASIC_ENABLE 0)) ∧
    (biasState s = biasOn → lcdGroupsOn s = [] → Answers (.biasDisable p) s fun t => biasState t = biasStopping ∧
      t.flag Fld.LCDB_STATUS_SAFE = true ∧ t.flag Fld.LCDB_STATUS_DISCHARGING = true ∧ t.flag Fld.LCDB_STATUS_READY = s.flag Fld.LCDB_STATUS_READY ∧
      RegsBut [Reg.LCDB_BASIC, Reg.LCDB_STATUS] s t)) ∧
  (∀ s : State, Live s →
    (biasState s ≠ biasStarting → exec .biasReady s = .next s ∧ exec .pumpFail s = .next s) ∧
    (biasState s ≠ biasOn → exec .pumpOverload s = .next s) ∧
    (biasState s = biasStarting → Answers .biasReady s fun t => biasState t = biasOn ∧ t.flag Fld.LCDB_STATUS_READY = true ∧
      t.flag Fld.LCDB_EVENTS_READY = true ∧ (s.lcd.fromRestart = true → t.flag Fld.LCDB_EVENTS_RESTARTED = true) ∧
      OnlyRegs [Reg.LCDB_STATUS, Reg.LCDB_EVENTS] { s with lcd := t.lcd } t) ∧
    (biasState s = biasStarting → Answers .pumpFail s fun t => biasState t = biasStopping ∧ t.flag Fld.LCDB_BASIC_ENABLE = false ∧
      t.flag Fld.LCDB_EVENTS_PUMP_FAIL = true ∧ t.now = max s.now (s.lcd.startedAt + 960000) ∧
      RegsBut [Reg.LCDB_BASIC, Reg.LCDB_STATUS, Reg.LCDB_EVENTS] s t) ∧
    (biasState s = biasOn → Answers .pumpOverload s fun t => biasState t = biasStopping ∧ t.flag Fld.LCDB_BASIC_ENABLE = false ∧
      t.flag Fld.LCDB_EVENTS_PUMP_OVERLOAD = true ∧ t.now = s.now ∧ RegsBut [Reg.LCDB_BASIC, Reg.LCDB_STATUS, Reg.LCDB_EVENTS] s t)) ∧
  (∀ (v : BitVec 10) (s : State), Live s →
    (biasState s = biasStopping → s.flag Fld.LCDB_STATUS_DISCHARGING = true → v.toNat < 10 → Answers (.biasDischargeEnd v) s fun t =>
      biasState t = biasOff ∧ t.get Fld.LCDB_STATUS_VLCD_NOW = v.toNat ∧ t.flag Fld.LCDB_EVENTS_STOPPED = true ∧
      RegsBut [Reg.LCDB_STATUS, Reg.LCDB_EVENTS] s t) ∧
    (10 ≤ v.toNat → exec (.biasDischargeEnd v) s = .next s) ∧
    (s.tick < 192000000 → Answers (.vlcdTargetUpdate v) s fun t => t.tick % 1920000 = 0 ∧ t.get Fld.LCDB_STATUS_VLCD_NOW = v.toNat ∧
      t.get Fld.LCDB_STATUS_VLCD_TGT ≤ s.get Fld.LCDB_STATUS_VLCD_TGT + 1 ∧ s.get Fld.LCDB_STATUS_VLCD_TGT ≤ t.get Fld.LCDB_STATUS_VLCD_TGT + 1 ∧
      t.lcd.lastUpdate = some t.now ∧ RegsBut [Reg.LCDB_STATUS] s t)) ∧
  (∀ (p : Path) (b : BitVec 3) (v : BitVec 8) (s : State), Live s → MayWriteBasic p 0x13 s →
    (b.toNat = s.get Fld.LCDB_BASIC_BIAS → 2 ≤ b.toNat → b.toNat ≤ 5 → 50 ≤ v.toNat → v.toNat ≤ 240 →
      exec (.biasSetWrite p b v) s = .next (s.nextTck.set Fld.LCDB_BASIC_VSET v.toNat)) ∧
    ((b.toNat < 2 ∨ 5 < b.toNat) → (v.toNat < 50 ∨ 240 < v.toNat) → exec (.biasSetWrite p b v) s = .next (s.nextTck.set Fld.LCDB_EVENTS_SET_REFUSED 1)) ∧
    (biasState s = biasOff → b.toNat ≠ s.get Fld.LCDB_BASIC_BIAS → 2 ≤ b.toNat → b.toNat ≤ 5 → 50 ≤ v.toNat → v.toNat ≤ 240 →
      Answers (.biasSetWrite p b v) s fun t => t.get Fld.LCDB_BASIC_BIAS = b.toNat ∧ t.get Fld.LCDB_BASIC_VSET = v.toNat ∧ t.comb.activePassed = false ∧
        RegsBut [Reg.LCDB_BASIC, 0x1003, 0x1005] s t))

/-- ENABLE = 1 makes an OFF string wait for its commit clock and a STOPPING one in its ramp RESTART_PENDING; ENABLE = 0 cancels the wait, and begins the
ramp of one that is ON and lit (R221, R223). IREF with RSNS is taken when the current lies within 10 mA to 350 mA and no hard limit breaks, else
SET_REFUSED; VLOW with K, and HMARGIN at expert level, under the same guard (R208, R324). Completion: exec answers the stated next state of the
command's own effect, wherever the conditions that its clause puts on the state and the operands alone hold, for STRING_ENABLE, STRING_DISABLE,
STRING_CTRL_WRITE, STRING_SUP_WRITE and HMARGIN_WRITE. -/
def Obligations.StringSettingsAndEnables : Prop :=
  ∀ (p : Path) (n : Fin 4) (s : State), Live s →
    (MayWriteBasic p 0x14 s → s.strState n = grpOff → Answers (.stringEnable p n) s fun t => t.strState n = grpOff ∧
      t.flag (Fld.STRING_STAT_START_PENDING n) = true ∧ t.flag (Fld.STRING_CTRL_ENABLE n) = true ∧ t.strings = s.strings ∧ SameMemory s t) ∧
    (MayWriteBasic p 0x14 s → s.strState n = grpStopping → s.flag (Fld.STRING_STAT_SAFE n) = false → Answers (.stringEnable p n) s fun t =>
      t.strState n = grpRestart ∧ t.flag (Fld.STRING_STAT_START_PENDING n) = true ∧
      OnlyRegs [Reg.STRING_CTRL n, Reg.STRING_STAT n, Reg.STRING_STATUS] s.nextTck t) ∧
    (MayWriteBasic p 0x14 s → s.strState n = grpOff → exec (.stringDisable p n) s =
      .next ((s.nextTck.set (Fld.STRING_CTRL_ENABLE n) 0).set (Fld.STRING_STAT_START_PENDING n) 0)) ∧
    (MayWriteBasic p 0x14 s → s.strState n = grpOn → s.flag (Fld.STRING_STAT_DARK n) = false → s.get (Fld.STRING_STAT_IREF_NOW n) ≠ 0 →
      Answers (.stringDisable p n) s fun t => t.strState n = grpStopping ∧ t.flag (Fld.STRING_CTRL_ENABLE n) = false ∧ (t.str n).phase = .ramp ∧
        (t.str n).due = s.nextTck.now + s.get (Fld.STRING_X_SEQ_RAMP_STEP n) ∧ RegsBut [Reg.STRING_CTRL n, Reg.STRING_STAT n, Reg.STRING_STATUS] s t) ∧
    (∀ (i : BitVec 8) (r : BitVec 9), MayWriteBasic p 0x14 s →
      (10 * r.toNat ≤ 200 * i.toNat → 200 * i.toNat ≤ 350 * r.toNat → 50 ≤ r.toNat → r.toNat ≤ 500 →
        guardOk ((s.set (Fld.STRING_CTRL_IREF n) i.toNat).set (Fld.STRING_CTRL_RSNS n) r.toNat) = true →
        exec (.stringCtrlWrite p n i r) s = .next ((s.nextTck.set (Fld.STRING_CTRL_IREF n) i.toNat).set (Fld.STRING_CTRL_RSNS n) r.toNat)) ∧
      (200 * i.toNat < 10 * r.toNat ∨ 350 * r.toNat < 200 * i.toNat ∨ r.toNat < 50 ∨ 500 < r.toNat →
        exec (.stringCtrlWrite p n i r) s = .next (s.nextTck.set (Fld.STRING_EVENTS_SET_REFUSED n) 1))) ∧
    (∀ v k : BitVec 10, MayWriteBasic p 0x14 s →
      (guardOk ((s.set (Fld.STRING_SUP_VLOW n) v.toNat).set (Fld.STRING_SUP_K n) k.toNat) = true →
        exec (.stringSupWrite p n v k) s = .next ((s.nextTck.set (Fld.STRING_SUP_VLOW n) v.toNat).set (Fld.STRING_SUP_K n) k.toNat)) ∧
      (guardOk ((s.set (Fld.STRING_SUP_VLOW n) v.toNat).set (Fld.STRING_SUP_K n) k.toNat) = false →
        exec (.stringSupWrite p n v k) s = .next (s.nextTck.set (Fld.STRING_EVENTS_SET_REFUSED n) 1))) ∧
    (∀ v : BitVec 6, s.pathOpen p 0x14 = true → s.expert 0x14 = true →
      (guardOk (s.set (Fld.STRING_X_SEQ_HMARGIN n) v.toNat) = true →
        exec (.hmarginWrite p n v) s = .next (s.nextTck.set (Fld.STRING_X_SEQ_HMARGIN n) v.toNat)) ∧
      (guardOk (s.set (Fld.STRING_X_SEQ_HMARGIN n) v.toNat) = false →
        exec (.hmarginWrite p n v) s = .next (s.nextTck.set (Fld.STRING_EVENTS_SET_REFUSED n) 1)))

/-- A string's current moves by one code at each step towards its goal (R209); RELEASE lowers I_H by 1 µA a step and ends OFF at 0 (R223). A clamp marks its
lamp FAILED (R219); a string that is open while current should flow has ENABLE cleared and is ON or RESTART_PENDING no more (R220); the regulator's
margin is flagged while current should flow (R210). The sample of a plane is taken 64 tck before its hold ends, in the ramp of a string that stops too
(R223), and joins the weighted sum of the frame; without a plane nothing is sampled (R216, R225). Completion: exec answers the stated next state of the
command's own effect, wherever the conditions that its clause puts on the state and the operands alone hold, for STRING_RAMP_TICK, RELEASE_STEP,
LAMP_OPEN, STRING_OPEN, STRING_HEADROOM and LAMP_SAMPLE. -/
def Obligations.StringRampsSamplesAndFaults : Prop :=
  ∀ (n : Fin 4) (s : State), Live s →
    (s.strState n ≠ grpOff → s.get (Fld.STRING_STAT_IREF_NOW n) < stringGoal s n → Answers (.stringRampTick n) s fun t =>
      t.get (Fld.STRING_STAT_IREF_NOW n) = s.get (Fld.STRING_STAT_IREF_NOW n) + 1 ∧ t.now = max s.now (s.str n).due ∧
      (t.str n).due = t.now + s.get (Fld.STRING_X_SEQ_RAMP_STEP n) ∧ RegsBut [Reg.STRING_STAT n] s t) ∧
    (s.strState n ≠ grpOff → stringGoal s n < s.get (Fld.STRING_STAT_IREF_NOW n) → 2 ≤ s.get (Fld.STRING_STAT_IREF_NOW n) →
      Answers (.stringRampTick n) s fun t => t.get (Fld.STRING_STAT_IREF_NOW n) = s.get (Fld.STRING_STAT_IREF_NOW n) - 1 ∧
        t.now = max s.now (s.str n).due ∧ RegsBut [Reg.STRING_STAT n] s t) ∧
    (s.strState n = grpOff ∨ s.get (Fld.STRING_STAT_IREF_NOW n) = stringGoal s n → exec (.stringRampTick n) s = .next s) ∧
    ((s.str n).phase = .discharge → 2 ≤ s.get (Fld.STRING_STAT_IH_NOW n) → Answers (.releaseStep n) s fun t =>
      t.get (Fld.STRING_STAT_IH_NOW n) = s.get (Fld.STRING_STAT_IH_NOW n) - 1 ∧ t.now = max s.now (s.str n).due ∧
      (t.str n).due = t.now + 256 * s.get (Fld.STRING_X_SEQ_RELEASE_STEP n) ∧ RegsBut [Reg.STRING_STAT n] s t) ∧
    ((s.str n).phase = .discharge → s.get (Fld.STRING_STAT_IH_NOW n) ≤ 1 → Answers (.releaseStep n) s fun t =>
      t.strState n = grpOff ∧ t.get (Fld.STRING_STAT_IH_NOW n) = 0 ∧ t.flag (Fld.STRING_EVENTS_STOPPED n) = true ∧
      RegsBut [Reg.STRING_STAT n, Reg.STRING_STATUS, Reg.STRING_EVENTS] s t) ∧
    ((s.str n).phase ≠ .discharge → exec (.releaseStep n) s = .next s) ∧
    (∀ k : Fin 16, Answers (.lampOpen n k) s fun t => t.get (Fld.STRING_STAT_FAILED n) = s.get (Fld.STRING_STAT_FAILED n) ||| 2 ^ k.val ∧
      t.flag (Fld.STRING_EVENTS_LAMP_OPEN n) = true ∧ t.strings = s.strings ∧ SameMemory s t) ∧
    (s.get (Fld.STRING_STAT_IREF_NOW n) = 0 → exec (.stringOpen n) s = .next s) ∧
    (s.get (Fld.STRING_STAT_IREF_NOW n) ≠ 0 → Answers (.stringOpen n) s fun t => t.strState n ≠ grpOn ∧ t.strState n ≠ grpRestart ∧
      t.flag (Fld.STRING_CTRL_ENABLE n) = false ∧ t.flag (Fld.STRING_EVENTS_STRING_OPEN n) = true ∧ SameMemory s t) ∧
    (s.get (Fld.STRING_STAT_IREF_NOW n) ≠ 0 → exec (.stringHeadroom n) s = .next (s.set (Fld.STRING_EVENTS_HEADROOM n) 1)) ∧
    (s.get (Fld.STRING_STAT_IREF_NOW n) = 0 → exec (.stringHeadroom n) s = .next s) ∧
    (∀ (mv : Nat) (lamps : List Nat), (s.str n).plane = none → exec (.lampSample n mv lamps) s = .next s) ∧
    (∀ (mv : Nat) (lamps : List Nat) (b hold left : Nat), (s.str n).plane = some b → planeHold s n = some (hold, left) →
      (s.str n).lit = true → 128 ≤ hold → Answers (.lampSample n mv lamps) s fun t => t.now = s.now + (left - 64) ∧
        (t.str n).vl00Sum = (s.str n).vl00Sum + mv * hold ∧ (t.str n).vl00Time = (s.str n).vl00Time + hold ∧
        RegsBut [Reg.STRING_MEAS n, Reg.STRING_EVENTS] s t)

/-- KEY.SENSEg with PULL 0 is refused with SET_REFUSED and else taken (R234); so is a profile with a value out of range (R238), and one that is taken at
basic level stands as written (R236). A write of a key state entry changes PROFILE and BASELINE and restarts learning, and the profile that acts is the
old one until the next sample (R241, R261); one of a health entry only clears DEGRADED (R278). A tick of the 10 ms clock falls on its grid and counts
(R242). Completion: exec answers the stated next state of the command's own effect, wherever the conditions that its clause puts on the state and the
operands alone hold, for KEY_SENSE_WRITE, PROFILE_WRITE, KEY_ENTRY_WRITE, KEY_ENGINE_TICK and HEALTH_ENTRY_WRITE. -/
def Obligations.KeySettingsEntriesAndTicks : Prop :=
  (∀ (p : Path) (g : Fin 8) (v : Word) (s : State), Live s → MayWriteBasic p 0x18 s →
    (bitsOf v 42 6 = 0 → exec (.keySenseWrite p g v) s = .next (s.nextTck.set Fld.KEY_EVENTS_SET_REFUSED 1)) ∧
    (bitsOf v 42 6 ≠ 0 → exec (.keySenseWrite p g v) s = .next (s.nextTck.putWord (Reg.KEY_SENSE g) v))) ∧
  (∀ (p : Path) (n : Fin 8) (v : Word) (s : State), Live s → MayWriteBasic p 0x18 s →
    (profileBad (bitsOf v 40 8) (bitsOf v 32 8) (bitsOf v 30 2) (bitsOf v 22 8) (bitsOf v 16 6) (bitsOf v 8 8) = true →
      exec (.profileWrite p n v) s = .next (s.nextTck.set Fld.KEY_EVENTS_SET_REFUSED 1)) ∧
    (profileBad (bitsOf v 40 8) (bitsOf v 32 8) (bitsOf v 30 2) (bitsOf v 22 8) (bitsOf v 16 6) (bitsOf v 8 8) = false →
      Answers (.profileWrite p n v) s fun t => bitsOf (t.reg (Reg.KEY_PROFILE n)) 40 8 = bitsOf v 40 8 ∧
        bitsOf (t.reg (Reg.KEY_PROFILE n)) 32 8 = bitsOf v 32 8 ∧ OnlyRegs [Reg.KEY_PROFILE n, Reg.KEY_X_PROFILE n] s.nextTck t)) ∧
  (∀ (i : Fin 4096) (v : Word) (s : State), Live s → s.heldInReset 0x18 = false → s.get Fld.CLOCK_POWER_STATE ≠ 3 →
    (Answers (.keyEntryWrite i v) s fun t => bitsOf (t.keyEntry i) 45 3 = bitsOf v 45 3 ∧ bitsOf (t.keyEntry i) 10 10 = bitsOf v 10 10 ∧
      bitsOf (t.keyEntry i) 0 10 = bitsOf (s.keyEntry i) 0 10 ∧ t.keyStateOf i = s.keyStateOf i ∧ t.keyProfile i = s.keyProfile i ∧
      bitsOf (t.healthEntry i) 15 14 = 0 ∧ (∀ j, j ≠ i.val → t.keyEntry j = s.keyEntry j ∧ t.healthEntry j = s.healthEntry j) ∧ t.regs = s.regs) ∧
    (bitAt v 29 = true → exec (.healthEntryWrite i v) s = .next s.nextTck) ∧
    (bitAt v 29 = false → Answers (.healthEntryWrite i v) s fun t => t.healthEntry i = withBits (s.healthEntry i) 29 1 0 ∧
      (∀ j, j ≠ i.val → t.healthEntry j = s.healthEntry j) ∧ t.regs = s.regs ∧ t.keys.entries = s.keys.entries)) ∧
  (∀ s : State, Live s → s.heldInReset 0x18 = false → s.tick < 192000000 → Answers .keyEngineTick s fun t => t.tick % 1920000 = 0 ∧ t.keys.ticks = s.keys.ticks + 1 ∧
    t.keys.lastTick = some t.now ∧ t.klock.gapTicks = s.klock.gapTicks + 1 ∧
    (s.flag Fld.KLOCK_STATUS_LOCKOUT = true → t.klock.lockout = s.klock.lockout - 1) ∧ RegsBut [Reg.KLOCK_STATUS] s t)

/-- The oldest raised event enters the queue when its type is unmasked and a slot is free; with the queue full it is lost, counted in LOST (R283 to R285). A
pop by a path takes the oldest queued event, with its extension in the path's own LAST_EXT; an empty queue answers the empty marker (R287, R288, R290);
a fabric's read and its event-queue port pop when the data returns, 2 tck after the arbiter took it (R431). Completion: exec answers the stated next
state of the command's own effect, wherever the conditions that its clause puts on the state and the operands alone hold, for EVENT_ENQUEUE, EVENT_POP
and FABRIC_EVENT_POP. -/
def Obligations.EventQueueEntersAndLeaves : Prop :=
  (∀ (e : Ev) (r : List Ev) (s : State), Live s → s.events.waiting = e :: r →
    ((s.get Fld.EVENT_BASIC_TYPE_MASK).testBit (bitsOf e.word 45 3) = false → exec .eventEnqueue s =
      .next { s with events := { s.events with waiting := r } }) ∧
    ((s.get Fld.EVENT_BASIC_TYPE_MASK).testBit (bitsOf e.word 45 3) = true → s.events.queued.length + s.events.flight.length < 256 →
      exec .eventEnqueue s = .next ({ s with events := { s.events with waiting := r, queued := s.events.queued ++ [e] } }.set Fld.EVENT_EVENTS_QUEUED 1)) ∧
    ((s.get Fld.EVENT_BASIC_TYPE_MASK).testBit (bitsOf e.word 45 3) = true → 256 ≤ s.events.queued.length + s.events.flight.length →
      Answers .eventEnqueue s fun t => t.get Fld.EVENT_STATUS_LOST = min (s.get Fld.EVENT_STATUS_LOST + 1) (2 ^ Fld.EVENT_STATUS_LOST.width - 1) ∧
        t.flag Fld.EVENT_EVENTS_OVERFLOW = true ∧ t.events = { s.events with waiting := r } ∧ RegsBut [Reg.EVENT_STATUS, Reg.EVENT_EVENTS] s t)) ∧
  (∀ (e : Ev) (r : List Ev) (s : State), Live s → s.late = [] → s.heldInReset 0x1A = false → s.get Fld.CLOCK_POWER_STATE ≠ 3 → s.events.queued = e :: r →
    (popByPath .ring s).1 = e.word ∧
    exec (.eventPop .ring) s = .next { s.nextTck with events := { s.nextTck.events with queued := r, lastRing := e.ext } } ∧
    exec (.eventPop .twi) s = .next { s.nextTck with events := { s.nextTck.events with queued := r, lastTwi := e.ext } } ∧
    Answers (.eventPop .fabric) s (fun t => t = { s.nextTck with late := t.late } ∧
      (t.elapse 2).settled.events.queued = e :: r ∧ (t.elapse 3).settled.events = { s.events with queued := r, lastFabric := e.ext }) ∧
    Answers .fabricEventPop s (fun t => t = { s with late := t.late } ∧ (t.elapse 2).settled.events.queued = e :: r ∧
      (t.elapse 3).settled.events = { s.events with queued := r } ∧ (t.elapse 3).settled.bridgeAnswer 1 = { data := e.word, more := e.ext })) ∧
  (∀ s : State, Live s → s.late = [] → s.heldInReset 0x1A = false → s.get Fld.CLOCK_POWER_STATE ≠ 3 → s.events.queued = [] →
    (∀ p, (popByPath p s).1 = 0xFFFFFFFFFFFF) ∧ exec (.eventPop .ring) s = .next { s.nextTck with events := { s.nextTck.events with lastRing := 0 } } ∧
    Answers .fabricEventPop s (fun t => t = { s with late := t.late } ∧ (t.elapse 3).settled.events = s.events ∧
      (t.elapse 3).settled.bridgeAnswer 1 = { data := 0xFFFFFFFFFFFF, more := 0 }))

/-- LOCK written on or off changes LOCK and its copy, raises LOCK_CHANGED and a LOCK event, and written off clears the failures and the lockout (R291,
R298). The seal stops every write of the sequence and the combinations (R305); a sequence word is taken with the matcher at its start, a combination
word disarms its combination (R298, R301). A combination that has reached its hold time fires, is disarmed, and its action waits 1,024 tck (R302, R303).
The gap between presses abandons an attempt (R296), the lockout ends when its counter is 0 (R297), and PANEL_RSTN is released when its pulse ends
(R303). Completion: exec answers the stated next state of the command's own effect, wherever the conditions that its clause puts on the state and the
operands alone hold, for KEY_LOCK_WRITE, CLEAR_FAILS, SEAL, SEQ_WRITE, COMBO_WRITE, KLOCK_BASIC_WRITE, SEQ_GAP_TIMEOUT, LOCKOUT_ENDED, COMBO_FIRE,
COMBO_ACTION and PANEL_PULSE_END. -/
def Obligations.KeyLockAndCombinations : Prop :=
  (∀ (p : Path) (on : Bool) (s : State), Live s → MayWriteBasic p 0x1B s →
    (on = s.flag Fld.KLOCK_CTRL_LOCK → exec (.keyLockWrite p on) s = .next s.nextTck) ∧
    (on ≠ s.flag Fld.KLOCK_CTRL_LOCK → Answers (.keyLockWrite p on) s fun t => t.flag Fld.KLOCK_CTRL_LOCK = on ∧
      t.flag Fld.KLOCK_STATUS_LOCKED_NOW = on ∧ t.flag Fld.KLOCK_EVENTS_LOCK_CHANGED = true ∧
      (on = false → t.get Fld.KLOCK_STATUS_FAILS = 0 ∧ t.flag Fld.KLOCK_STATUS_LOCKOUT = false ∧ t.klock.lockout = 0) ∧
      t.events.waiting.length = s.events.waiting.length + 1 ∧ t.events.queued = s.events.queued ∧
      RegsBut [Reg.KLOCK_CTRL, Reg.KLOCK_STATUS, Reg.KLOCK_EVENTS] s t)) ∧
  (∀ (p : Path) (s : State), Live s → s.pathOpen p 0x1B = true → s.expert 0x1B = false →
    exec (.clearFails p) s = .next (s.nextTck.set Fld.KLOCK_STATUS_FAILS 0) ∧ exec (.seal p) s = .next (s.nextTck.set Fld.KLOCK_STATUS_SEALED 1)) ∧
  (∀ (p : Path) (k : Fin 3) (v : Word) (s : State), Live s → s.pathOpen p 0x1B = true → s.expert 0x1B = false →
    (s.flag Fld.KLOCK_STATUS_SEALED = true → exec (.seqWrite p k v) s = .next (s.nextTck.set Fld.KLOCK_EVENTS_SEALED_WRITE 1)) ∧
    (s.flag Fld.KLOCK_STATUS_SEALED = false → k = 0 → exec (.seqWrite p k v) s =
      .next { s.nextTck.set Fld.KLOCK_STATUS_SEQ_POS 0 with klock := { s.nextTck.klock with seqA := v } }) ∧
    (s.flag Fld.KLOCK_STATUS_SEALED = false → k = 1 → exec (.seqWrite p k v) s =
      .next { s.nextTck.set Fld.KLOCK_STATUS_SEQ_POS 0 with klock := { s.nextTck.klock with seqB := v } }) ∧
    (s.flag Fld.KLOCK_STATUS_SEALED = false → k = 2 → bitsOf v 0 4 ≤ 8 → exec (.seqWrite p k v) s =
      .next { s.nextTck.set Fld.KLOCK_STATUS_SEQ_POS 0 with klock := { s.nextTck.klock with seqLen := bitsOf v 0 4 } }) ∧
    (s.flag Fld.KLOCK_STATUS_SEALED = false → k = 2 → 8 < bitsOf v 0 4 → exec (.seqWrite p k v) s = .next (s.nextTck.set Fld.KLOCK_EVENTS_SET_REFUSED 1))) ∧
  (∀ (p : Path) (n : Fin 4) (v : Word) (s : State), Live s → MayWriteBasic p 0x1B s →
    (s.flag Fld.KLOCK_STATUS_SEALED = true → ∀ c, exec (.comboWrite p n c v) s = .next (s.nextTck.set Fld.KLOCK_EVENTS_SEALED_WRITE 1)) ∧
    (s.flag Fld.KLOCK_STATUS_SEALED = false → comboDistinct v (s.reg (Reg.KLOCK_COMBO_CTRL n)) = true → Answers (.comboWrite p n false v) s fun t =>
      t.reg (Reg.KLOCK_COMBO_KEYS n) = v ∧ (t.comboSt n).armed = false ∧ (t.comboSt n).timer = none ∧
      RegsBut [Reg.KLOCK_COMBO_KEYS n, Reg.KLOCK_STATUS] s t) ∧
    (s.flag Fld.KLOCK_STATUS_SEALED = false → (bitsOf v 34 8 < 10 ∨ 250 < bitsOf v 34 8 ∨ bitsOf v 44 2 = 3) →
      exec (.comboWrite p n true v) s = .next (s.nextTck.set Fld.KLOCK_EVENTS_SET_REFUSED 1))) ∧
  (∀ (p : Path) (v : Word) (s : State), Live s → MayWriteBasic p 0x1B s →
    (bitsOf v 26 6 = 0 ∨ bitsOf v 8 8 < 10 ∨ bitsOf v 0 8 = 0 → exec (.klockBasicWrite p v) s = .next (s.nextTck.set Fld.KLOCK_EVENTS_SET_REFUSED 1)) ∧
    (bitsOf v 26 6 ≠ 0 → 10 ≤ bitsOf v 8 8 → bitsOf v 0 8 ≠ 0 → Answers (.klockBasicWrite p v) s fun t =>
      bitsOf (t.reg Reg.KLOCK_BASIC) 26 6 = bitsOf v 26 6 ∧ bitsOf (t.reg Reg.KLOCK_BASIC) 0 8 = bitsOf v 0 8 ∧
      bitsOf (t.reg Reg.KLOCK_BASIC) 8 8 = bitsOf v 8 8 ∧ OnlyRegs [Reg.KLOCK_BASIC] s.nextTck t)) ∧
  (∀ s : State, Live s →
    (0 < s.get Fld.KLOCK_STATUS_SEQ_POS → s.get Fld.KLOCK_BASIC_GAP * 10 < s.klock.gapTicks → exec .seqGapTimeout s =
      .next (s.set Fld.KLOCK_STATUS_SEQ_POS 0)) ∧
    (s.get Fld.KLOCK_STATUS_SEQ_POS = 0 ∨ s.klock.gapTicks ≤ s.get Fld.KLOCK_BASIC_GAP * 10 → exec .seqGapTimeout s = .next s) ∧
    (s.flag Fld.KLOCK_STATUS_LOCKOUT = true → s.klock.lockout = 0 → Answers .lockoutEnded s fun t => t.flag Fld.KLOCK_STATUS_LOCKOUT = false ∧
      t.events.waiting.length = s.events.waiting.length + 1 ∧ RegsBut [Reg.KLOCK_STATUS] s t) ∧
    (s.flag Fld.KLOCK_STATUS_LOCKOUT = false ∨ s.klock.lockout ≠ 0 → exec .lockoutEnded s = .next s) ∧
    ((∀ n : Fin 4, comboDue s n = false) → exec .comboFire s = .next s)) ∧
  (∀ (n : Fin 4) (s : State), Live s → comboDue s n = true → (∀ m : Fin 4, m ≠ n → comboDue s m = false) → Answers .comboFire s fun t =>
    (t.comboSt n).armed = false ∧ (t.comboSt n).timer = none ∧ t.flag Fld.KLOCK_EVENTS_COMBO_FIRED = true ∧
    t.events.waiting.length = s.events.waiting.length + 1 ∧
    (s.get (Fld.KLOCK_COMBO_CTRL_ACTION n) ≠ 0 →
      t.klock.actions = s.klock.actions ++ [⟨s.now + 1024, s.get (Fld.KLOCK_COMBO_CTRL_ACTION n), n⟩]) ∧
    (s.get (Fld.KLOCK_COMBO_CTRL_ACTION n) = 0 → t.klock.actions = s.klock.actions)) ∧
  (∀ (a : ComboAction) (r : List ComboAction) (s : State), s.clock.coreStopped = false → s.klock.actions = a :: r → a.action = 1 →
    Answers .comboAction s fun t => t.klock.actions = r ∧ t.now = max s.now a.due ∧
      t.klock.panelUntil = some (max (t.now + 192000 * s.get Fld.KLOCK_BASIC_PANEL_PULSE) (s.klock.panelUntil.getD 0)) ∧ t.regs = s.regs) ∧
  (∀ (a : ComboAction) (r : List ComboAction) (s : State), s.clock.coreStopped = false → s.klock.actions = a :: r → a.action = 3 → s.inHold = false →
    Answers .comboAction s fun t => 3 ∈ t.clock.sources ∧ t.clock.inReset = true ∧ t.clock.comboNo = a.combo) ∧
  (∀ (u : Nat) (s : State), s.clock.coreStopped = false → s.klock.panelUntil = some u → Answers .panelPulseEnd s fun t =>
    t.klock.panelUntil = none ∧ t.now = max s.now u ∧ t.regs = s.regs)

/-- LSW, TIME and EPOCH sets of a port that is not OFF, with its microcode loaded: each leaves at the word boundary that follows the end of its period
(1,920 tck, 8,192 tck, the next 10 ms of hive time), carries what R344, R360 and R362 put into its fields, stands on the line as its code groups, and
lasts 16 tck; a TIME set leaves after an LSW that is due by then, and an EPOCH set after both. Each changes nothing but the sending port's own record:
no register, and not the other port. Completion: exec answers the stated next state of the command's own effect, wherever the conditions that its clause
puts on the state and the operands alone hold, for LSW_SEND, TIME_SEND and EPOCH_SEND. -/
def Obligations.MaintenanceSetsGoOut : Prop :=
  ∀ (x : Port) (s : State), Live s → portLives s (portNo x) = true →
    (∀ due, due = dueAt (s.port (portNo x)).lswDue 1920 s.now → Answers (.lswSend x) s fun t =>
      t.now = max s.now (wordBoundary s (portNo x) due) ∧ (t.port (portNo x)).lswDue = some due ∧ (t.port (portNo x)).setEnd = t.now + 16 ∧
      (t.port (portNo x)).codes = (encodeGroups (s.port (portNo x)).disparity (lswSet (t.port (portNo x)).lswWord)).1 ∧
      bitsOf (t.port (portNo x)).lswWord 44 4 = 1 ∧ bitsOf (t.port (portNo x)).lswWord 43 1 = portNo x ∧
      (bitsOf (t.port (portNo x)).lswWord 42 1 = 1 ↔ s.link (portNo x) = linkUp) ∧ bitsOf (t.port (portNo x)).lswWord 25 7 = s.get Fld.HIVE_ROLE_ADDR ∧
      bitsOf (t.port (portNo x)).lswWord 0 8 = (crc8 ((wordBytes (t.port (portNo x)).lswWord).take 5)).toNat ∧
      t.port (otherNo (portNo x)) = s.port (otherNo (portNo x)) ∧ t.regs = s.regs) ∧
    (∀ (sub : BitVec 8) (due : Nat), due = dueAt (s.port (portNo x)).timeDue 8192 s.now →
      (dueBy (s.port (portNo x)).lswDue 1920 (wordBoundary s (portNo x) due) = false → Answers (.timeSend x sub) s fun t =>
        t.now = max s.now (wordBoundary s (portNo x) due) ∧ (t.port (portNo x)).timeDue = some due ∧
        (t.port (portNo x)).codes = (encodeGroups (s.port (portNo x)).disparity (timeSet (t.port (portNo x)).timeWord)).1 ∧
        bitsOf (t.port (portNo x)).timeWord 46 2 = (s.port (portNo x)).nextSeq % 4 ∧
        (t.port (portNo x)).nextSeq = ((s.port (portNo x)).nextSeq + 1) % 4 ∧
        (((s.port (portNo x)).heard = none) → bitsOf (t.port (portNo x)).timeWord 0 22 = 0x3FFFFF) ∧
        (t.port (portNo x)).departures.head? = some ((s.port (portNo x)).nextSeq, (t.hiveNow * 256 + sub.toNat) % 4194304) ∧
        t.port (otherNo (portNo x)) = s.port (otherNo (portNo x)) ∧ t.regs = s.regs) ∧
      (dueBy (s.port (portNo x)).lswDue 1920 (wordBoundary s (portNo x) due) = true → Answers (.timeSend x sub) s fun t =>
        (t.port (portNo x)).lswDue = some (dueAt (s.port (portNo x)).lswDue 1920 s.now) ∧ (t.port (portNo x)).timeDue = some due ∧
        (t.port (portNo x)).codes = (encodeGroups (encodeGroups (s.port (portNo x)).disparity (lswSet (t.port (portNo x)).lswWord)).2
          (timeSet (t.port (portNo x)).timeWord)).1 ∧ t.port (otherNo (portNo x)) = s.port (otherNo (portNo x)) ∧ t.regs = s.regs)) ∧
    (∀ (sub : BitVec 8) (u : State), (s.timeState = timeSource ∨ s.timeState = timeAligned) → s.tick < ticksPerSecond → s.seconds < 4294967296 →
      u = s.elapse (s.toNextGrid 1920000 (s.port (portNo x)).epochDue) →
      Answers (.epochSend ⟨x, sub⟩) s fun t =>
        (t.port (portNo x)).epochDue = some u.now ∧ u.tick % 1920000 = 0 ∧ bitsOf (t.port (portNo x)).epochWord 16 32 = u.seconds ∧
        bitsOf (t.port (portNo x)).epochWord 9 7 = u.tick / 1920000 ∧ bitsOf (t.port (portNo x)).epochWord 8 1 = 1 ∧
        bitsOf (t.port (portNo x)).epochWord 0 8 = (crc8 ((wordBytes (t.port (portNo x)).epochWord).take 5)).toNat ∧
        (dueBy (s.port (portNo x)).lswDue 1920 (wordBoundary u (portNo x) u.now) = false →
          dueBy (s.port (portNo x)).timeDue 8192 (wordBoundary u (portNo x) u.now) = false → t.now = wordBoundary u (portNo x) u.now ∧
          (t.port (portNo x)).codes = (encodeGroups (s.port (portNo x)).disparity (epochSet (t.port (portNo x)).epochWord)).1) ∧
        (dueBy (s.port (portNo x)).lswDue 1920 (wordBoundary u (portNo x) u.now) = true →
          dueBy (s.port (portNo x)).timeDue 8192 (wordBoundary u (portNo x) u.now) = true →
          (t.port (portNo x)).codes = (encodeGroups (encodeGroups (encodeGroups (s.port (portNo x)).disparity (lswSet (t.port (portNo x)).lswWord)).2
            (timeSet (t.port (portNo x)).timeWord)).2 (epochSet (t.port (portNo x)).epochWord)).1) ∧
        t.port (otherNo (portNo x)) = s.port (otherNo (portNo x)) ∧ t.regs = s.regs)

/-- The receive link of a port (R345): alignment takes it from DOWN to TRAINING; the third accepted link-state word in a row takes it UP; a word with a
wrong check byte is not accepted, and one with the port's own letter is a miswiring (R330); code errors outside packets are counted (R337); the tenth
word in a row with RX_UP makes the side of a link that is UP usable, and one without RX_UP unusable (R346); loss of signal, 5,760 tck without a word,
and 16 code errors take it DOWN, where USABLE is 0 and, when it was UP, LINK_DOWN is raised and the recovered clock holds over (R356). The end of a
holdover of a port that is not the time port ends it alone; of the time port of a core on the ring it stops the core (R358), as the loss of the core
clock does (R36): every LED and LCD group, the bias generator and both ports are OFF then and the node is LISTENING (R176, R187, R191, R354).
Completion: exec answers the stated next state of the command's own effect, wherever the conditions that its clause puts on the state and the operands
alone hold, for CORE_CLOCK_STOP, LSW_RECEIVE, LOSS_OF_SIGNAL, LSW_TIMEOUT, CODE_ERROR_LIMIT, HOLDOVER_END and ALIGNMENT_GAINED. -/
def Obligations.ReceiveLinksTrainAndFall : Prop :=
  (∀ (x : Port) (s : State), Live s → portLives s (portNo x) = true → s.link (portNo x) = linkDown →
    exec (.alignmentGained x) s = .next ((s.set (Fld.RING_STATUS_LINK (portNo x)) 1).modPort (portNo x) fun q => { q with lswRun := 0, clockRuns := true })) ∧
  (∀ (x : Port) (w : Word) (s : State), Live s → portLives s (portNo x) = true → s.link (portNo x) = linkTraining →
    (∀ n : BitVec 12, bitsOf w 44 4 ≠ 1 ∨ bitsOf w 0 8 ≠ (crc8 ((wordBytes w).take 5)).toNat → Answers (.lswReceive x ⟨w, n⟩) s fun t =>
      t.link (portNo x) = linkTraining ∧ (t.port (portNo x)).lswRun = 0 ∧ (n ≠ 0 → t.flag (Fld.RING_EVENTS_ERRORS (portNo x)) = true) ∧
      t.get (Fld.RING_ERRORS_CODE (portNo x)) = min (s.get (Fld.RING_ERRORS_CODE (portNo x)) + n.toNat) (2 ^ (Fld.RING_ERRORS_CODE (portNo x)).width - 1) ∧
      RegsBut [Reg.RING_ERRORS (portNo x), Reg.RING_EVENTS (portNo x)] s t) ∧
    (bitsOf w 44 4 = 1 → bitsOf w 0 8 = (crc8 ((wordBytes w).take 5)).toNat → bitsOf w 43 1 = portNo x → Answers (.lswReceive x ⟨w, 0⟩) s fun t =>
      t.link (portNo x) = linkTraining ∧ (t.port (portNo x)).lswRun = 0 ∧ t.flag (Fld.RING_STATUS_MISWIRED (portNo x)) = true ∧
      t.flag (Fld.RING_EVENTS_MISWIRED (portNo x)) = true ∧ RegsBut [Reg.RING_STATUS (portNo x), Reg.RING_EVENTS (portNo x)] s t) ∧
    (bitsOf w 44 4 = 1 → bitsOf w 0 8 = (crc8 ((wordBytes w).take 5)).toNat → bitsOf w 43 1 ≠ portNo x → 2 ≤ (s.port (portNo x)).lswRun →
      Answers (.lswReceive x ⟨w, 0⟩) s fun t => t.link (portNo x) = linkUp ∧ t.flag (Fld.RING_EVENTS_LINK_UP (portNo x)) = true ∧
        t.flag (Fld.RING_STATUS_MISWIRED (portNo x)) = false ∧ t.get (Fld.RING_STATUS_PEER_HOPS (portNo x)) = bitsOf w 32 7 ∧
        t.get (Fld.RING_STATUS_PEER_ADDR (portNo x)) = bitsOf w 25 7 ∧ (t.port (portNo x)).rxUpRun = 0 ∧
        t.link (otherNo (portNo x)) = s.link (otherNo (portNo x)) ∧ SameMemory s t)) ∧
  (∀ (x : Port) (w : Word) (s : State), Live s → portLives s (portNo x) = true → s.link (portNo x) = linkUp → bitsOf w 44 4 = 1 →
    bitsOf w 0 8 = (crc8 ((wordBytes w).take 5)).toNat → bitsOf w 43 1 ≠ portNo x → Answers (.lswReceive x ⟨w, 0⟩) s fun t =>
      t.link (portNo x) = linkUp ∧ (bitAt w 42 = false → t.flag (Fld.RING_STATUS_USABLE (portNo x)) = false) ∧
      (bitAt w 42 = true → 9 ≤ (s.port (portNo x)).rxUpRun → t.flag (Fld.RING_STATUS_USABLE (portNo x)) = true) ∧
      (bitAt w 42 = true → (s.port (portNo x)).rxUpRun < 9 → t.flag (Fld.RING_STATUS_USABLE (portNo x)) = s.flag (Fld.RING_STATUS_USABLE (portNo x)))) ∧
  (∀ (x : Port) (s : State), Live s → s.link (portNo x) = linkUp →
    (Answers (.lossOfSignal x) s fun t => t.link (portNo x) = linkDown ∧ t.flag (Fld.RING_STATUS_USABLE (portNo x)) = false ∧
      t.flag (Fld.RING_EVENTS_LINK_DOWN (portNo x)) = true ∧ t.flag (Fld.RING_STATUS_RCLK_HOLDOVER (portNo x)) = true ∧
      t.link (otherNo (portNo x)) = s.link (otherNo (portNo x)) ∧ t.now = s.now ∧ SameMemory s t) ∧
    (∀ a, (s.port (portNo x)).lastLsw = some a → Answers (.lswTimeout x) s fun t => t.link (portNo x) = linkDown ∧
      t.flag (Fld.RING_EVENTS_LINK_DOWN (portNo x)) = true ∧ t.now = max s.now (a + 5760) ∧ SameMemory s t) ∧
    (∀ n : BitVec 32, Answers (.codeErrorLimit x n) s fun t => t.link (portNo x) = linkDown ∧
      t.flag (Fld.RING_EVENTS_LINK_DOWN (portNo x)) = true ∧ t.now = s.now ∧ SameMemory s t ∧
      t.get (Fld.RING_ERRORS_CODE (portNo x)) = min (s.get (Fld.RING_ERRORS_CODE (portNo x)) + n.toNat)
        (2 ^ (Fld.RING_ERRORS_CODE (portNo x)).width - 1))) ∧
  (∀ (x : Port) (a : Nat) (s : State), Live s → (s.port (portNo x)).holdSince = some a →
    (s.timePort ≠ some (portNo x) → exec (.holdoverEnd x) s = .next (((s.elapseTo (a + 49152)).set (Fld.RING_STATUS_RCLK_HOLDOVER (portNo x)) 0).modPort
      (portNo x) fun q => { q with holdSince := none, clockRuns := false })) ∧
    (s.timePort = some (portNo x) → s.onRing = true → Answers (.holdoverEnd x) s fun t => t.clock.coreStopped = true ∧ t.now = max s.now (a + 49152))) ∧
  (∀ s : State, Answers .coreClockStop s fun t => t.clock.coreStopped = true ∧ (∀ g : Fin 8, t.grpState g = grpOff) ∧ biasState t = biasOff ∧
    (∀ x : Port, t.portState (portNo x) = portOff ∧ (s.portState (portNo x) ≠ portOff → t.link (portNo x) = linkDown)) ∧ t.wrap = wrapListening ∧ t.bypass ≠ bypassOpen ∧ t.now = s.now ∧
    t.pending = s.pending ∧ SameMemory s t)

/-- A transmitter that sends starts a waiting control packet once what it sends has ended, and keeps the line for 28 + 12 × LENGTH tck with the packet's
code groups (R19, R338, R343); of a data and a management packet the plane that did not go last goes; with nothing waiting nothing starts. A whole
packet, its CRC right, to the node's own address on its delivering port joins the packets that wait to act; one to another address is forwarded: at once
by an idle transmitter, 48 to 64 tck after its SOP came, else through its queue. A packet with code errors counts in CODE and one with a wrong CRC in
CRC, and an aborted one is not counted; none is delivered, and the forwarded copy ends with ABORT (R337, R339 to R343). A packet whose SOP came before
the switch settled is not taken (R353). Completion: exec answers the stated next state of the command's own effect, wherever the conditions that its
clause puts on the state and the operands alone hold, for TX_PACKET_START and PACKET_RECEIVED. -/
def Obligations.PacketsStartAndArrive : Prop :=
  (∀ (x : Port) (s : State), Live s → portLives s (portNo x) = true → sends s.wrap (portNo x) = true →
    (∀ k r, (s.port (portNo x)).forward = k :: r → pktPlane k = planeControl → Answers (.txPacketStart x) s fun t =>
      (t.port (portNo x)).sending = some k ∧ (t.port (portNo x)).forward = r ∧ t.now = max s.now (max (s.port (portNo x)).sendEnd (s.port (portNo x)).setEnd) ∧
      (t.port (portNo x)).codes = (encodeGroups (s.port (portNo x)).disparity (packetGroups k)).1 ∧
      (k.aborts = false → (t.port (portNo x)).sendEnd = t.now + 28 + 12 * k.payload.length) ∧ t.ring.own = s.ring.own ∧
      t.port (otherNo (portNo x)) = s.port (otherNo (portNo x)) ∧ t.regs = s.regs) ∧
    (∀ a b, (s.port (portNo x)).forward = [a, b] → pktPlane a = planeData → pktPlane b = planeManagement → s.ring.own = [] →
      Answers (.txPacketStart x) s fun t => (t.port (portNo x)).sending = some (if (s.port (portNo x)).lastMgmt then a else b) ∧
        (t.port (portNo x)).lastMgmt = !(s.port (portNo x)).lastMgmt) ∧
    ((s.port (portNo x)).forward = [] → s.ring.own = [] →
      exec (.txPacketStart x) s = .next (s.elapseTo (max (s.port (portNo x)).sendEnd (s.port (portNo x)).setEnd)))) ∧
  (∀ (x : Port) (k : Packet) (ago : BitVec 16) (s : State), Live s → portLives s (portNo x) = true → s.link (portNo x) = linkUp → s.wrap ≠ wrapListening →
    (s.now < s.ring.openedAt + ago.toNat → ∀ e, exec (.packetReceived x k ⟨e, ago⟩) s = .next s) ∧
    (s.ring.openedAt + ago.toNat ≤ s.now → pktPlane k = planeData ∨ pktPlane k = planeControl ∨ pktPlane k = planeManagement →
      reservedAddress (pktDest k) = false → pktLen k ≤ 768 →
      (goesOn s (portNo x) k = false → exec (.packetReceived x k ⟨.aborted, ago⟩) s = .next s ∧
        (∀ n : BitVec 12, exec (.packetReceived x k ⟨(.codeError n), ago⟩) s =
          .next ((s.bump (Fld.RING_ERRORS_CODE (portNo x)) (max 1 n.toNat)).set (Fld.RING_EVENTS_ERRORS (portNo x)) 1)) ∧
        (∀ c, k.payload.length = pktLen k → c ≠ packetCrc k → Answers (.packetReceived x k ⟨(.whole c), ago⟩) s fun t =>
          t.get (Fld.RING_ERRORS_CRC (portNo x)) = min (s.get (Fld.RING_ERRORS_CRC (portNo x)) + 1) (2 ^ (Fld.RING_ERRORS_CRC (portNo x)).width - 1) ∧
          t.flag (Fld.RING_EVENTS_ERRORS (portNo x)) = true ∧ t.ring = s.ring)) ∧
      (∀ y copy, goesOn s (portNo x) k = true → forwardPort s (portNo x) = some y → copy = { k with payload := k.payload.take (pktLen k), aborts := true } →
        (idleFrom s y (s.now - ago.toNat + 48) = false → queueWords s y (pktPlane k) + 1 + min (pktLen k) k.payload.length ≤ 1538 →
          exec (.packetReceived x k ⟨.aborted, ago⟩) s = .next (s.modPort y fun q => { q with forward := q.forward ++ [copy] })) ∧
        (idleFrom s y (s.now - ago.toNat + 48) = true → Answers (.packetReceived x k ⟨.aborted, ago⟩) s fun t => (t.port y).sending = some copy ∧
          s.now - ago.toNat + 48 + 16 ≤ (t.port y).wordAt ∧ (t.port y).wordAt ≤ s.now - ago.toNat + 64 + 16 ∧
          (t.port y).forward = (s.port y).forward ∧ t.regs = s.regs ∧ t.now = s.now)) ∧
      (k.payload.length = pktLen k → s.isQueen = false → pktSource k ≠ 0 → pktSource k ≠ s.addr → s.addr ≠ 0 → pktDest k ≠ broadcast →
        knownType (pktPlane k) (pktType k) = true → deliveringPort s = some (portNo x) →
        (pktDest k = s.addr → exec (.packetReceived x k ⟨(.whole (packetCrc k)), ago⟩) s = .next { s with ring := { s.ring with inbox := s.ring.inbox ++ [k] } }) ∧
        (pktDest k ≠ s.addr → ∀ y, forwardPort s (portNo x) = some y → idleFrom s y (s.now - ago.toNat + 48) = false →
          queueWords s y (pktPlane k) + 1 + k.payload.length ≤ 1538 → exec (.packetReceived x k ⟨(.whole (packetCrc k)), ago⟩) s =
            .next (s.modPort y fun q => { q with forward := q.forward ++ [k] })))))

/-- The wrap state becomes what the usable sides give on both ring pages (R347). ENABLE moves a port from OFF or STOPPING on, and from ON to STOPPING while
the bypass is not CLOSED; the time port of a core on the ring is not disabled (R354, R355). An insert write with AT_TICK out of range is refused with
cause 3; the queen's open moves at once with both ports ON and has settled within 7,680 tck, when the bypass is OPEN (R10, R352); a close without AT_EN
of an OPEN bypass moves the switch once both transmitters are between packets, the node LISTENING from then on (R353). CLEAR_ERR clears the port's error
counters (R366). Completion: exec answers the stated next state of the command's own effect, wherever the conditions that its clause puts on the state
and the operands alone hold, for WRAP_CHANGE, CLEAR_ERR, PORT_ENABLE, PORT_DISABLE, BYPASS_INSERT_WRITE, BYPASS_MOVE and BYPASS_SETTLED. -/
def Obligations.PortsWrapAndBypass : Prop :=
  (∀ s : State, Live s → Answers .wrapChange s fun t => t.wrap = wrapOf s ∧ (s.wrap = wrapOf s → t = s) ∧
    (s.wrap ≠ wrapOf s → t.get (Fld.RING_STATUS_NODE_WRAP 1) = t.wrap)) ∧
  (∀ (p : Path) (x : Port) (s : State), Live s → MayWriteBasic p (3 + portNo x) s →
    exec (.clearErr p x) s = .next (s.nextTck.setReg (Reg.RING_ERRORS (portNo x)) 0) ∧
    (s.portState (portNo x) = portOff → Answers (.portEnable p x) s fun t =>
      t.portState (portNo x) = portOn ∧ t.flag (Fld.RING_BASIC_ENABLE (portNo x)) = true ∧ SameMemory s t) ∧
    (s.portState (portNo x) = portStopping → exec (.portEnable p x) s =
      .next ((s.nextTck.set (Fld.RING_BASIC_ENABLE (portNo x)) 1).set (Fld.RING_STATUS_PORT_STATE (portNo x)) 3)) ∧
    (s.onRing = true → s.timePort = some (portNo x) → exec (.portDisable p x) s = .next (s.nextTck.set (Fld.RING_EVENTS_ENABLE_REFUSED (portNo x)) 1)) ∧
    (s.onRing = false → s.portState (portNo x) = portOn → s.bypass ≠ bypassClosed → exec (.portDisable p x) s =
      .next ((s.nextTck.set (Fld.RING_BASIC_ENABLE (portNo x)) 0).set (Fld.RING_STATUS_PORT_STATE (portNo x)) 2))) ∧
  (∀ (p : Path) (v : Word) (s : State), Live s → MayWriteBasic p 3 s →
    (192000000 ≤ bitsOf v 0 28 → exec (.bypassInsertWrite p v) s =
      .next ((s.nextTck.set Fld.RINGA_BYPASS_REFUSE_CAUSE 3).set (Fld.RING_EVENTS_BYPASS_REFUSED 0) 1)) ∧
    (bitsOf v 0 28 < 192000000 → bothOn s = false → Answers (.bypassInsertWrite p v) s fun t =>
      t.get Fld.RINGA_BYPASS_INSERT = bitsOf v 45 1 ∧ t.get Fld.RINGA_BYPASS_AT_TICK = bitsOf v 0 28 ∧ t.bypass = s.bypass ∧ OnlyRegs [Reg.RINGA_BYPASS] s.nextTck t)) ∧
  (∀ s : State, Live s → s.bypass = bypassClosed → s.flag Fld.RINGA_BYPASS_INSERT = true → waitsForTick s = false → bothOn s = true → s.isQueen = true →
    Answers .bypassMove s fun t => t.bypass = bypassOpening ∧ t.ring.settleAt = s.now + 7680 ∧ t.now = s.now ∧ SameMemory s t) ∧
  (∀ s : State, Live s → s.bypass = bypassOpening → Answers .bypassSettled s fun t =>
    t.bypass = bypassOpen ∧ t.flag (Fld.RING_EVENTS_BYPASS_CHANGED 0) = true ∧ t.now = max s.now (s.ring.settleAt - 7680 + 1) ∧ t.ring.openedAt = t.now ∧
      SameMemory s t) ∧
  (∀ s : State, Live s → s.bypass = bypassOpen → s.flag Fld.RINGA_BYPASS_INSERT = false → waitsForTick s = false → Answers .bypassMove s fun t =>
    t.bypass = bypassClosing ∧ t.wrap = wrapListening ∧ t.now = s.now ∧
    t.ring.settleAt = max s.now (max (s.port 0).sendEnd (s.port 1).sendEnd) + 7680 ∧ SameMemory s t)

/-- HIVE.SECONDS is taken for the next second by a SOURCE or FREE node and refused by any other (R365); at tick 0 of a node that is still SOURCE or FREE it
becomes the second, and else the second counts on (R35). A TIME set without a turn-round time is heard and gives no sample; with one it gives a sample
of delay and fraction, newest first, of at most 16 (R360, R361). An EPOCH set on the time port of an ALIGNED node is kept with its arrival, and one
whose check byte is wrong is ignored (R362). Completion: exec answers the stated next state of the command's own effect, wherever the conditions that
its clause puts on the state and the operands alone hold, for TIME_SET_RECEIVE, EPOCH_RECEIVE, HIVE_SECONDS_WRITE and SECOND_ROLLOVER. -/
def Obligations.HiveTimeIsSetAndReceived : Prop :=
  (∀ (p : Path) (v : BitVec 32) (s : State), Live s → s.pathOpen p 5 = true → s.locked p 5 = false → s.expert 5 = false →
    (s.timeState = timeSource ∨ s.timeState = timeFree → exec (.hiveSecondsWrite p v) s = .next { s.nextTck with secondsPending := some v.toNat }) ∧
    (s.timeState ≠ timeSource → s.timeState ≠ timeFree → exec (.hiveSecondsWrite p v) s = .next (s.nextTck.set Fld.HIVE_EVENTS_SECONDS_REFUSED 1))) ∧
  (∀ s : State, Live s → s.tick < 192000000 → exec .secondRollover s = .next { s with
    now := s.now + (192000000 - s.tick)
    tick := 0
    seconds := (match s.secondsPending with
      | none => s.seconds + 1
      | some v => if s.timeState = timeSource ∨ s.timeState = timeFree then v else s.seconds + 1) % 4294967296
    secondsPending := none }) ∧
  (∀ (x : Port) (w : Word) (sub : BitVec 8) (s : State), Live s → portLives s (portNo x) = true → s.link (portNo x) = linkUp →
    (bitsOf w 0 22 = 0x3FFFFF → exec (.timeSetReceive x w sub) s =
      .next (s.modPort (portNo x) fun q => { q with heard := some (bitsOf w 46 2, (s.hiveNow * 256 + sub.toNat) % 4194304) })) ∧
    (∀ dep, bitsOf w 0 22 ≠ 0x3FFFFF → (s.port (portNo x)).departures.head? = some (bitsOf w 44 2, dep) →
      s.flag (Fld.RING_LINK_MEASURED (portNo x)) = false → s.timePort = none → s.timeState = timeFree →
      Answers (.timeSetReceive x w sub) s fun t =>
        t.timeState = timeFree ∧ t.hiveNow = s.hiveNow ∧ RegsBut [Reg.RING_LINK (portNo x)] s t ∧
        ∃ frac, (t.port (portNo x)).samples = (Int.fdiv (((s.hiveNow * 256 + sub.toNat : Nat) - (dep : Int)) % 4194304 - (bitsOf w 0 22 : Int)) 2, frac) ::
          (s.port (portNo x)).samples.take 15)) ∧
  (∀ (x : Port) (w : Word) (s : State), Live s →
    (bitsOf w 0 8 ≠ (crc8 ((wordBytes w).take 5)).toNat → exec (.epochReceive x w) s = .next s) ∧
    (portLives s (portNo x) = true → s.link (portNo x) = linkUp → bitsOf w 0 8 = (crc8 ((wordBytes w).take 5)).toNat → bitAt w 8 = true →
      s.timePort = some (portNo x) → s.timeState = timeAligned → timeGood s (portNo x) = true →
      exec (.epochReceive x w) s = .next { s with ring := { s.ring with epoch := some (bitsOf w 16 32, bitsOf w 9 7, s.now) } }))

/-- QUEEN_EN written 1 is refused with cause RING in a core that runs on the ring, and else taken when no side is live: the node is the queen at QUEEN_ADDR
and its hive time is SOURCE (R368, R369). Written 0 it releases the role and forgets the census (R372). LEAVE sets LEAVING (R386). A write of the census
stands on a node that is not the queen, its reserved bits 0 (R7); on the queen it only frees an entry that is BOUND or GONE (R379, R401). Completion:
exec answers the stated next state of the command's own effect, wherever the conditions that its clause puts on the state and the operands alone hold,
for QUEEN_EN_WRITE, QUEEN_RELEASE, LEAVE_WRITE and CENSUS_WRITE. -/
def Obligations.QueenRoleLeavingAndCensus : Prop :=
  (∀ (p : Path) (s : State), Live s → MayWriteBasic p 5 s → s.isQueen = false →
    (s.onRing = true → exec (.queenEnWrite p) s =
      .next (((s.nextTck.set Fld.HIVE_ROLE_QUEEN_EN 0).set Fld.HIVE_STATUS_QUEEN_REFUSE 1).set Fld.HIVE_EVENTS_QUEEN_REFUSED 1)) ∧
    (s.onRing = false → liveClean s 0 = false → liveClean s 1 = false → Answers (.queenEnWrite p) s fun t =>
      t.isQueen = true ∧ t.flag Fld.HIVE_ROLE_QUEEN_EN = true ∧ t.addr = s.get Fld.HIVE_ROLE_QUEEN_ADDR ∧ t.timeState = timeSource ∧
      t.get Fld.HIVE_ALIGN_HOPS = 0 ∧ t.hiveNow = s.nextTck.hiveNow ∧ SameMemory s t) ∧
    exec (.queenRelease p) s = .next s.nextTck) ∧
  (∀ (p : Path) (s : State), Live s → MayWriteBasic p 5 s → s.isQueen = true → Answers (.queenRelease p) s fun t =>
    t.isQueen = false ∧ t.flag Fld.HIVE_ROLE_QUEEN_EN = false ∧ t.hive.census = [] ∧ t.addr = s.addr ∧ SameMemory s t) ∧
  (∀ (p : Path) (s : State), Live s → s.pathOpen p 5 = true → s.expert 5 = false →
    exec (.leaveWrite p) s = .next { s.nextTck.set Fld.HIVE_STATUS_LEAVING 1 with hive := { s.nextTck.hive with leaveSent := false } }) ∧
  (∀ (n : Fin 388) (v : Word) (s : State), Live s → s.get Fld.CLOCK_POWER_STATE ≠ 3 →
    (s.isQueen = false → exec (.censusWrite n v) s =
      .next (s.nextTck.putCensus (n.val / 4) (n.val % 4) (if n.val % 4 = 0 then v &&& 0xFFFFFFFFE000 else v))) ∧
    (s.isQueen = true → n.val % 4 = 0 → bitsOf v 45 3 = 0 → (s.entState (n.val / 4) = entBound ∨ s.entState (n.val / 4) = entGone) →
      exec (.censusWrite n v) s = .next (s.nextTck.putCensus (n.val / 4) 0 (withBits (s.nextTck.census (n.val / 4) 0) 45 3 0))) ∧
    (s.isQueen = true → (n.val % 4 ≠ 0 ∨ bitsOf v 45 3 ≠ 0 ∨ s.entState (n.val / 4) = entPresent ∨ s.entState (n.val / 4) = entFree) →
      exec (.censusWrite n v) s = .next s.nextTck))

/-- The queen's BEACON goes to every node on a 10 ms tick with EPOCH, SIV and CUR (R380); a node of the same EPOCH answers it with PRESENT 64 + ADDR × 2,048
tck after its tick, which the queen records in the census. An entry silent for GONE_N periods becomes GONE, as one that sends LEAVE does (R381, R387). A
JOIN of an unknown unit while ADMIT holds joining back is answered with address 0 and flagged, and else takes the lowest free address (R377); an ASSIGN
for another unit is dropped, and one for this unit gives an unaddressed node with nothing in flight its address and EPOCH (R378). Completion: exec
answers the stated next state of the command's own effect, wherever the conditions that its clause puts on the state and the operands alone hold, for
BEACON_SEND, BEACON_RECEIVE, PRESENT_SEND, PRESENT_RECEIVE, JOIN_SEND, JOIN_RECEIVE, ASSIGN_RECEIVE, NODE_GONE, LEAVE_SEND and LEAVE_RECEIVE. -/
def Obligations.PresenceJoiningAndLeaving : Prop :=
  (∀ s : State, Live s → s.isQueen = true → MaySend broadcast s → s.tick < 192000000 → Answers .beaconSend s fun t =>
    t.tick % 1920000 = 0 ∧ t.hive.beaconSent = some t.now ∧ t.regs = s.regs ∧
    t.ring.own = s.ring.own ++ [mkPacket broadcast s.addr planeControl 8 0
      [packWord [(32, 16, s.get Fld.HIVE_STATUS_EPOCH), (16, 16, s.get Fld.HIVE_ROLE_SIV), (12, 4, s.get Fld.HIVE_MODE_CUR)]]]) ∧
  (∀ (k : Packet) (r : List Packet) (s : State), Live s → Arrived planeControl 8 k r s → s.isQueen = false → s.addr ≠ 0 →
    bitsOf (pktWord k 0) 32 16 = s.get Fld.HIVE_STATUS_EPOCH → Answers .beaconReceive s fun t =>
      t.get Fld.HIVE_MODE_HIVE_SIV = bitsOf (pktWord k 0) 16 16 ∧ t.hive.beaconFrom = some (pktSource k) ∧ t.ring.inbox = r ∧
      t.hive.presentAt = some (s.hiveNow - s.tick % 1920000 + 64 + s.addr * 2048) ∧ t.ring.own = s.ring.own ∧ RegsBut [Reg.HIVE_MODE] s t) ∧
  (∀ (due : Nat) (s : State), Live s → s.hive.presentAt = some due → MaySend s.queenOf s → Answers .presentSend s fun t =>
    t.hive.presentAt = none ∧ t.now = s.now + (due - s.hiveNow) ∧ t.regs = s.regs ∧ t.ring.own = s.ring.own ++ [mkPacket s.queenOf s.addr planeControl 0x24 0
      [packWord [(44, 4, s.get Fld.HIVE_MODE_CUR), (35, 9, s.events.queued.length + s.events.flight.length)]]]) ∧
  (∀ (k : Packet) (r : List Packet) (s : State), Live s → Arrived planeControl 0x24 k r s → s.isQueen = true → s.bound (pktSource k) = true →
    exec .presentReceive s = .next ((s.withInbox r).putCensus (pktSource k) 0
      (withBits (s.census (pktSource k) 0) 40 4 (bitsOf (pktWord k 0) 44 4)))) ∧
  (∀ (a : Fin 97) (s : State), Live s → s.isQueen = true → s.bound a = true → s.entState a ≠ entGone → a.val ≠ s.addr →
    s.get Fld.HIVE_ROLE_GONE_N ≤ Table.get (fun _ => 0) s.hive.silent a → Answers (.nodeGone a) s fun t =>
      t.entState a = entGone ∧ t.flag Fld.HIVE_EVENTS_NODE_GONE = true ∧ (∀ h ∈ t.hive.held, h.peer ≠ a.val) ∧
      (∀ b, b ≠ a.val → t.census b 0 = s.census b 0) ∧ RegsBut [Reg.HIVE_EVENTS, Reg.HIVE_GONE] s t) ∧
  (∀ s : State, Live s → s.addr = 0 → s.timeState = timeAligned → s.bypass = bypassOpen → s.hive.beaconFrom.isSome = true → s.isQueen = false →
    s.hive.joinSent = none → s.wrap ≠ wrapIsolated → Answers .joinSend s fun t =>
      t.hive.joinSent = some t.hiveNow ∧ t.now = s.now ∧ t.ring.own = s.ring.own ++ [joinPacket s s.hive.queueKept] ∧ t.regs = s.regs) ∧
  (∀ (k : Packet) (r : List Packet) (s : State), Live s → Arrived planeControl 0x23 k r s → s.isQueen = true → MaySend broadcast s →
    boundTo s (k.payload.take 3) = none → s.flag Fld.HIVE_ROLE_ADMIT = true → Answers .joinReceive s fun t =>
      t.flag Fld.HIVE_EVENTS_JOIN_PENDING = true ∧ t.ring.inbox = r ∧
      t.ring.own = s.ring.own ++ [mkPacket broadcast s.addr planeControl 0x11 0
        (idWords (k.payload.take 3) ++ [packWord [(41, 7, 0), (40, 1, 1), (24, 16, s.get Fld.HIVE_STATUS_EPOCH)]])] ∧
      (∀ a, a ≠ 0 → ∀ i, i < 4 → t.census a i = s.census a i) ∧ RegsBut [Reg.HIVE_EVENTS] s t) ∧
  (∀ (k : Packet) (r : List Packet) (s : State), Live s → Arrived planeControl 0x23 k r s → s.isQueen = true → MaySend broadcast s →
    boundTo s (k.payload.take 3) = none → s.flag Fld.HIVE_ROLE_ADMIT = false → ∀ a, freeAddress s = some a → Answers .joinReceive s fun t =>
      t.entState a = entBound ∧ t.flag Fld.HIVE_EVENTS_NODE_JOINED = true ∧ t.census a 1 = pktWord k 0 ∧ t.census a 2 = pktWord k 1 ∧
      t.sendSeqOf a = 0 ∧ t.nextSeqOf a = 0 ∧ t.ring.own = s.ring.own ++ [mkPacket broadcast s.addr planeControl 0x11 0
        (idWords (k.payload.take 3) ++ [packWord [(41, 7, a), (40, 1, 1), (24, 16, s.get Fld.HIVE_STATUS_EPOCH)]])] ∧
      RegsBut [Reg.HIVE_EVENTS] s t) ∧
  (∀ (k : Packet) (r : List Packet) (s : State), Live s → Arrived planeControl 0x11 k r s →
    (sameUnit s.unitId (k.payload.take 3) = false → exec .assignReceive s = .next (s.withInbox r)) ∧
    (sameUnit s.unitId (k.payload.take 3) = true → bitsOf (pktWord k 3) 41 7 ≠ 0 → bitAt (pktWord k 3) 40 = true → s.addr = 0 →
      s.events.flight = [] → Answers .assignReceive s fun t =>
        t.addr = bitsOf (pktWord k 3) 41 7 ∧ t.get Fld.HIVE_STATUS_EPOCH = bitsOf (pktWord k 3) 24 16 ∧ t.flag Fld.HIVE_EVENTS_JOINED = true ∧
        t.sendSeqOf 0 = 0 ∧ t.nextSeqOf 0 = 0 ∧ t.ring.inbox = r ∧ RegsBut [Reg.HIVE_ROLE, Reg.HIVE_STATUS, Reg.HIVE_EVENTS] s t)) ∧
  (∀ s : State, Live s → s.flag Fld.HIVE_STATUS_LEAVING = true → s.events.flight = [] → s.hive.leaveSent = false → MaySend s.queenOf s →
    exec .leaveSend s = .next ({ s with hive := { s.hive with leaveSent := true } }.sent (mkPacket s.queenOf s.addr planeControl 0x25 0
      [packWord [(28, 1, s.get Fld.RINGA_BYPASS_AT_EN), (0, 28, s.get Fld.RINGA_BYPASS_AT_TICK)]]))) ∧
  (∀ (k : Packet) (r : List Packet) (s : State), Live s → Arrived planeControl 0x25 k r s → s.isQueen = true → s.bound (pktSource k) = true →
    Answers .leaveReceive s fun t => t.entState (pktSource k) = entGone ∧ t.ring.inbox = r ∧ t.flag Fld.HIVE_EVENTS_NODE_GONE = true ∧
      RegsBut [Reg.HIVE_EVENTS, Reg.HIVE_GONE] s t)

/-- A DISPLAY packet with the number that is expected writes its words to memory, moves NEXT on and is acknowledged; a duplicate is acknowledged alone; one
that lies ahead is dropped (R389, R390, R392). EVENTS acts on the queen only, into the receive ring (R400). An ACK frees what it covers (R391, R393),
and one that is owed goes out with the number expected next (R390). Unacknowledged packets go out again 38,400 tck after the last progress (R391), and
up to 32 queued events leave the queue in one packet and stay IN_FLIGHT (R393). Completion: exec answers the stated next state of the command's own
effect, wherever the conditions that its clause puts on the state and the operands alone hold, for EVENTS_PACKET_FORM, DISPLAY, EVENTS, ACK, ACK_SEND
and RETRANSMIT. -/
def Obligations.DataPlaneSequencesAndAcknowledges : Prop :=
  (∀ (k : Packet) (w : Word) (ws : List Word) (r : List Packet) (s : State), Live s → Arrived planeData 1 k r s → k.payload = w :: ws →
    (pktSeq k = s.nextSeqOf (s.peerKey (pktSource k)) → bitsOf w 26 22 + ws.length ≤ 4194304 → Answers .display s fun t =>
        (∀ a, t.memRaw a = (memWriteRun (s.withInbox r) (bitsOf w 26 22) ws).memRaw a) ∧
        (∀ a, a < bitsOf w 26 22 ∨ bitsOf w 26 22 + ws.length ≤ a → t.memRaw a = s.memRaw a) ∧
        t.nextSeqOf (s.peerKey (pktSource k)) = (s.nextSeqOf (s.peerKey (pktSource k)) + 1) % 4096 ∧ pktSource k ∈ t.hive.acks ∧ t.ring.inbox = r) ∧
    (s.nextSeqOf (s.peerKey (pktSource k)) = (pktSeq k + 1) % 4096 → pktSource k ∉ s.hive.acks →
      exec .display s = .next { s.withInbox r with hive := { s.hive with acks := s.hive.acks ++ [pktSource k] } }) ∧
    (pktSeq k = (s.nextSeqOf (s.peerKey (pktSource k)) + 1) % 4096 → exec .display s = .next (s.withInbox r))) ∧
  (∀ (k : Packet) (r : List Packet) (s : State), Live s → Arrived planeData 3 k r s →
    (s.isQueen = false → exec .events s = .next (s.withInbox r)) ∧
    (s.isQueen = true → pktSeq k = s.nextSeqOf (pktSource k) → rxFits s k = true → Answers .events s fun t =>
      t.get Fld.HIVE_RX_HEAD = (s.get Fld.HIVE_RX_HEAD + 1 + k.payload.length) % 16384 ∧
      t.nextSeqOf (pktSource k) = (s.nextSeqOf (pktSource k) + 1) % 4096 ∧ pktSource k ∈ t.hive.acks ∧ t.ring.inbox = r)) ∧
  (∀ (k : Packet) (r : List Packet) (s : State), Live s → Arrived planeData 2 k r s → s.isQueen = true → pktSource k ≠ 0 → Answers .ack s fun t =>
    (∀ h, h ∈ t.hive.held ↔ h ∈ s.hive.held ∧ ¬ (h.peer = pktSource k ∧ 0 < (bitsOf (pktWord k 0) 0 12 + 4096 - h.seq) % 4096 ∧
      (bitsOf (pktWord k 0) 0 12 + 4096 - h.seq) % 4096 ≤ 2048)) ∧ t.ring.inbox = r ∧ t.regs = s.regs ∧ t.events = s.events) ∧
  (∀ (a : Nat) (r : List Nat) (s : State), Live s → s.hive.acks = a :: r → MaySend a s →
    exec .ackSend s = .next ({ s with hive := { s.hive with acks := r } }.sent
      (mkPacket a s.addr planeData 2 0 [packWord [(0, 12, s.nextSeqOf (s.peerKey a))]]))) ∧
  (∀ (a : Fin 97) (h : Held) (s : State), Live s → s.heldOf a = [h] → h.packet ∉ s.ring.own → MaySend (pktDest h.packet) s → Answers (.retransmit a) s fun t =>
    t.now = max s.now (Table.get (fun _ => 0) s.hive.ackClock a + 38400) ∧ t.ring.own = s.ring.own ++ [h.packet] ∧
    Table.get (fun _ => 0) t.hive.ackClock a = t.now ∧ t.regs = s.regs ∧ t.hive.held = s.hive.held) ∧
  (∀ s : State, Live s → s.flag Fld.EVENT_BASIC_RING_EN = true → s.addr ≠ 0 → s.flag Fld.HIVE_STATUS_LEAVING = false → s.isQueen = false →
    (s.heldOf 0).length < 16 → (deliveringPort s).isSome = true → Answers .eventsPacketForm s fun t =>
      t.events.queued = s.events.queued.drop 32 ∧
      t.events.flight = s.events.flight ++ (s.events.queued.take 32).map (fun e => (s.sendSeqOf 0, e)) ∧
      (s.events.queued ≠ [] → t.sendSeqOf 0 = (s.sendSeqOf 0 + 1) % 4096) ∧ t.regs = s.regs)

/-- A submission through HIVE.TX_CTRL by a node that is not the queen ends with RESULT 4 and sends nothing (R399); without SUBMIT the write only sets the
register. A submission that waited for the quiet window's end is queued then (R387). Completion: exec answers the stated next state of the command's own
effect, wherever the conditions that its clause puts on the state and the operands alone hold, for TX_SUBMIT and QUIET_WINDOW_END. -/
def Obligations.SubmissionsAndTheQuietWindow : Prop :=
  (∀ (p : Path) (v : Word) (f : Option (BitVec 32)) (s : State), Live s → s.pathOpen p 5 = true → s.expert 5 = false →
    (bitAt v 0 = false → Answers (.txSubmit p v f) s fun t => t.get Fld.HIVE_TX_CTRL_TILE = bitsOf v Fld.HIVE_TX_CTRL_TILE.lo 12 ∧
      OnlyRegs [Reg.HIVE_TX_CTRL] s.nextTck t) ∧
    (bitAt v 0 = true → s.flag Fld.HIVE_TX_STAT_BUSY = false → s.isQueen = false → Answers (.txSubmit p v f) s fun t =>
      t.get Fld.HIVE_TX_STAT_RESULT = 4 ∧ OnlyRegs [Reg.HIVE_TX_CTRL, Reg.HIVE_TX_STAT] s.nextTck t)) ∧
  (∀ (a b : Nat) (s : State), Live s → s.hive.quiet = some (a, b) → s.hive.txWaiting = none → Answers .quietWindowEnd s fun t =>
    t.hive.quiet = none ∧ t.now = max s.now b ∧ t.regs = s.regs ∧ t.ring = s.ring) ∧
  (∀ (a b : Nat) (k : Packet) (s : State), Live s → s.hive.quiet = some (a, b) → s.hive.txWaiting = some k → sequenced k = false →
    pktPlane k = planeManagement → MaySend (pktDest k) s → Answers .quietWindowEnd s fun t =>
      t.hive.quiet = none ∧ t.hive.txWaiting = none ∧ t.flag Fld.HIVE_TX_STAT_BUSY = false ∧ t.ring.own = s.ring.own ++ [k] ∧
      t.now = max s.now b ∧ RegsBut [Reg.HIVE_TX_STAT] s t)

/-- ARM names mode, transaction and tick of a preparation (R395): a mode that the table does not hold is found at once; a preparation that ends without a
cause arms the node and is answered with cause 0, and one with a cause leaves it UNARMED. COMMIT makes a lagging node of the transaction prepare again;
REVERT cancels an arming of its transaction; the commit tick that passes an UNARMED node makes it lag. MODE_REPORT goes out at its time; the queen
records ARMED and MODE_REPORT in the census (R397). BLINK, DIM, HIVE_RESET and ACTIVATE are scheduled, the last one in place of an earlier (R398), and
act when due: a HIVE_RESET begins a hive reset on its tick (R417). Completion: exec answers the stated next state of the command's own effect, wherever
the conditions that its clause puts on the state and the operands alone hold, for ARM, ARM_PREPARED, COMMIT, REVERT, COMMIT_TICK_PASS, MODE_REPORT_SEND,
ARMED_RECEIVE, WAGGLE_SCHEDULE and WAGGLE_APPLY. -/
def Obligations.ModeCommitsAndWaggles : Prop :=
  (∀ (k : Packet) (r : List Packet) (s : State), Live s → Arrived planeControl 1 k r s → s.addr ≠ 0 →
    s.armState = armIdle → bitAt (s.modeEntry (bitsOf (pktWord k 0) 12 4)) 46 = false → Answers .arm s fun t =>
      t.armState = armPreparing ∧ t.get Fld.HIVE_MODE_TARGET = bitsOf (pktWord k 0) 12 4 ∧ t.get Fld.HIVE_MODE_TXN = bitsOf (pktWord k 0) 0 12 ∧
      t.hive.arming.time = some (pairTime k) ∧ t.hive.txnMode = bitsOf (pktWord k 0) 12 4 ∧ t.ring.inbox = r ∧
      (bitAt (s.modeEntry (bitsOf (pktWord k 0) 12 4)) 47 = false → t.hive.early = 1) ∧ RegsBut [Reg.HIVE_MODE] s t) ∧
  (∀ s : State, Live s → s.armState = armPreparing → stillPreparing s = false → MaySend s.queenOf s →
    (prepareCause s = 0 → Answers .armPrepared s fun t => t.armState = armArmed ∧ t.get Fld.HIVE_MODE_CAUSE = 0 ∧
      t.ring.own = s.ring.own ++ [mkPacket s.queenOf s.addr planeControl 0x21 0
        [packWord [(44, 4, 0), (12, 4, s.get Fld.HIVE_MODE_TARGET), (0, 12, s.get Fld.HIVE_MODE_TXN)]]] ∧ RegsBut [Reg.HIVE_MODE] s t) ∧
    (prepareCause s ≠ 0 → Answers .armPrepared s fun t => t.armState = armUnarmed ∧ t.flag Fld.HIVE_EVENTS_ARM_REFUSED = true ∧
      RegsBut [Reg.HIVE_MODE, Reg.HIVE_EVENTS] s t)) ∧
  (∀ (k : Packet) (r : List Packet) (s : State), Live s → Arrived planeControl 2 k r s →
    (s.armState ≠ armLag ∨ bitsOf (pktWord k 0) 0 12 ≠ s.get Fld.HIVE_MODE_TXN → exec .commit s = .next (s.withInbox r)) ∧
    (s.armState = armLag → bitsOf (pktWord k 0) 0 12 = s.get Fld.HIVE_MODE_TXN → bitAt (s.modeEntry (s.get Fld.HIVE_MODE_TARGET)) 46 = false →
      Answers .commit s fun t => t.armState = armLagPreparing ∧ t.hive.arming.time = none ∧ t.ring.inbox = r ∧ RegsBut [Reg.HIVE_MODE] s t)) ∧
  (∀ (k : Packet) (r : List Packet) (s : State), Live s → Arrived planeControl 3 k r s →
    (bitsOf (pktWord k 0) 0 12 ≠ s.get Fld.HIVE_MODE_TXN → exec .revert s = .next (s.withInbox r)) ∧
    (bitsOf (pktWord k 0) 0 12 = s.get Fld.HIVE_MODE_TXN → s.addr ≠ 0 → s.armState = armUnarmed → Answers .revert s fun t =>
      t.armState = armIdle ∧ t.hive.arming.time = none ∧ t.flag Fld.HIVE_EVENTS_MODE_LAG = false ∧
      t.hive.reportAt = some (s.hiveNow + 64 + s.addr * 2048) ∧ RegsBut [Reg.HIVE_MODE, Reg.HIVE_EVENTS] s t)) ∧
  (∀ (due : Nat) (s : State), Live s → s.hive.arming.time = some due → s.armState = armUnarmed → Answers .commitTickPass s fun t =>
    t.armState = armLag ∧ t.flag Fld.HIVE_EVENTS_MODE_LAG = true ∧ t.hive.reportAt = some (due + 64 + s.addr * 2048) ∧
    RegsBut [Reg.HIVE_MODE, Reg.HIVE_EVENTS] s t) ∧
  (∀ (due : Nat) (s : State), Live s → s.hive.reportAt = some due → MaySend s.queenOf s → Answers .modeReportSend s fun t =>
    t.hive.reportAt = none ∧ t.now = s.now + (due - s.hiveNow) ∧ t.regs = s.regs ∧ t.ring.own = s.ring.own ++ [mkPacket s.queenOf s.addr planeControl 0x22 0
      [packWord [(44, 4, s.get Fld.HIVE_MODE_CUR), (40, 4, s.get Fld.HIVE_MODE_PREV), (39, 1, b2n (decide (armLag ≤ s.armState))),
        (35, 4, s.get Fld.HIVE_MODE_CAUSE), (0, 12, s.get Fld.HIVE_MODE_TXN)]]]) ∧
  (∀ (k : Packet) (r : List Packet) (s : State), Live s → Arrived planeControl 0x21 k r s → s.isQueen = true → s.bound (pktSource k) = true →
    bitsOf (pktWord k 0) 0 12 = s.get Fld.HIVE_MODE_CENSUS_TXN → bitsOf (pktWord k 0) 44 4 ≠ 0 → exec .armedReceive s =
      .next ((s.withInbox r).putCensus (pktSource k) 0 (withBits (withBits (s.census (pktSource k) 0) 37 3 2) 33 4 (bitsOf (pktWord k 0) 44 4)))) ∧
  (∀ (k : Packet) (r : List Packet) (s : State), Live s → Arrived planeControl 6 k r s → Answers .waggleSchedule s fun t =>
    t.hive.hiveReset = some (pairTime k) ∧ t.ring.inbox = r ∧ (pairTime k < s.hiveNow → t.flag Fld.HIVE_EVENTS_WAGGLE_LATE = true) ∧
    RegsBut [Reg.HIVE_EVENTS] s t) ∧
  (∀ (due : Nat) (s : State), Live s → s.hive.hiveReset = some due → s.commit.last ≠ some s.now → s.inHold = false → Answers .waggleApply s fun t =>
    2 ∈ t.clock.sources ∧ t.hive.hiveReset = none ∧ t.comb.cells = [] ∧ SameExternal s t)

/-- A REG_READ of COUNT 0 or of a reserved MODE is answered with STATUS 6 and touches no register, and one to the broadcast address is dropped; one of a
single register that exists is answered with its word (R86 to R88). A REG_WRITE of a single register acts as the write of it from the ring, on the tck
after it is taken, and is answered with the code of the problem it met, 0 for none, but to a broadcast; one of two registers presents the first, and the
second with the next command (R89). A TELEM_READ of one register set takes the registers of the set in one tck; the answer goes out with the TELEM_RESP
command, a broadcast's 64 + ADDR × 2,048 tck after the request (R90). Completion: exec answers the stated next state of the command's own effect,
wherever the conditions that its clause puts on the state and the operands alone hold, for REG_READ, REG_WRITE, TELEM_READ and TELEM_RESP. -/
def Obligations.RegisterAndTelemetryRequests : Prop :=
  (∀ (k : Packet) (r : List Packet) (s : State), Live s → s.ring.request = none → Arrived planeManagement 1 k r s →
    (pktDest k = broadcast → exec .regRead s = .next (s.withInbox r)) ∧
    (pktDest k ≠ broadcast → bitsOf (pktWord k 0) 32 8 = 0 → MaySend (pktSource k) s → exec .regRead s = .next ((s.withInbox r).sent
      (mkPacket (pktSource k) s.addr planeManagement 0x21 (pktSeq k) [withBits (pktWord k 0) 40 8 6]))) ∧
    (pktDest k ≠ broadcast → bitsOf (pktWord k 0) 32 8 = 1 → bitsOf (pktWord k 0) 24 2 < 2 → k.payload.length = 1 → MaySend (pktSource k) s →
      isWindow (bitsOf (pktWord k 0) 0 14) = false → bitsOf (pktWord k 0) 0 14 ≠ Reg.EVENT_POP → s.inHold = false →
      exec .regRead s = .next ((s.withInbox r).nextTck.sent (mkPacket (pktSource k) s.addr planeManagement 0x21 (pktSeq k)
        [withBits (pktWord k 0) 40 8 0, regView (s.withInbox r).nextTck .ring (bitsOf (pktWord k 0) 0 14)])))) ∧
  (∀ (k : Packet) (r : List Packet) (v : Word) (s : State), Live s → s.ring.request = none → Arrived planeManagement 2 k r s →
    bitsOf (pktWord k 0) 24 2 < 2 →
    (∀ t, bitsOf (pktWord k 0) 32 8 = 1 → k.payload = [pktWord k 0, v] →
      t = (serveWrite .ring (bitsOf (pktWord k 0) 0 14) v (s.withInbox r).nextTck).keepQueue s →
      (pktDest k = broadcast → exec .regWrite s = .next { t with ring := { t.ring with request := none } }) ∧
      (pktDest k ≠ broadcast → MaySend (pktSource k) t → exec .regWrite s = .next ({ t with ring := { t.ring with request := none } }.sent
        (mkPacket (pktSource k) t.addr planeManagement 0x22 (pktSeq k)
          [withBits (pktWord k 0) 40 8 (writeProblem (s.withInbox r).nextTck .ring (bitsOf (pktWord k 0) 0 14) v)])))) ∧
    (∀ (u : Word) (t : State), bitsOf (pktWord k 0) 32 8 = 2 → k.payload = [pktWord k 0, v, u] →
      t = (serveWrite .ring (bitsOf (pktWord k 0) 0 14) v (s.withInbox r).nextTck).keepQueue s → exec .regWrite s = .next { t with ring := { t.ring with
        request := some ⟨k, true, 1, writeProblem (s.withInbox r).nextTck .ring (bitsOf (pktWord k 0) 0 14) v, []⟩ } })) ∧
  (∀ (q : RegRequest) (s : State), Live s → s.ring.request = some q → q.write = true → bitsOf (pktWord q.packet 0) 32 8 = q.next + 1 →
    pktDest q.packet = broadcast → ∀ t, t = (serveWrite .ring (requestAddr (pktWord q.packet 0) q.next) (pktWord q.packet (q.next + 1)) s.nextTck).keepQueue s →
    exec .regWrite s = .next { t with ring := { t.ring with request := none } }) ∧
  (∀ (k : Packet) (r : List Packet) (s : State), Live s → Arrived planeManagement 3 k r s → k.payload.length = 1 →
    bitsOf (pktWord k 0) 32 8 = 2 → (pktDest k = broadcast → s.addr ≠ 0) → Answers .telemRead s fun t =>
      ∃ a, t.hive.answers = s.hive.answers ++ [a] ∧ a.due = (if pktDest k = broadcast then some (s.now + 64 + s.addr * 2048) else none) ∧
        pktType a.packet = 0x23 ∧ pktSeq a.packet = pktSeq k ∧ pktDest a.packet = pktSource k ∧
        a.packet.payload = packWord [(40, 8, 0), (32, 8, 2), (24, 8, 8)] ::
          [Reg.RING_STATUS 0, Reg.RING_ERRORS 0, Reg.RING_LINK 0, Reg.RING_STATUS 1, Reg.RING_ERRORS 1, Reg.RING_LINK 1, Reg.HIVE_ALIGN,
            Reg.HIVE_TICK].map (regView (s.withInbox r).nextTck .ring) ∧ t.regs = s.regs ∧ t.ring.inbox = r) ∧
  (∀ (a : Answer) (r : List Answer) (s : State), Live s → s.hive.answers = a :: r → MaySend (pktDest a.packet) s →
    (a.due = none → exec .telemResp s = .next ({ s with hive := { s.hive with answers := r } }.sent a.packet)) ∧
    (∀ d, a.due = some d → r = [] → Answers .telemResp s fun t => t.now = max s.now d ∧ t.hive.answers = [] ∧
      t.ring.own = s.ring.own ++ [a.packet] ∧ t.regs = s.regs))

/-- While a hive reset holds the block none of these acts (R417). A sample is taken on the next multiple of 192 hive ticks and shown in VSUP; SAG_N
consecutive samples below SAG_THR enter SAG with the sag plan 16 tck later, a sample of at least RECOVER_THR with the mains in step enters RECOVERING,
and a lower one falls back (R316, R318, R319). An edge of the selected polarity at least 1 ms after the last is a crossing (R317). A missing half-cycle
enters SAG or falls back to it, and the eighth in a row clears ZC_LOCK (R317, R318). The recovery timer ends RECOVERING (R318, R320). Completion: exec
answers the stated next state of the command's own effect, wherever the conditions that its clause puts on the state and the operands alone hold, for
VSUP_SAMPLE, ZC_EDGE, ZC_MISSING and RECOVERED. -/
def Obligations.SupplyAndMainsMonitors : Prop :=
  (∀ (v : BitVec 12) (rising : Bool) (s : State), Live s → s.heldInReset 2 = true → exec (.vsupSample v) s = .next s ∧
    exec (.zcEdge rising) s = .next s ∧ exec .zcMissing s = .next s ∧ exec .recovered s = .next s) ∧
  (∀ (v : BitVec 12) (s : State), Live s → s.heldInReset 2 = false → Answers (.vsupSample v) s fun t =>
    t.get Fld.LEDGER_STATUS_VSUP = v.toNat ∧ t.now = s.now + s.toNextGrid 192 s.ledger.lastSample ∧ t.ledger.lastSample = some t.now ∧
    t.ledger.lowRun = (if v.toNat < s.get Fld.LEDGER_MON_SAG_THR then s.ledger.lowRun + 1 else 0) ∧
    (s.get Fld.LEDGER_STATUS_SUP_STATE = 0 → v.toNat < s.get Fld.LEDGER_MON_SAG_THR → s.get Fld.LEDGER_MON_SAG_N ≤ s.ledger.lowRun + 1 →
      t.get Fld.LEDGER_STATUS_SUP_STATE = 1 ∧ t.flag Fld.LEDGER_EVENTS_SAG = true ∧
      (s.flag Fld.LEDGER_STATUS_SAG_PLAN = false → t.ledger.sagFrom = some (t.now + 16))) ∧
    (s.get Fld.LEDGER_STATUS_SUP_STATE = 0 → (s.get Fld.LEDGER_MON_SAG_THR ≤ v.toNat ∨ s.ledger.lowRun + 1 < s.get Fld.LEDGER_MON_SAG_N) →
      t.get Fld.LEDGER_STATUS_SUP_STATE = 0 ∧ RegsBut [Reg.LEDGER_STATUS] s t) ∧
    (s.get Fld.LEDGER_STATUS_SUP_STATE = 1 → s.get Fld.LEDGER_MON_RECOVER_THR ≤ v.toNat →
      (s.flag Fld.LEDGER_MON_ZC_EN = false ∨ s.flag Fld.LEDGER_STATUS_ZC_LOCK = true) →
      t.get Fld.LEDGER_STATUS_SUP_STATE = 2 ∧ t.ledger.recoverStart = t.now) ∧
    (s.get Fld.LEDGER_STATUS_SUP_STATE = 1 → v.toNat < s.get Fld.LEDGER_MON_RECOVER_THR → t.get Fld.LEDGER_STATUS_SUP_STATE = 1) ∧
    (s.get Fld.LEDGER_STATUS_SUP_STATE = 2 → v.toNat < s.get Fld.LEDGER_MON_RECOVER_THR → t.get Fld.LEDGER_STATUS_SUP_STATE = 1) ∧
    (s.get Fld.LEDGER_STATUS_SUP_STATE = 2 → s.get Fld.LEDGER_MON_RECOVER_THR ≤ v.toNat → t.get Fld.LEDGER_STATUS_SUP_STATE = 2) ∧
    RegsBut [Reg.LEDGER_STATUS, Reg.LEDGER_EVENTS] s t ∧ SameMemory s t) ∧
  (∀ (rising : Bool) (s : State), Live s → s.heldInReset 2 = false →
    (s.flag Fld.LEDGER_MON_ZC_EN = false ∨ rising = s.flag Fld.LEDGER_MON_ZC_POL → exec (.zcEdge rising) s = .next s) ∧
    (∀ c : Nat, s.ledger.lastCross = some c → s.now < c + 192000 → exec (.zcEdge rising) s = .next s) ∧
    (∀ c : Nat, s.flag Fld.LEDGER_MON_ZC_EN = true → rising ≠ s.flag Fld.LEDGER_MON_ZC_POL → s.ledger.lastCross = some c → c + 192000 ≤ s.now →
      Answers (.zcEdge rising) s fun t => t.ledger.lastCross = some s.now ∧ t.ledger.missing = 0 ∧
        t.ledger.intervals = ((s.now - c) :: s.ledger.intervals).take 8 ∧
        (zcAgree (s.get Fld.LEDGER_MON_ZC_SLACK) t.ledger.intervals = true → t.flag Fld.LEDGER_STATUS_ZC_LOCK = true) ∧
        (zcAgree (s.get Fld.LEDGER_MON_ZC_SLACK) t.ledger.intervals = false → t.regs = s.regs) ∧ RegsBut [Reg.LEDGER_STATUS] s t)) ∧
  (∀ s : State, Live s → s.heldInReset 2 = false →
    (s.flag Fld.LEDGER_STATUS_ZC_LOCK = false ∨ s.flag Fld.LEDGER_MON_ZC_EN = false → exec .zcMissing s = .next s) ∧
    (s.flag Fld.LEDGER_STATUS_ZC_LOCK = true → s.flag Fld.LEDGER_MON_ZC_EN = true → Answers .zcMissing s fun t =>
      t.now = max s.now (s.ledger.lastHalf + zcPeriod s + 19200 * s.get Fld.LEDGER_MON_ZC_SLACK) ∧
      t.flag Fld.LEDGER_EVENTS_ZC_MISSING = true ∧ t.ledger.missing = s.ledger.missing + 1 ∧ t.ledger.lastHalf = t.now ∧
      (s.get Fld.LEDGER_STATUS_SUP_STATE < 3 → t.get Fld.LEDGER_STATUS_SUP_STATE = 1) ∧
      (s.get Fld.LEDGER_STATUS_SUP_STATE = 0 → t.flag Fld.LEDGER_EVENTS_SAG = true) ∧
      (8 ≤ s.ledger.missing + 1 → t.flag Fld.LEDGER_STATUS_ZC_LOCK = false ∧ t.flag Fld.LEDGER_EVENTS_ZC_LOST = true) ∧
      (s.ledger.missing + 1 < 8 → t.flag Fld.LEDGER_STATUS_ZC_LOCK = true ∧
        t.flag Fld.LEDGER_EVENTS_ZC_LOST = s.flag Fld.LEDGER_EVENTS_ZC_LOST) ∧
      RegsBut [Reg.LEDGER_STATUS, Reg.LEDGER_EVENTS] s t ∧ SameMemory s t)) ∧
  (∀ s : State, Live s → s.heldInReset 2 = false →
    (s.get Fld.LEDGER_STATUS_SUP_STATE ≠ 2 → exec .recovered s = .next s) ∧
    (s.get Fld.LEDGER_STATUS_SUP_STATE = 2 → Answers .recovered s fun t =>
      t.get Fld.LEDGER_STATUS_SUP_STATE = 0 ∧ t.flag Fld.LEDGER_EVENTS_RECOVERED = true ∧
      t.now = max s.now (s.ledger.recoverStart + 1920000 * s.get Fld.LEDGER_MON_RECOVER) ∧
      RegsBut [Reg.LEDGER_STATUS, Reg.LEDGER_EVENTS] s t ∧ SameMemory s t))

/-- A write of LEDGER.MON is refused with SET_REFUSED with SAG_N, RECOVER or ZC_SLACK at 0 or RECOVER_THR not above SAG_THR, and else stands (R328). During
a recovery, a RECOVER below the time already counted ends it on the next tck (R328). A change of the mains fields clears ZC_LOCK (R317). BASE_HEAT is
taken only where the heat limit still holds (R324). CTR clears the counters it names (R326). A locked path changes nothing (R72). Completion: exec
answers the stated next state of the command's own effect, wherever the conditions that its clause puts on the state and the operands alone hold, for
LEDGER_MON_WRITE, BASE_HEAT_WRITE and CTR_CLEAR. -/
def Obligations.LedgerSettingsAndCounters : Prop :=
  (∀ (p : Path) (v : Word) (s : State), Live s → MayWriteBasic p 2 s →
    (bitsOf v 20 4 = 0 ∨ bitsOf v 12 8 = 0 ∨ bitsOf v 5 5 = 0 ∨ bitsOf v 24 12 ≤ bitsOf v 36 12 →
      exec (.ledgerMonWrite p v) s = .next (s.nextTck.set Fld.LEDGER_EVENTS_SET_REFUSED 1)) ∧
    (bitsOf v 20 4 ≠ 0 → bitsOf v 12 8 ≠ 0 → bitsOf v 5 5 ≠ 0 → bitsOf v 36 12 < bitsOf v 24 12 → Answers (.ledgerMonWrite p v) s fun t =>
      t.get Fld.LEDGER_MON_SAG_THR = bitsOf v 36 12 ∧ t.get Fld.LEDGER_MON_RECOVER_THR = bitsOf v 24 12 ∧
      t.get Fld.LEDGER_MON_SAG_N = bitsOf v 20 4 ∧ t.get Fld.LEDGER_MON_RECOVER = bitsOf v 12 8 ∧
      t.flag Fld.LEDGER_MON_ZC_EN = bitAt v 11 ∧ t.flag Fld.LEDGER_MON_ZC_POL = bitAt v 10 ∧ t.get Fld.LEDGER_MON_ZC_SLACK = bitsOf v 5 5 ∧
      (bitsOf v 5 7 ≠ bitsOf (s.reg Reg.LEDGER_MON) 5 7 → t.flag Fld.LEDGER_STATUS_ZC_LOCK = false) ∧
      (s.get Fld.LEDGER_STATUS_SUP_STATE = 2 ∧ s.ledger.recoverStart + 1920000 * bitsOf v 12 8 < s.nextTck.now →
        t.ledger.recoverStart + 1920000 * bitsOf v 12 8 = s.nextTck.now + 1) ∧
      (s.get Fld.LEDGER_STATUS_SUP_STATE ≠ 2 ∨ s.nextTck.now ≤ s.ledger.recoverStart + 1920000 * bitsOf v 12 8 → t.ledger = s.ledger) ∧
      OnlyRegs (if bitsOf v 5 7 = bitsOf (s.reg Reg.LEDGER_MON) 5 7 then [Reg.LEDGER_MON] else [Reg.LEDGER_MON, Reg.LEDGER_STATUS])
        { s.nextTck with ledger := { s.ledger with recoverStart := t.ledger.recoverStart } } t)) ∧
  (∀ (p : Path) (v : Word) (s : State), Live s → s.pathOpen p 2 = true → s.expert 2 = false → s.locked p 2 = true →
    exec (.ledgerMonWrite p v) s = .next (s.nextTck.raiseBit 2 46) ∧ ∀ h : BitVec 11, exec (.baseHeatWrite p h) s = .next (s.nextTck.raiseBit 2 46)) ∧
  (∀ (p : Path) (h : BitVec 11) (s : State), Live s → MayWriteBasic p 2 s →
    (guardOk (s.set Fld.LEDGER_LIMITS_BASE_HEAT h.toNat) = true → exec (.baseHeatWrite p h) s = .next (s.nextTck.set Fld.LEDGER_LIMITS_BASE_HEAT h.toNat)) ∧
    (guardOk (s.set Fld.LEDGER_LIMITS_BASE_HEAT h.toNat) = false →
      exec (.baseHeatWrite p h) s = .next (s.nextTck.set Fld.LEDGER_EVENTS_SET_REFUSED 1))) ∧
  (∀ (p : Path) (sup heat : Bool) (s : State), Live s → s.pathOpen p 2 = true → s.expert 2 = false → Answers (.ctrClear p sup heat) s fun t =>
    t.reg Reg.LEDGER_ENERGY_SUP = (if sup then 0 else s.reg Reg.LEDGER_ENERGY_SUP) ∧
    t.reg Reg.LEDGER_ENERGY_HEAT = (if heat then 0 else s.reg Reg.LEDGER_ENERGY_HEAT) ∧
    OnlyRegs [Reg.LEDGER_ENERGY_SUP, Reg.LEDGER_ENERGY_HEAT] s.nextTck t)

/-- A judgement window in range makes a source READY after eight windows for XTAL and REFIN and four for a link that is UP; two windows out of range, or one
for a link, clear READY with READY_LOST (R402, R404). The PLL locks to the boot source of a reset (R405). A write of SRC is refused with its cause or
accepted, and an accepted switch completes with SWITCHED (R406, R407). Completion: exec answers the stated next state of the command's own effect,
wherever the conditions that its clause puts on the state and the operands alone hold, for CLOCK_SRC_WRITE, SWITCHED, JUDGE_WINDOW_END and PLL_LOCK. -/
def Obligations.ClockSourcesAndSwitches : Prop :=
  (∀ (src : Fin 4) (count offset : Nat) (s : State),
    (src.val < 2 → 3974 ≤ count ∧ count ≤ 4218 → 8 ≤ Table.get (fun _ => 0) s.clock.good src + 1 →
      Answers (.judgeWindowEnd src count offset) s fun t => t.flag (readyField src) = true ∧ RegsBut [Reg.CLOCK_STATUS] s t ∧ t.now = s.now) ∧
    (src.val < 2 → ¬(3974 ≤ count ∧ count ≤ 4218) → 2 ≤ Table.get (fun _ => 0) s.clock.bad src + 1 → s.flag (readyField src) = true →
      s.clock.inReset = false → Answers (.judgeWindowEnd src count offset) s fun t =>
        t.flag (readyField src) = false ∧ t.flag Fld.CLOCK_EVENTS_READY_LOST = true ∧ RegsBut [Reg.CLOCK_STATUS, Reg.CLOCK_EVENTS] s t) ∧
    (2 ≤ src.val → s.link (src - 2) = linkUp → 65523 ≤ count ∧ count ≤ 65549 → 4 ≤ Table.get (fun _ => 0) s.clock.good src + 1 →
      Answers (.judgeWindowEnd src count offset) s fun t => t.flag (readyField src) = true ∧ RegsBut [Reg.CLOCK_STATUS] s t ∧ t.now = s.now) ∧
    (2 ≤ src.val → s.link (src - 2) = linkUp → ¬(65523 ≤ count ∧ count ≤ 65549) → s.flag (readyField src) = true → s.clock.inReset = false →
      Answers (.judgeWindowEnd src count offset) s fun t => t.flag (readyField src) = false ∧ t.flag Fld.CLOCK_EVENTS_READY_LOST = true ∧
        RegsBut [Reg.CLOCK_STATUS, Reg.CLOCK_EVENTS] s t) ∧
    (2 ≤ src.val → s.link (src - 2) ≠ linkUp → Answers (.judgeWindowEnd src count offset) s fun t => t.regs = s.regs)) ∧
  (∀ s : State, (s.clock.inReset = false ∨ s.clock.deep = false ∨ s.flag Fld.CLOCK_STATUS_PLL_LOCK = true ∨ s.clock.boot = none →
      exec .pllLock s = .next s) ∧
    (∀ b : Fin 2, s.clock.inReset = true → s.clock.deep = true → s.flag Fld.CLOCK_STATUS_PLL_LOCK = false → s.clock.boot = some b.val →
      Answers .pllLock s fun t => t.flag Fld.CLOCK_STATUS_PLL_LOCK = true ∧ t.get Fld.CLOCK_STATUS_CUR_SRC = b ∧ t.get Fld.CLOCK_BASIC_SRC = b ∧
        OnlyRegs [Reg.CLOCK_STATUS, Reg.CLOCK_BASIC] s t)) ∧
  (∀ (p : Path) (v : Word) (s : State), Live s → MayWriteBasic p 1 s →
    (bitsOf v 46 2 = s.get Fld.CLOCK_BASIC_SRC → exec (.clockSrcWrite p v) s = .next s.nextTck) ∧
    (bitsOf v 46 2 ≠ s.get Fld.CLOCK_BASIC_SRC → sourceReady s (bitsOf v 46 2) = false → exec (.clockSrcWrite p v) s =
      .next ((s.nextTck.set Fld.CLOCK_STATUS_SW_CAUSE 1).set Fld.CLOCK_EVENTS_SWITCH_REFUSED 1)) ∧
    (bitsOf v 46 2 ≠ s.get Fld.CLOCK_BASIC_SRC → switchRefusal s (bitsOf v 46 2) ≠ 0 → exec (.clockSrcWrite p v) s =
      .next ((s.nextTck.set Fld.CLOCK_STATUS_SW_CAUSE (switchRefusal s.nextTck (bitsOf v 46 2))).set Fld.CLOCK_EVENTS_SWITCH_REFUSED 1)) ∧
    (bitsOf v 46 2 ≠ s.get Fld.CLOCK_BASIC_SRC → switchRefusal s (bitsOf v 46 2) = 0 → exec (.clockSrcWrite p v) s =
      .next { s.nextTck.set Fld.CLOCK_BASIC_SRC (bitsOf v 46 2) with clock := { s.nextTck.clock with switchTo := some (bitsOf v 46 2) } })) ∧
  (∀ s : State, Live s →
    (s.clock.switchTo = none → exec .switched s = .next s) ∧
    (∀ src : Fin 4, s.clock.switchTo = some src.val → Answers .switched s fun t => t.get Fld.CLOCK_STATUS_CUR_SRC = src ∧
      t.flag Fld.CLOCK_EVENTS_SWITCHED = true ∧ t.clock.switchTo = none ∧ RegsBut [Reg.CLOCK_STATUS, Reg.CLOCK_EVENTS] s t ∧ t.now = s.now ∧
      t.tick = s.tick ∧ t.seconds = s.seconds))

/-- Gates of blocks in use stay on when a write would close them, which raises GATE_REFUSED (R411, R412). A request of a power state is refused in HOLD and
for the code of HOLD; RUN and DIM change the state at once; STANDBY waits for the comb unless it is STOPPED; in STANDBY a request of RUN or DIM begins
the exit (R424, R425). CLEAR of RESET_COUNT clears the counts (R428). Completion: exec answers the stated next state of the command's own effect,
wherever the conditions that its clause puts on the state and the operands alone hold, for GATE_WRITE, POWER_REQ_WRITE and RESET_COUNT_CLEAR. -/
def Obligations.GatesAndPowerStates : Prop :=
  (∀ (p : Path) (v : Word) (s : State), Live s → MayWriteBasic p 1 s →
    (BitVec.ofNat 48 (gatesInUse s) &&& ~~~v = 0 →
      exec (.gateWrite p v) s = .next (s.nextTck.putWord Reg.CLOCK_GATE (v ||| BitVec.ofNat 48 (gatesInUse s.nextTck)))) ∧
    (BitVec.ofNat 48 (gatesInUse s) &&& ~~~v ≠ 0 → exec (.gateWrite p v) s =
      .next ((s.nextTck.putWord Reg.CLOCK_GATE (v ||| BitVec.ofNat 48 (gatesInUse s.nextTck))).set Fld.CLOCK_EVENTS_GATE_REFUSED 1))) ∧
  (∀ (p : Path) (v : Word) (s : State), Live s → MayWriteBasic p 1 s →
    (bitsOf v 44 2 = 3 ∨ s.inHold = true → exec (.powerReqWrite p v) s = .next (s.nextTck.set Fld.CLOCK_EVENTS_POWER_REFUSED 1)) ∧
    (bitsOf v 44 2 < 2 → s.power < 2 → bitsOf v 44 2 ≠ s.power → exec (.powerReqWrite p v) s =
      .next (((s.nextTck.set Fld.CLOCK_POWER_REQ (bitsOf v 44 2)).set Fld.CLOCK_POWER_STATE (bitsOf v 44 2)).set Fld.CLOCK_EVENTS_POWER_CHANGED 1)) ∧
    (bitsOf v 44 2 = 2 → s.power < 2 → s.runState = combStopped → Answers (.powerReqWrite p v) s fun t => t.inStandby = true ∧
      t.get Fld.CLOCK_POWER_RETURN = s.power ∧ t.flag Fld.CLOCK_EVENTS_POWER_CHANGED = true ∧ t.clock.leaveAt = none ∧ t.now = s.nextTck.now ∧ SameMemory s t) ∧
    (bitsOf v 44 2 = 2 → s.power < 2 → s.runState = combRunning → exec (.powerReqWrite p v) s =
      .next ((s.nextTck.set Fld.CLOCK_POWER_RETURN s.nextTck.power).set Fld.CLOCK_POWER_REQ 2)) ∧
    (bitsOf v 44 2 < 2 → s.inStandby = true → s.flag Fld.CLOCK_POWER_LEAVING = false → Answers (.powerReqWrite p v) s fun t =>
      t.inStandby = true ∧ t.get Fld.CLOCK_POWER_REQ = bitsOf v 44 2 ∧ t.get Fld.CLOCK_POWER_RETURN = bitsOf v 44 2 ∧
      t.get Fld.CLOCK_POWER_WAKE_BY = 1 ∧ t.flag Fld.CLOCK_POWER_LEAVING = true ∧ RegsBut [Reg.CLOCK_POWER] s t)) ∧
  (∀ (p : Path) (s : State), Live s → s.pathOpen p 1 = true → s.expert 1 = false →
    exec (.resetCountClear p) s = .next (s.nextTck.setReg Reg.CLOCK_RESET_COUNT 0))

/-- The steps of the start-up order run in the order and with the delays of the word taken for it: OUTPUTS, RESET and WRITES act at once, LOCK waits for the
clock managers used, and the fourth step leaves the fabric RUNNING (R421). A LOCK step of 10 ms raises STARTUP_SLOW (R423). A write of CLOCK.STARTUP
must name each step once (R422). Completion: exec answers the stated next state of the command's own effect, wherever the conditions that its clause
puts on the state and the operands alone hold, for STARTUP_STEP, STARTUP_SLOW, STARTUP_WRITE and CLOCK_MANAGER_LOCK. -/
def Obligations.StartUpOrder : Prop :=
  (∀ s : State, Live s → s.clock.stepDue = none → exec .startupStep s = .next s) ∧
  (∀ (due : Nat) (s : State), Live s → s.clock.stepDue = some due →
    (startStep s s.clock.stepNo ≠ 0 ∨ managersLocked s = true → s.clock.stepNo < 3 → Answers .startupStep s fun t =>
      t.now = max s.now due ∧ t.clock.stepNo = s.clock.stepNo + 1 ∧ t.clock.stepDue = some (t.now + startDelay s s.clock.stepNo) ∧
      t.get Fld.CLOCK_STATUS_STARTUP_POS = s.clock.stepNo ∧ t.fabric.uioOn = (s.fabric.uioOn || startStep s s.clock.stepNo == 1) ∧
      t.fabric.gsrOn = (s.fabric.gsrOn || startStep s s.clock.stepNo == 2) ∧ t.clock.writesOn = (s.clock.writesOn || startStep s s.clock.stepNo == 3) ∧
      RegsBut [Reg.CLOCK_STATUS] s t) ∧
    (startStep s s.clock.stepNo ≠ 0 ∨ managersLocked s = true → s.clock.stepNo = 3 → Answers .startupStep s fun t =>
      t.now = max s.now due ∧ t.clock.stepDue = none ∧ t.fstate = fabRunning ∧ t.get Fld.CLOCK_STATUS_STARTUP_POS = 4 ∧
      t.flag Fld.CLOCK_STATUS_STARTUP_WAIT = false ∧ RegsBut [Reg.CLOCK_STATUS, Reg.FABRIC_STATUS] s t) ∧
    (startStep s s.clock.stepNo = 0 → managersLocked s = false → Answers .startupStep s fun t =>
      t.now = max s.now due ∧ t.clock.stepDue = none ∧ t.clock.lockSince = some t.now ∧ t.clock.stepNo = s.clock.stepNo ∧
      t.flag Fld.CLOCK_STATUS_STARTUP_WAIT = true ∧ RegsBut [Reg.CLOCK_STATUS] s t)) ∧
  (∀ s : State, Live s →
    (s.clock.lockSince = none → exec .startupSlow s = .next s) ∧
    (∀ since : Nat, s.clock.lockSince = some since → Answers .startupSlow s fun t => t.now = max s.now (since + 1920000) ∧
      t.flag Fld.CLOCK_EVENTS_STARTUP_SLOW = true ∧ RegsBut [Reg.CLOCK_EVENTS] s t ∧ t.clock = s.clock)) ∧
  (∀ (p : Path) (v : Word) (s : State), Live s → MayWriteBasic p 1 s →
    (stepsDiffer v = true → exec (.startupWrite p v) s = .next (s.nextTck.putWord Reg.CLOCK_STARTUP v)) ∧
    (stepsDiffer v = false → exec (.startupWrite p v) s = .next (s.nextTck.set Fld.CLOCK_EVENTS_STARTUP_REFUSED 1))) ∧
  (∀ (r : Fin 8) (s : State), Live s →
    (s.fstate ≠ fabStarting → s.fstate ≠ fabRunning → exec (.clockManagerLock r) s = .next s) ∧
    ((managersUsed s).testBit r = false → exec (.clockManagerLock r) s = .next s) ∧
    (s.fstate = fabStarting ∨ s.fstate = fabRunning → (managersUsed s).testBit r = true → Answers (.clockManagerLock r) s fun t =>
      (t.get Fld.FABRIC_STATUS_CM_LOCK).testBit r = true ∧ t.now = s.now ∧ RegsBut [Reg.CLOCK_STATUS, Reg.FABRIC_STATUS] s t ∧
      (s.clock.lockSince = none → t.clock = s.clock ∧ t.get Fld.FABRIC_STATUS_CM_LOCK = (s.get Fld.FABRIC_STATUS_CM_LOCK ||| 2 ^ r.val))))

/-- Power-on, RESET_N of at least 1 µs and the watchdog reset hold the device: every register takes its reset value but those that the source keeps, and
nothing below 200 ns acts (R415, R416); a bypass that is not CLOSED closes (R352); the watchdog does nothing in HOLD (R419). A reset that reached the
CLOCK page ends once its PLL is locked, on any tck within the time R418 allows (R10), with the cause recorded, hive time 0, and the address balls and
VIOX sampled; a hive reset ends on any tck after its own (R417, R418, R420, R57, R60). Completion: exec answers the stated next state of the command's
own effect, wherever the conditions that its clause puts on the state and the operands alone hold, for POWER_ON, RESET_N, WATCHDOG and RESET_EXIT. -/
def Obligations.ResetsHoldAndRelease : Prop :=
  (∀ s : State, Answers .powerOn s fun t => t.clock.inReset = true ∧ t.now = 0 ∧ t.fabric = {} ∧ t.groups = State.reset.groups ∧ t.commit = {} ∧
    t.flag Fld.CLOCK_STATUS_PLL_LOCK = false ∧ t.fstate = fabReset ∧ t.pending = s.pending ∧
    t.bypass = (if s.bypass = bypassClosed then bypassClosed else bypassClosing) ∧ (∀ a, keepsReg 0 a = true → t.reg a = s.reg a) ∧
    ∀ a, keepsReg 0 a = false → a ∉ [Reg.UPDATE_STATUS, Reg.XMEM_STATUS, Reg.CLOCK_STATUS, Reg.FABRIC_STATUS, Reg.KLOCK_STATUS, Reg.RINGA_BYPASS] → t.reg a = regReset a) ∧
  (∀ (ns : Nat) (s : State),
    (ns < 200 → exec (.resetN ns) s = .next s) ∧
    (200 ≤ ns → ns < 1000 → Answers (.resetN ns) s fun t => t.freeCount = s.freeCount + 1 ∧ (t.regs = s.regs ∨ t.clock.inReset = true)) ∧
    (1000 ≤ ns → Answers (.resetN ns) s fun t => t.clock.inReset = true ∧ 1 ∈ t.clock.sources ∧ t.now = s.now ∧ t.groups = State.reset.groups ∧
      t.flag Fld.CLOCK_STATUS_PLL_LOCK = false ∧ t.fstate = fabReset ∧ ((∀ e ∈ s.fabric.tiles, bitsOf e.2 46 2 ≠ tileTesting) → SameMemory s t) ∧
      SameExternal s t ∧ t.store.bytes = s.store.bytes ∧ (∀ a, keepsReg 1 a = true → t.reg a = s.reg a) ∧
      ∀ a, keepsReg 1 a = false → a ∉ [Reg.UPDATE_STATUS, Reg.XMEM_STATUS, Reg.CLOCK_STATUS, Reg.FABRIC_STATUS, Reg.KLOCK_STATUS, Reg.RINGA_BYPASS] → t.reg a = regReset a)) ∧
  (∀ s : State, Live s →
    (s.inHold = true → exec .watchdog s = .next s) ∧
    (s.inHold = false → Answers .watchdog s fun t => t.clock.inReset = true ∧ 4 ∈ t.clock.sources ∧ t.now = s.now ∧ t.fstate = fabReset ∧
      SameExternal s t ∧ t.store.bytes = s.store.bytes ∧ (∀ a, keepsReg 4 a = true → a ≠ Reg.KLOCK_STATUS → t.reg a = s.reg a) ∧
      ∀ a, keepsReg 4 a = false → a ∉ [Reg.UPDATE_STATUS, Reg.XMEM_STATUS, Reg.CLOCK_STATUS, Reg.FABRIC_STATUS, Reg.KLOCK_STATUS, Reg.RINGA_BYPASS] → t.reg a = regReset a)) ∧
  (∀ (pins : BitVec 4) (viox : Bool) (s : State), s.clock.coreStopped = false →
    (s.clock.sources = [] → exec (.resetExit ⟨pins, viox⟩) s = .next s) ∧
    (s.clock.deep = true → s.flag Fld.CLOCK_STATUS_PLL_LOCK = false → exec (.resetExit ⟨pins, viox⟩) s = .next s) ∧
    (s.clock.sources ≠ [] → s.clock.deep = true → s.flag Fld.CLOCK_STATUS_PLL_LOCK = true → s.flag Fld.UPDATE_HOLD_ACTIVE = false → s.slot = slotEmpty →
      (s.fabric.memReady = false ∨ s.flag Fld.UPDATE_BOOT_VALID = false) → Answers (.resetExit ⟨pins, viox⟩) s fun t =>
        t.clock.inReset = false ∧ t.clock.deep = false ∧ t.clock.sources = [] ∧ t.now = s.now + 1 ∧ t.seconds = 0 ∧
        t.tick = 0 ∧ t.get Fld.TWI_STATUS_ADDR_PINS = pins.toNat ∧ t.flag Fld.XMEM_STATUS_ABSENT = !viox ∧ t.get Fld.CLOCK_RESET_CAUSE_LAST = lowestSource s ∧
        t.flag Fld.CLOCK_RESET_CAUSE_CLOCK_LOST = s.clock.record ∧ t.flag Fld.CLOCK_RESET_CAUSE_IN_HOLD = s.clock.fromHold ∧ SameMemory s t) ∧
    (s.clock.sources ≠ [] → s.clock.deep = false → Answers (.resetExit ⟨pins, viox⟩) s fun t =>
      t.clock.inReset = false ∧ t.clock.sources = [] ∧ t.now = max s.now (s.clock.hiveStart + 1) ∧ t.get Fld.CLOCK_RESET_CAUSE_LAST = lowestSource s ∧ SameMemory s t))

/-- The states and the pointer of R550: a start opens a transaction and discards what it cut short (R541); the port answers 0x60 + 2 x ADDR and 0x61 + 2 x
ADDR only (R532); the index byte sets the index (R535); five bytes of a register wait for its sixth, and the first byte at a reserved index is refused
with INDEX_INVALID and NACKED (R536, R540); the sixth byte writes the register as the arbiter serves it, on the tck that follows, and a complete
PAGE_SEL leaves the index at 0xFF (R539); a read moves on at each acknowledge, the sixth completing the register with its side-effect, and ends with no
side-effect where none comes (R537); a stop frees the bus and settings written meanwhile take effect (R541, R546). Completion: exec answers the stated
next state of the command's own effect, wherever the conditions that its clause puts on the state and the operands alone hold, for TWI_START, TWI_STOP,
TWI_ADDRESS_BYTE, TWI_INDEX_BYTE, TWI_WRITE_BYTE, TWI_READ_ACK and TWI_READ_NACK. -/
def Obligations.TwiBytesAndConditions : Prop :=
  (∀ (mid : Bool) (s : State), Live s → s.twi.bytes = [] → s.twiState = twiIdle →
    exec (.twiStart mid) s = .next (twiReleases ((s.set Fld.TWI_STATUS_BYTE 0).set Fld.TWI_STATUS_STATE 1))) ∧
  (∀ (mid : Bool) (s : State), Live s → s.twiState = twiWrite → s.twi.bytes ≠ [] → Answers (.twiStart mid) s fun t =>
    t.twiState = twiAddress ∧ t.twi.bytes = [] ∧ t.get Fld.TWI_STATUS_INDEX = s.get Fld.TWI_STATUS_INDEX ∧
      t.get Fld.TWI_STATUS_PAGE = s.get Fld.TWI_STATUS_PAGE ∧ t.flag Fld.TWI_EVENTS_PARTIAL_WRITE = true ∧
      (mid = true → t.flag Fld.TWI_EVENTS_BUS_ERROR = true) ∧
      (mid = false → t.flag Fld.TWI_EVENTS_BUS_ERROR = s.flag Fld.TWI_EVENTS_BUS_ERROR) ∧
      RegsBut [Reg.TWI_STATUS, Reg.TWI_EVENTS] s t ∧ t = { s with regs := t.regs, twi := t.twi }) ∧
  (∀ (b : Byte) (s : State), Live s → s.twiState = twiAddress → s.inHold = false →
    (b.toNat = 0x60 + 2 * s.get Fld.TWI_STATUS_ADDR_PINS → exec (.twiAddressByte b) s = .next (twiDrives (s.set Fld.TWI_STATUS_STATE 2))) ∧
    (b.toNat = 0x61 + 2 * s.get Fld.TWI_STATUS_ADDR_PINS → Answers (.twiAddressByte b) s fun t =>
      t.twiState = twiRead ∧ t.get Fld.TWI_STATUS_BYTE = 0 ∧ t.get Fld.TWI_STATUS_INDEX = s.get Fld.TWI_STATUS_INDEX ∧
        t.twi.lowSince = some s.now ∧ RegsBut [Reg.TWI_STATUS] s t ∧
        t = { s.nextTck with regs := t.regs, twi := t.twi, freeCount := t.freeCount }) ∧
    (b.toNat ≠ 0x60 + 2 * s.get Fld.TWI_STATUS_ADDR_PINS → b.toNat ≠ 0x61 + 2 * s.get Fld.TWI_STATUS_ADDR_PINS →
      exec (.twiAddressByte b) s = .next (twiReleases (s.set Fld.TWI_STATUS_STATE 5)))) ∧
  (∀ (b : Byte) (s : State), Live s → s.twiState = twiIndex → s.inHold = false →
    exec (.twiIndexByte b) s = .next (twiDrives (((s.set Fld.TWI_STATUS_INDEX b.toNat).set Fld.TWI_STATUS_BYTE 0).set Fld.TWI_STATUS_STATE 3))) ∧
  (∀ (b : Byte) (s : State), Live s → s.twiState = twiWrite → s.inHold = false →
    (s.twi.bytes.length < 5 → (s.twi.bytes ≠ [] ∨ twiReserved s = false) →
      exec (.twiWriteByte b) s =
        .next ({ s with twi := { s.twi with bytes := s.twi.bytes ++ [b], lowSince := some s.now } }.set Fld.TWI_STATUS_BYTE (s.twi.bytes.length + 1))) ∧
    (s.twi.bytes = [] → twiReserved s = true →
      exec (.twiWriteByte b) s =
        .next (twiReleases (((s.raiseBit (s.get Fld.TWI_STATUS_PAGE) 45).set Fld.TWI_EVENTS_NACKED 1).set Fld.TWI_STATUS_STATE 5))) ∧
    (s.twi.bytes.length = 5 → s.get Fld.TWI_STATUS_INDEX ≠ 0xFE → exec (.twiWriteByte b) s = .next ((twiAdvance (serveWrite .twi s.twiAddr
      (twiWord (s.twi.bytes ++ [b])) ({ s with twi := { s.twi with bytes := [], lowSince := some s.now } }.set Fld.TWI_STATUS_BYTE 0).nextTck)).keepQueue s)) ∧
    (s.twi.bytes.length = 5 → s.get Fld.TWI_STATUS_INDEX = 0xFE → s.pathOpen .twi (s.get Fld.TWI_STATUS_PAGE) = true →
      reservedPage (s.get Fld.TWI_STATUS_PAGE) = false → reservedPage (b.toNat % 64) = false → Answers (.twiWriteByte b) s fun t =>
        t.get Fld.TWI_STATUS_PAGE = b.toNat % 64 ∧ t.get Fld.TWI_STATUS_INDEX = 0xFF ∧ t.twiState = twiWrite ∧ t.twi.bytes = [] ∧
          RegsBut [Reg.TWI_STATUS] s t)) ∧
  (∀ s : State, Live s → s.twiState = twiRead → s.inHold = false →
    (s.get Fld.TWI_STATUS_BYTE < 5 → exec .twiReadAck s = .next (twiDrives (s.set Fld.TWI_STATUS_BYTE (s.get Fld.TWI_STATUS_BYTE + 1)))) ∧
    (5 ≤ s.get Fld.TWI_STATUS_BYTE → s.late = [] → s.twiAddr = Reg.EVENT_POP → bitAt s.twi.basic 37 = true → Answers .twiReadAck s fun t =>
      t.events.queued = s.events.queued.drop 1 ∧ t.twiAddr = s.twiAddr ∧ t.get Fld.TWI_STATUS_BYTE = 0 ∧ RegsBut [Reg.TWI_STATUS] s t) ∧
    (5 ≤ s.get Fld.TWI_STATUS_BYTE → s.late = [] → s.twiAddr ≠ Reg.EVENT_POP → isWindow s.twiAddr = false → bitAt s.twi.basic 37 = false →
      Answers .twiReadAck s fun t => t.get Fld.TWI_STATUS_INDEX = (s.get Fld.TWI_STATUS_INDEX + 1) % 256 ∧
        t.get Fld.TWI_STATUS_PAGE = s.get Fld.TWI_STATUS_PAGE ∧ t.get Fld.TWI_STATUS_BYTE = 0 ∧ t.events = s.events ∧ RegsBut [Reg.TWI_STATUS] s t) ∧
    exec .twiReadNack s = .next (twiReleases ((s.set Fld.TWI_STATUS_BYTE 0).set Fld.TWI_STATUS_STATE 5))) ∧
  (∀ (mid : Bool) (s : State), Live s → s.twiState = twiRead → s.twi.bytes = [] → Answers (.twiStop mid) s fun t =>
    t.twiState = twiIdle ∧ t.get Fld.TWI_STATUS_INDEX = s.get Fld.TWI_STATUS_INDEX ∧ t.twi.basic = s.reg Reg.TWI_BASIC ∧
      RegsBut [Reg.TWI_STATUS, Reg.TWI_EVENTS] s t ∧ t = { s with regs := t.regs, twi := t.twi })

/-- A line held low is released after (TIMEOUT + 1) ms, the page and the pointer kept (R544); 1,920 tck of free bus end RECOVER (R545); in STANDBY an IDLE
port sleeps, and a start wakes it into IGNORE with WAKE (R547); a write of TWI.BASIC is in the register at once and in force only when the bus is next
free (R546). Completion: exec answers the stated next state of the command's own effect, wherever the conditions that its clause puts on the state and
the operands alone hold, for TWI_START, TWI_TIMEOUT, TWI_BUS_FREE, TWI_SLEEP and TWI_BASIC_WRITE. -/
def Obligations.TwiTimeoutSleepAndSettings : Prop :=
  (∀ (held : Nat) (s : State), Live s → s.twi.lowSince = some held → Answers .twiTimeout s fun t =>
    t.twiState = twiRecover ∧ t.flag Fld.TWI_EVENTS_TIMEOUT = true ∧ t.twi.bytes = [] ∧ t.twi.lowSince = none ∧
      t.now = max s.now (held + (bitsOf s.twi.basic 38 6 + 1) * 192000) ∧ t.get Fld.TWI_STATUS_INDEX = s.get Fld.TWI_STATUS_INDEX ∧
      t.get Fld.TWI_STATUS_PAGE = s.get Fld.TWI_STATUS_PAGE ∧ RegsBut [Reg.TWI_STATUS, Reg.TWI_EVENTS] s t ∧ SameMemory s t) ∧
  (∀ s : State, Live s → s.twiState = twiRecover → Answers .twiBusFree s fun t =>
    t.twiState = twiIdle ∧ t.now = s.now + 1920 ∧ t.twi.basic = s.reg Reg.TWI_BASIC ∧ RegsBut [Reg.TWI_STATUS] s t ∧ SameMemory s t) ∧
  (∀ s : State, Live s → s.inStandby = true → s.twiState = twiIdle →
    (s.twi.woken = false → exec .twiSleep s = .next ((s.set Fld.TWI_STATUS_STATE 6).set Fld.TWI_STATUS_AWAKE 0)) ∧
    (s.twi.woken = true → Answers .twiSleep s fun t => t.twiState = twiAsleep ∧ t.now = max s.now (s.twi.freeSince + 1920000) ∧
      RegsBut [Reg.TWI_STATUS] s t)) ∧
  (∀ (mid : Bool) (s : State), Live s → s.twiState = twiAsleep → Answers (.twiStart mid) s fun t =>
    t.twiState = twiIgnore ∧ t.flag Fld.TWI_STATUS_AWAKE = true ∧ t.flag Fld.TWI_EVENTS_WAKE = true ∧
      RegsBut [Reg.TWI_STATUS, Reg.TWI_EVENTS] s t) ∧
  (∀ (p : Path) (v : Word) (s : State), Live s → MayWriteBasic p 0x06 s → s.twiState = twiWrite → Answers (.twiBasicWrite p v) s fun t =>
    t.get Fld.TWI_BASIC_FILTER = bitsOf v 44 4 ∧ t.get Fld.TWI_BASIC_TIMEOUT = bitsOf v 38 6 ∧
      t.get Fld.TWI_BASIC_REPEAT_IDX = bitsOf v 37 1 ∧ t.twi = s.twi ∧ OnlyRegs [Reg.TWI_BASIC] s.nextTck t)

/-- A window is CHECKING once its open is accepted and REFUSED with a cause otherwise; the end of its pass opens it, restarts it where a write has hit its
tile (four times at the most), or fails the tile (R436, R438, R441). An access writes one word through an OPEN window, or reads one, whose data returns
3 tck later, and is refused with the error flag through another (R431, R432, R441); a tile in test or retired takes no write (R437). CLEAR returns a
FAILED tile to GOOD (R436). PROTn is refused once FROZEN is set, which no write of 0 clears (R444). Completion: exec answers the stated next state of
the command's own effect, wherever the conditions that its clause puts on the state and the operands alone hold, for MEM_WINDOW_OPEN, WINDOW_OPEN_DONE,
WINDOW_CLOSE, MEM_WINDOW_ACCESS, TILE_CLEAR, PROT_WRITE and FREEZE. -/
def Obligations.MemoryWindowsAndTiles : Prop :=
  (∀ (w : Fin 32) (k : Fin 4096) (s : State), Live s →
    (s.tileState k ≠ tileGood → Answers (.memWindowOpen w k) s fun t => bitsOf (t.winWord w) 46 2 = winRefused ∧ bitsOf (t.winWord w) 43 3 = 1 ∧
      t.flag Fld.FABRIC_EVENTS_WINDOW_REFUSED = true ∧ RegsBut [Reg.FABRIC_STATUS, Reg.FABRIC_EVENTS] s t ∧ SameMemory s t) ∧
    (s.tileState k = tileGood → s.reservedTile k = true → Answers (.memWindowOpen w k) s fun t =>
      bitsOf (t.winWord w) 46 2 = winRefused ∧ bitsOf (t.winWord w) 43 3 = 2 ∧ t.flag Fld.FABRIC_EVENTS_WINDOW_REFUSED = true) ∧
    (s.tileState k = tileGood → s.reservedTile k = false → writesOn s = false → Answers (.memWindowOpen w k) s fun t =>
      bitsOf (t.winWord w) 46 2 = winRefused ∧ bitsOf (t.winWord w) 43 3 = 4 ∧ t.flag Fld.FABRIC_EVENTS_WINDOW_REFUSED = true) ∧
    (s.tileState k = tileGood → s.reservedTile k = false → writesOn s = true → Answers (.memWindowOpen w k) s fun t =>
      bitsOf (t.winWord w) 46 2 = winChecking ∧ bitsOf (t.winWord w) 31 12 = k ∧ bitsOf (t.winWord w) 28 3 = 0 ∧ w.val ∉ t.fabric.dirty ∧
      (∀ x, x ≠ w.val → t.winWord x = s.winWord x) ∧ RegsBut [Reg.FABRIC_STATUS] s t ∧ SameMemory s t)) ∧
  (∀ (w : Fin 32) (s : State), Live s →
    (∀ found, bitsOf (s.winWord w) 46 2 ≠ winChecking → exec (.windowOpenDone w found) s = .next s) ∧
    (bitsOf (s.winWord w) 46 2 = winChecking → w.val ∉ s.fabric.dirty → s.tileState (bitsOf (s.winWord w) 31 12) = tileGood →
      Answers (.windowOpenDone w none) s (fun t => bitsOf (t.winWord w) 46 2 = winOpen ∧ bitsOf (t.winWord w) 31 12 = bitsOf (s.winWord w) 31 12 ∧
        (∀ x, x ≠ w.val → t.winWord x = s.winWord x) ∧ RegsBut [Reg.FABRIC_STATUS] s t ∧ SameMemory s t) ∧
      ∀ c : BitVec 32, Answers (.windowOpenDone w (some c)) s fun t => bitsOf (t.winWord w) 46 2 = winRefused ∧ bitsOf (t.winWord w) 43 3 = 1 ∧
        t.tileState (bitsOf (s.winWord w) 31 12) = tileTesting ∧ t.flag Fld.FABRIC_EVENTS_TILE_FAIL = true ∧
        t.get Fld.FABRIC_TILE_STAT_TILE = bitsOf (s.winWord w) 31 12 ∧ t.get Fld.FABRIC_TILE_STAT_FOUND = c.toNat ∧ SameMemory s t) ∧
    (∀ found, bitsOf (s.winWord w) 46 2 = winChecking → w.val ∈ s.fabric.dirty →
      (bitsOf (s.winWord w) 28 3 < 4 → Answers (.windowOpenDone w found) s fun t => bitsOf (t.winWord w) 46 2 = winChecking ∧
        bitsOf (t.winWord w) 28 3 = bitsOf (s.winWord w) 28 3 + 1 ∧ w.val ∉ t.fabric.dirty ∧ SameMemory s t) ∧
      (4 ≤ bitsOf (s.winWord w) 28 3 → Answers (.windowOpenDone w found) s fun t => bitsOf (t.winWord w) 46 2 = winRefused ∧
        bitsOf (t.winWord w) 43 3 = 3 ∧ t.flag Fld.FABRIC_EVENTS_WINDOW_REFUSED = true ∧ SameMemory s t)) ∧
    Answers (.windowClose w) s fun t => t.winWord w = 0 ∧ (∀ x, x ≠ w.val → t.winWord x = s.winWord x) ∧ RegsBut [Reg.FABRIC_STATUS] s t ∧ SameMemory s t) ∧
  (∀ (w : Fin 32) (a : Fin 1024) (s : State), Live s →
    (∀ v, bitsOf (s.winWord w) 46 2 ≠ winOpen → exec (.memWindowAccess w a v) s = .next (s.bridgeAnswers (8 + w) { error := true })) ∧
    (bitsOf (s.winWord w) 46 2 = winOpen → s.late = [] → Answers (.memWindowAccess w a none) s fun t => t = { s with late := t.late } ∧
      (t.elapse 2).settled.bridgeAnswer (8 + w) = s.bridgeAnswer (8 + w) ∧
      (t.elapse 3).settled.bridgeAnswer (8 + w) = { data := s.memRead (1024 * bitsOf (s.winWord w) 31 12 + a) }) ∧
    (∀ x : Word, bitsOf (s.winWord w) 46 2 = winOpen → staged s (bitsOf (s.winWord w) 31 12) = false →
      (s.flag Fld.HIVE_STATUS_QUEEN = false ∨ bitsOf (s.winWord w) 31 12 < 4032) →
      (s.tileState (bitsOf (s.winWord w) 31 12) = tileTesting ∨ s.tileState (bitsOf (s.winWord w) 31 12) = tileRetired →
        exec (.memWindowAccess w a (some x)) s = .next ((s.set Fld.FABRIC_EVENTS_TEST_WRITE 1).bridgeAnswers (8 + w) {})) ∧
      (s.tileState (bitsOf (s.winWord w) 31 12) = tileGood ∨ s.tileState (bitsOf (s.winWord w) 31 12) = tileFailed →
        Answers (.memWindowAccess w a (some x)) s fun t => t.memRaw (1024 * bitsOf (s.winWord w) 31 12 + a) = x ∧
          (∀ b, b ≠ 1024 * bitsOf (s.winWord w) 31 12 + a → t.memRaw b = s.memRaw b) ∧ RegsBut [Reg.FRAME_EVENTS] s t ∧ t.now = s.now))) ∧
  (∀ (p : Path) (v : Word) (s : State), Live s → MayWriteBasic p 0x38 s →
    (bitAt v 0 = false → exec (.tileClear p v) s = .next (s.nextTck.putWord Reg.FABRIC_TILE_CTRL v)) ∧
    (s.tileState (bitsOf v 36 12) ≠ tileFailed → exec (.tileClear p v) s = .next (s.nextTck.putWord Reg.FABRIC_TILE_CTRL v)) ∧
    (bitAt v 0 = true → s.tileState (bitsOf v 36 12) = tileFailed → Answers (.tileClear p v) s fun t =>
      t.tileState (bitsOf v 36 12) = tileGood ∧ (∀ k, k ≠ bitsOf v 36 12 → t.tileWord k = s.tileWord k) ∧ RegsBut [Reg.FABRIC_TILE_CTRL] s t ∧
      SameMemory s t)) ∧
  (∀ (p : Path) (n : Fin 8) (v : Word) (s : State), Live s → MayWriteBasic p 0x38 s →
    (s.flag Fld.FABRIC_PROT_CTRL_FROZEN = true → exec (.protWrite p n v) s = .next (s.nextTck.set Fld.FABRIC_EVENTS_PROT_REFUSED 1)) ∧
    (s.flag Fld.FABRIC_PROT_CTRL_FROZEN = false → exec (.protWrite p n v) s = .next (s.nextTck.putWord (Reg.FABRIC_PROT n) v))) ∧
  (∀ (p : Path) (s : State), Live s → s.pathOpen p 0x38 = true → s.expert 0x38 = false →
    exec (.freeze p) s = .next (s.nextTck.set Fld.FABRIC_PROT_CTRL_FROZEN 1))

/-- A descriptor is ignored before the WRITES step, refused with the error flag while four wait, refused and recorded where one side is protected, and else
queued (R431, R442, R443). One that is done has copied its words and reports it; one whose source tile is not GOOD stops with DMA_STOPPED, reports the
position it reached, and nothing is written (R435, R442). Completion: exec answers the stated next state of the command's own effect, wherever the
conditions that its clause puts on the state and the operands alone hold, for DMA_DESCRIPTOR and DMA_DONE. -/
def Obligations.DmaDescriptors : Prop :=
  (∀ (srcExt : Bool) (src : BitVec 29) (dstExt : Bool) (dst : BitVec 29) (count : Fin 65536) (s : State), Live s →
    (writesOn s = false → exec (.dmaDescriptor srcExt src dstExt dst count) s = .next s) ∧
    (writesOn s = true → 4 ≤ s.fabric.dma.length → exec (.dmaDescriptor srcExt src dstExt dst count) s = .next (s.bridgeAnswers 4 { error := true })) ∧
    (∀ a : Nat, writesOn s = true → s.fabric.dma.length < 4 → firstProtected s srcExt src.toNat (count.val + 1) = some a →
      Answers (.dmaDescriptor srcExt src dstExt dst count) s fun t => t.flag Fld.FABRIC_EVENTS_PROT_REFUSED = true ∧
        t.flag Fld.FABRIC_PROT_HIT_VALID = true ∧ t.flag Fld.FABRIC_PROT_HIT_PATH = false ∧ t.flag Fld.FABRIC_PROT_HIT_SPACE = srcExt ∧
        (t.bridgeAnswer 4).error = true ∧ OnlyRegs [Reg.FABRIC_PROT_HIT, Reg.FABRIC_EVENTS] { s with fabric := t.fabric } t ∧ t.fabric.dma = s.fabric.dma) ∧
    (writesOn s = true → s.fabric.dma.length < 4 → firstProtected s srcExt src.toNat (count.val + 1) = none →
      firstProtected s dstExt dst.toNat (count.val + 1) = none → exec (.dmaDescriptor srcExt src dstExt dst count) s =
        .next { s with fabric := { s.fabric with dma := s.fabric.dma ++ [⟨srcExt, src.toNat, dstExt, dst.toNat, count.val + 1, 0⟩] } })) ∧
  (∀ (found : List (Nat × BitVec 32)) (s : State), Live s → s.fabric.dma = [] → exec (.dmaDone found) s = .next s) ∧
  (∀ (d : Dma) (r : List Dma) (s : State), Live s → s.fabric.dma = d :: r → d.srcExt = false → d.dstExt = false → d.done = 0 → d.count = 1 →
    d.src < 4194304 → d.dst < 4194304 →
    (s.tileState (d.src / 1024) = tileGood → s.tileState (d.dst / 1024) = tileGood → staged s (d.dst / 1024) = false →
      (s.flag Fld.HIVE_STATUS_QUEEN = false ∨ d.dst / 1024 < 4032) → Answers (.dmaDone []) s fun t =>
        t.memRaw d.dst = s.memRaw d.src ∧ (∀ a, a ≠ d.dst → t.memRaw a = s.memRaw a) ∧ t.fabric.dma = r ∧ t.bridgeAnswer 4 = { more := 1 } ∧
        RegsBut [Reg.FRAME_EVENTS] s t) ∧
    (s.tileState (d.src / 1024) ≠ tileGood → Answers (.dmaDone []) s fun t => t.flag Fld.FABRIC_EVENTS_DMA_STOPPED = true ∧ t.fabric.dma = r ∧
      t.bridgeAnswer 4 = { more := 0, error := true } ∧ SameMemory s t))

/-- A fabric reset of its own holds the fabric for 1,024 tck, closes its windows and drops its transfers, and keeps the memory layer and the spares (R450);
at its release a VERIFIED context 0 starts and another is loaded (R421, R450). A context switch is refused with its cause, tied to the next commit
clock, or taken at once (R446, R447, R449). The memory layer reports once that it is ready, and the load of context 0 begins then (R503, R589).
Completion: exec answers the stated next state of the command's own effect, wherever the conditions that its clause puts on the state and the operands
alone hold, for CTX_SWITCH, FABRIC_RESET, FABRIC_RESET_RELEASE and MEMORY_INIT_DONE. -/
def Obligations.FabricResetsAndContexts : Prop :=
  (∀ (p : Path) (s : State), Live s → s.pathOpen p 0x38 = true → s.expert 0x38 = false → Answers (.fabricReset p) s fun t =>
    t.fstate = fabReset ∧ t.flag Fld.FABRIC_EVENTS_FABRIC_RESET = true ∧ t.get Fld.FABRIC_STATUS_SPARES_LEFT = s.get Fld.FABRIC_STATUS_SPARES_LEFT ∧
    t.fabric.windows = [] ∧ t.fabric.dma = [] ∧ t.fabric.releaseAt = some (s.nextTck.now + 1024) ∧ t.clock.writesOn = false ∧ t.clock.stepDue = none ∧
    t.get Fld.CLOCK_STATUS_STARTUP_POS = 7 ∧ (∀ a, a / 256 ≠ 0x38 → a ≠ Reg.CLOCK_STATUS → t.reg a = s.reg a) ∧ SameMemory s t ∧ t.config = s.config) ∧
  (∀ s : State, Live s →
    (s.fabric.releaseAt = none → exec .fabricResetRelease s = .next s) ∧
    (∀ due : Nat, s.fabric.releaseAt = some due → s.ctxState 0 = ctxVerified → Answers .fabricResetRelease s fun t =>
      t.fstate = fabStarting ∧ t.activeCtx = 0 ∧ t.now = max s.now due + 1 ∧ t.fabric.releaseAt = none ∧ t.clock.stepNo = 0 ∧
      t.clock.stepDue = some (max s.now due) ∧ t.clock.startup = s.reg Reg.CLOCK_STARTUP ∧ SameMemory s t) ∧
    (∀ due : Nat, s.fabric.releaseAt = some due → s.ctxState 0 ≠ ctxVerified → s.flag Fld.UPDATE_BOOT_VALID = false →
      Answers .fabricResetRelease s fun t => t.fstate = fabLoading ∧ t.now = max s.now due ∧ t.fabric.releaseAt = none ∧
        RegsBut [Reg.FABRIC_STATUS] s t)) ∧
  (∀ (p : Path) (v : Word) (s : State), Live s → MayWriteBasic p 0x28 s →
    (bitAt v 0 = false → exec (.ctxSwitch p v) s = .next (s.nextTck.putWord Reg.CONFIG_CTX_SWITCH v)) ∧
    (bitsOf v 45 3 = s.activeCtx → s.fstate = fabRunning → exec (.ctxSwitch p v) s = .next (s.nextTck.putWord Reg.CONFIG_CTX_SWITCH v)) ∧
    (bitAt v 0 = true → bitsOf v 45 3 ≠ s.activeCtx → s.ctxState (bitsOf v 45 3) ≠ ctxVerified → Answers (.ctxSwitch p v) s fun t =>
      t.get Fld.CONFIG_CTX_STATE_REFUSE_CAUSE = 1 ∧ t.flag Fld.CONFIG_EVENTS_CTX_REFUSED = true ∧ t.activeCtx = s.activeCtx ∧
      OnlyRegs [Reg.CONFIG_CTX_SWITCH, Reg.CONFIG_CTX_STATE, Reg.CONFIG_EVENTS] s.nextTck t) ∧
    (bitAt v 0 = true → bitsOf v 45 3 ≠ s.activeCtx → s.ctxState (bitsOf v 45 3) = ctxVerified → ctxPending s = true → Answers (.ctxSwitch p v) s fun t =>
      t.get Fld.CONFIG_CTX_STATE_REFUSE_CAUSE = 2 ∧ t.flag Fld.CONFIG_EVENTS_CTX_REFUSED = true ∧ t.activeCtx = s.activeCtx) ∧
    (bitAt v 0 = true → bitsOf v 45 3 ≠ s.activeCtx → s.ctxState (bitsOf v 45 3) = ctxVerified → ctxPending s = false → s.fstate = fabRunning →
      (bitAt v 44 = true → Answers (.ctxSwitch p v) s fun t => t.flag Fld.CONFIG_CTX_STATE_PENDING = true ∧
        t.get Fld.CONFIG_CTX_STATE_PEND_CTX = bitsOf v 45 3 ∧ t.activeCtx = s.activeCtx ∧ ctxPending t = true ∧ t.fabric = s.fabric ∧
        RegsBut [Reg.CONFIG_CTX_SWITCH, Reg.CONFIG_CTX_STATE] s t) ∧
      (bitAt v 44 = false → hiveCtxArmed s = false → Answers (.ctxSwitch p v) s fun t => t.activeCtx = bitsOf v 45 3 ∧
        t.get Fld.CONFIG_CTX_STATE_STATES = s.get Fld.CONFIG_CTX_STATE_STATES ∧ t.commit = s.commit ∧ t.config = s.config ∧ SameMemory s t))) ∧
  (∀ s : State, Live s →
    (s.fabric.memReady = true → exec .memoryInitDone s = .next s) ∧
    (s.fabric.memReady = false → s.inHold = true → exec .memoryInitDone s = .next { s with fabric := { s.fabric with memReady := true } }) ∧
    (s.fabric.memReady = false → s.inHold = false → s.flag Fld.UPDATE_BOOT_VALID = false → Answers .memoryInitDone s fun t =>
      t.fabric.memReady = true ∧ t.fstate = fabLoading ∧ t.config = s.config ∧ RegsBut [Reg.FABRIC_STATUS] s t) ∧
    (s.fabric.memReady = false → s.inHold = false → s.flag Fld.UPDATE_BOOT_VALID = true → s.config.load = none → stagingBad s = false →
      Answers .memoryInitDone s fun t => t.fabric.memReady = true ∧ t.fstate = fabLoading ∧ t.loader = loaderCopy ∧
        t.get Fld.CONFIG_LOAD_STAT_CTX = 0 ∧ (∃ l, t.config.load = some l ∧ l.ctx = 0 ∧ l.sector = s.get Fld.UPDATE_BOOT_SECTOR ∧ l.forReset = true) ∧
        SameMemory s t))

/-- GO is refused while a load runs and where its target is the active context, and else begins COPY (R71, R461). The staging settings hold still during a
load (R460). Each step ends in the next, or in IDLE with LOAD_FAILED and its cause: the stream stands in staging after COPY, the target is LOADING after
CHECK and UNVERIFIED after WRITE, and the end of the verify detour is LOAD_DONE (R462 to R466). Completion: exec answers the stated next state of the
command's own effect, wherever the conditions that its clause puts on the state and the operands alone hold, for LOAD_GO, LOAD_COPY_END, LOAD_CHECK_END,
LOAD_WRITE_END, LOAD_DONE and STAGE_WRITE. -/
def Obligations.ConfigurationLoads : Prop :=
  (∀ (p : Path) (v : Word) (s : State), Live s → MayWriteBasic p 0x28 s →
    (bitAt v 0 = false → exec (.loadGo p v) s = .next (s.nextTck.putWord Reg.CONFIG_LOAD_CTRL v)) ∧
    (bitAt v 0 = true → s.config.load.isSome = true → exec (.loadGo p v) s = .next ((s.nextTck.putWord Reg.CONFIG_LOAD_CTRL v).raiseBit 0x28 43)) ∧
    (bitAt v 0 = true → s.config.load = none → bitsOf v 34 3 = s.activeCtx → Answers (.loadGo p v) s fun t =>
      t.get Fld.CONFIG_LOAD_STAT_CAUSE = 1 ∧ t.flag Fld.CONFIG_EVENTS_LOAD_FAILED = true ∧
      OnlyRegs [Reg.CONFIG_LOAD_CTRL, Reg.CONFIG_LOAD_STAT, Reg.CONFIG_EVENTS] s.nextTck t) ∧
    (bitAt v 0 = true → s.config.load = none → bitsOf v 34 3 ≠ s.activeCtx → stagingBad s = true → Answers (.loadGo p v) s fun t =>
      t.get Fld.CONFIG_LOAD_STAT_CAUSE = 2 ∧ t.flag Fld.CONFIG_EVENTS_LOAD_FAILED = true ∧ t.config = s.config) ∧
    (bitAt v 0 = true → s.config.load = none → bitsOf v 34 3 ≠ s.activeCtx → stagingBad s = false → Answers (.loadGo p v) s fun t =>
      t.loader = loaderCopy ∧ t.get Fld.CONFIG_LOAD_STAT_CTX = bitsOf v 34 3 ∧
      (∃ l, t.config.load = some l ∧ l.ctx = bitsOf v 34 3 ∧ l.sector = bitsOf v 37 11 ∧ l.start = s.nextTck.now + 1 ∧ l.stage = s.get Fld.CONFIG_STAGE_FIRST ∧
        l.forReset = false ∧ l.forActivation = false) ∧ t.fabric = s.fabric ∧ t.store = s.store)) ∧
  (∀ (p : Path) (v : Word) (s : State), Live s → MayWriteBasic p 0x28 s →
    (s.config.load.isSome = true → exec (.stageWrite p v) s = .next (s.nextTck.raiseBit 0x28 43)) ∧
    (s.config.load = none → exec (.stageWrite p v) s = .next (s.nextTck.putWord Reg.CONFIG_STAGE v))) ∧
  (∀ (s : State) (found : List (Nat × BitVec 32)) (flips : List (Nat × Nat)), Live s →
    (s.config.load = none ∨ s.loader ≠ loaderCopy → exec .loadCopyEnd s = .next s) ∧
    (s.config.load = none ∨ s.loader ≠ loaderCheck → exec (.loadCheckEnd found) s = .next s) ∧
    (s.config.load = none ∨ s.loader ≠ loaderWrite → exec (.loadWriteEnd flips) s = .next s) ∧
    (s.config.load = none ∨ s.loader ≠ loaderVerify → exec .loadDone s = .next s)) ∧
  (∀ (l : Load) (s : State), Live s → s.config.load = some l → s.loader = loaderCopy → l.forReset = false → l.forActivation = false →
    ((headerCause s l).1 ≠ 0 → (headerCause s l).1 < 16 → Answers .loadCopyEnd s fun t => t.get Fld.CONFIG_LOAD_STAT_CAUSE = (headerCause s l).1 ∧
      t.flag Fld.CONFIG_EVENTS_LOAD_FAILED = true ∧ t.config.load = none ∧ t.loader = loaderIdle ∧ t.now = max s.now (l.start + (headerCause s l).2) ∧
      SameMemory s t) ∧
    ((headerCause s l).1 = 0 → (∀ k, k < l.words → s.tileState ((1024 * l.stage + k) / 1024) = tileGood) → Answers .loadCopyEnd s fun t =>
      t.loader = loaderCheck ∧ t.now = max s.now (l.start + l.words) ∧ (∀ k, k < l.words → t.memRaw (1024 * l.stage + k) = streamWord s l.sector k) ∧
      (∀ a, a < 1024 * l.stage ∨ 1024 * l.stage + l.words ≤ a → t.memRaw a = s.memRaw a) ∧ t.config.load = some l ∧ t.store = s.store)) ∧
  (∀ (l : Load) (s : State), Live s → s.config.load = some l → s.loader = loaderCheck → l.forReset = false → l.forActivation = false → l.ctx < 8 →
    (∀ k, k < ceilDiv l.words 1024 → s.tileState (l.stage + k) = tileGood) →
    ((recordsCause s l).1 < 16 → Answers (.loadCheckEnd []) s fun t => SameMemory s t ∧
      (tagOk s l = false → t.get Fld.CONFIG_LOAD_STAT_CAUSE = 6 ∧ t.flag Fld.CONFIG_EVENTS_LOAD_FAILED = true ∧
        t.config.load = none ∧ t.loader = loaderIdle ∧ t.reg Reg.CONFIG_CTX_STATE = s.reg Reg.CONFIG_CTX_STATE) ∧
      (tagOk s l = true → (recordsCause s l).1 ≠ 0 → t.get Fld.CONFIG_LOAD_STAT_CAUSE = (recordsCause s l).1 ∧
        t.get Fld.CONFIG_LOAD_STAT_FA = (recordsCause s l).2 % 16384 ∧ t.flag Fld.CONFIG_EVENTS_LOAD_FAILED = true ∧ t.config.load = none ∧
        t.loader = loaderIdle ∧ t.reg Reg.CONFIG_CTX_STATE = s.reg Reg.CONFIG_CTX_STATE) ∧
      (tagOk s l = true → (recordsCause s l).1 = 0 → t.loader = loaderWrite ∧ t.ctxState l.ctx = ctxLoading ∧
        (∀ k, k < 4 → t.decl l.ctx (5 + k) = stagedWord s l (5 + k)) ∧ t.config.load = some { l with start := t.now } ∧
        t.now = max s.now (l.start + l.words + 1040 * ceilDiv l.words 1024) ∧ t.config.frames = s.config.frames))) ∧
  (∀ (l : Load) (flips : List (Nat × Nat)) (s : State), Live s → s.config.load = some l → s.loader = loaderWrite → l.forReset = false →
    l.forActivation = false → l.ctx < 8 →
    ((writeRecords l flips (recordCount s l) 0 (s.elapseTo (l.start + 65 * recordCount s l))).1 = recordCount s l → Answers (.loadWriteEnd flips) s fun t =>
      t.loader = loaderVerify ∧ t.ctxState l.ctx = ctxUnverified ∧ t.now = max s.now (l.start + 65 * recordCount s l) ∧ SameMemory s t) ∧
    ((writeRecords l flips (recordCount s l) 0 (s.elapseTo (l.start + 65 * recordCount s l))).1 < recordCount s l → Answers (.loadWriteEnd flips) s fun t =>
      t.get Fld.CONFIG_LOAD_STAT_CAUSE = 12 ∧ t.flag Fld.CONFIG_EVENTS_LOAD_FAILED = true ∧ t.config.load = none ∧ t.loader = loaderIdle ∧
      t.ctxState l.ctx = ctxUnverified ∧ SameMemory s t)) ∧
  (∀ (l : Load) (s : State), Live s → s.config.load = some l → s.loader = loaderVerify → verifying s = false → s.slot ≠ slotChecking →
    (s.fstate ≠ fabLoading → Answers .loadDone s fun t => t.config.load = none ∧ t.loader = loaderIdle ∧ t.get Fld.CONFIG_LOAD_STAT_CAUSE = 0 ∧
      t.flag Fld.CONFIG_EVENTS_LOAD_DONE = true ∧ t.now = s.now ∧ t.reg Reg.CONFIG_CTX_STATE = s.reg Reg.CONFIG_CTX_STATE ∧ t.fstate = s.fstate ∧ SameMemory s t) ∧
    (s.fstate = fabLoading → s.ctxState 0 = ctxVerified → Answers .loadDone s fun t => t.config.load = none ∧
      t.flag Fld.CONFIG_EVENTS_LOAD_DONE = true ∧ t.fstate = fabStarting ∧ t.activeCtx = 0 ∧ t.now = s.now + 1 ∧ SameMemory s t))

/-- A slot of a context that holds nothing only passes, the last slot of a pass counts it and begins the next at the active context (R469). A clean frame
stays as it is, a frame with one inverted bit is corrected in place, counted and reported (R470). A disagreement of the scrubber's own state is counted;
of a tile bit it clears the bit, of a control register's copy it starts its self-test, and where no two copies agree the pass restarts (R445, R477,
R478, R557). Completion: exec answers the stated next state of the command's own effect, wherever the conditions that its clause puts on the state and
the operands alone hold, for SCRUB_SLOT, MAP_SCRUB_DONE, SELF_UPSET, SCRUB_BASIC_WRITE and PASSES_CLEAR. -/
def Obligations.ScrubberSlotsAndVotes : Prop :=
  (∀ (flips : List (Fin 3088)) (s : State), Live s → s.config.detours = [] → readable s (slotCtx s) = false →
    (s.config.slot + 1 < 98304 → Answers (.scrubSlot flips) s fun t => t.config.slot = s.config.slot + 1 ∧ t.now = max s.now s.config.slotEnd ∧
      t.config.slotEnd = t.now + slotLength s ∧ t.config.frames = s.config.frames ∧ t.get Fld.SCRUB_STATUS_TILE = slotFa t / 256 ∧
      t.get Fld.SCRUB_STATUS_FRAME = slotFa t % 256 ∧ RegsBut [Reg.SCRUB_STATUS, 0x2905] s t ∧ SameMemory s t) ∧
    (s.config.slot + 1 = 98304 → Answers (.scrubSlot flips) s fun t => t.config.slot = 0 ∧ t.config.base = s.activeCtx ∧
      t.get Fld.SCRUB_PASSES_PASSES = (s.get Fld.SCRUB_PASSES_PASSES + 1) % 2 ^ 32 ∧ t.config.basic = s.reg Reg.SCRUB_BASIC ∧
      t.flag Fld.SCRUB_STATUS_MAP_DONE = false ∧ t.config.passStart = t.now ∧ RegsBut [Reg.SCRUB_STATUS, Reg.SCRUB_PASSES, 0x2905] s t)) ∧
  (∀ s : State, Live s → s.config.detours = [] → readable s (slotCtx s) = true → slotFa s % 256 ≠ 255 → s.config.slot + 1 < 98304 →
    (decodeWords (frameWords s (slotCtx s) (slotFa s)) = .clean → Answers (.scrubSlot []) s fun t => t.config.slot = s.config.slot + 1 ∧
      t.config.frames = s.config.frames ∧ t.now = max s.now s.config.slotEnd ∧ RegsBut [Reg.SCRUB_STATUS, 0x2905] s t) ∧
    (∀ pos : Nat, decodeWords (frameWords s (slotCtx s) (slotFa s)) = .single pos → s.flag Fld.SCRUB_STATUS_MAP_DONE = false → Answers (.scrubSlot []) s fun t =>
      t.config.slot = s.config.slot + 1 ∧ frameWords t (slotCtx s) (slotFa s) = correctFrame (frameWords s (slotCtx s) (slotFa s)) pos ∧
      t.flag Fld.SCRUB_EVENTS_CORRECTED = true ∧ t.get Fld.SCRUB_COUNTS_CORRECTED = min (s.get Fld.SCRUB_COUNTS_CORRECTED + 1) 65535 ∧
      t.get Fld.SCRUB_LAST_ERR_KIND = 0 ∧ t.get Fld.SCRUB_LAST_ERR_FA = slotFa s ∧ SameMemory s t)) ∧
  (∀ s : State, Live s → s.config.waits = [] → exec (.mapScrubDone []) s = .next (s.set Fld.SCRUB_STATUS_MAP_DONE 1)) ∧
  (∀ s : State, Live s →
    (∀ (c : Fin 8) (k : Fin 48), Answers (.selfUpset (.tileBit c k)) s fun t => tileBit t c k = false ∧ t.flag Fld.SCRUB_EVENTS_SELF_UPSET = true ∧
      t.get Fld.SCRUB_COUNTS_SELF_UPSETS = min (s.get Fld.SCRUB_COUNTS_SELF_UPSETS + 1) 255 ∧ t.config = s.config ∧ SameMemory s t) ∧
    (∀ k : Fin 3, s.config.copiesOut = [] → s.fault.tests = [] → Answers (.selfUpset (.control k)) s fun t => t.flag Fld.SCRUB_EVENTS_SELF_UPSET = true ∧
      t.fault.tests = [⟨kindScrubReg, objCopy k, some t.now⟩] ∧ t.flag Fld.FAULT_EVENTS_NEW_FAULT = true ∧ t.config = s.config ∧ SameMemory s t) ∧
    (Answers (.selfUpset .allDiffer) s fun t => t.config.slot = 0 ∧ t.config.detourFrame = 0 ∧ t.flag Fld.SCRUB_EVENTS_PASS_RESTART = true ∧
      t.flag Fld.SCRUB_EVENTS_SELF_UPSET = true ∧ t.config.frames = s.config.frames ∧ SameMemory s t)) ∧
  (∀ (p : Path) (v : Word) (s : State), Live s → MayWriteBasic p 0x29 s →
    (bitsOf v 43 2 = 3 → exec (.scrubBasicWrite p v) s = .next (s.nextTck.raiseBit 0x29 45)) ∧
    (bitsOf v 43 2 ≠ 3 → exec (.scrubBasicWrite p v) s = .next (s.nextTck.putWord Reg.SCRUB_BASIC v)) ∧
    (bitAt v 0 = true → exec (.passesClear p v) s = .next ((s.nextTck.setReg Reg.SCRUB_PASSES 0).setReg Reg.SCRUB_COUNTS 0)) ∧
    (bitAt v 0 = false → exec (.passesClear p v) s = .next s.nextTck))

/-- GO of STORE.PIECE_CTRL is refused while the store's operation runs (R71); a write outside the user area is refused with AREA_REFUSED and else waits for
the store, a read of a SYSTEM sector gives zeros (R485). A piece write that completes programs its sector once, which counts, and answers its requester:
DONE, or the slot's bitmap and status 0 (R482, R491, R496). Completion: exec answers the stated next state of the command's own effect, wherever the
conditions that its clause puts on the state and the operands alone hold, for PIECE_CTRL_GO and PIECE_WRITE_DONE. -/
def Obligations.StorePieceWritesAndReads : Prop :=
  (∀ (p : Path) (v : Word) (s : State), Live s → MayWriteBasic p 0x2A s →
    (bitAt v 0 = false → exec (.pieceCtrlGo p v) s = .next (s.nextTck.putWord Reg.STORE_PIECE_CTRL v)) ∧
    (bitAt v 0 = true → opActive s 0x2A = true → exec (.pieceCtrlGo p v) s = .next ((s.nextTck.putWord Reg.STORE_PIECE_CTRL v).raiseBit 0x2A 43)) ∧
    (bitAt v 0 = true → opActive s 0x2A = false → bitAt v 32 = true → (bitsOf v 37 11 < 80 ∨ 1792 ≤ bitsOf v 37 11 ∨ s.slot = slotActivating) →
      exec (.pieceCtrlGo p v) s = .next ((s.nextTck.putWord Reg.STORE_PIECE_CTRL v).set Fld.STORE_EVENTS_AREA_REFUSED 1)) ∧
    (bitAt v 0 = true → opActive s 0x2A = false → bitAt v 32 = true → 80 ≤ bitsOf v 37 11 → bitsOf v 37 11 < 1792 → s.slot ≠ slotActivating →
      Answers (.pieceCtrlGo p v) s fun t => opActive t 0x2A = true ∧ t.store.bytes = s.store.bytes ∧ t.store.jobs = s.store.jobs ++
        [⟨true, bitsOf v 37 11, bitsOf v 33 4, (List.range 683).map fun i => Table.get (fun _ => 0) s.store.buffer i, none⟩]) ∧
    (bitAt v 0 = true → opActive s 0x2A = false → bitAt v 32 = false → bitsOf v 37 11 < 16 → Answers (.pieceCtrlGo p v) s fun t =>
      (∀ i, Table.get (fun _ => 0) t.store.buffer i = 0) ∧ t.flag Fld.STORE_EVENTS_DONE = true ∧ t.store.bytes = s.store.bytes ∧ t.store.jobs = s.store.jobs) ∧
    (bitAt v 0 = true → opActive s 0x2A = false → bitAt v 32 = false → 16 ≤ bitsOf v 37 11 → bitsOf v 37 11 < 1792 → Answers (.pieceCtrlGo p v) s fun t =>
      (∀ i, i < 683 → Table.get (fun _ => 0) t.store.buffer i =
        (packPiece ((List.range 4096).map fun k => s.storeByte (65536 * bitsOf v 37 11 + 4096 * bitsOf v 33 4 + k))).getD i 0) ∧
      t.flag Fld.STORE_EVENTS_DONE = true ∧ t.store.bytes = s.store.bytes)) ∧
  (∀ (ok : Bool) (s : State), Live s → s.store.jobs = [] → exec (.pieceWriteDone ok) s = .next s) ∧
  (∀ (j : StoreJob) (r : List StoreJob) (s : State), Live s → s.store.jobs = j :: r → s.slot ≠ slotActivating →
    (j.ctrl = true → s.readOnly (s.physOf j.sector) = false → Answers (.pieceWriteDone true) s fun t => t.store.jobs = r ∧
      t.store.bytes = Table.putList (fun _ => 0) s.store.bytes (65536 * s.physOf j.sector + 4096 * j.piece) (pieceBytes j.data) ∧
      t.writesOf (s.physOf j.sector) = s.writesOf (s.physOf j.sector) + 1 ∧ t.store.map = s.store.map ∧
      t.flag Fld.STORE_EVENTS_DONE = true ∧ opActive t 0x2A = false ∧ RegsBut [0x2A03, 0x2A04, 0x2A05] s t) ∧
    (j.ctrl = true → s.readOnly (s.physOf j.sector) = true → s.store.pool = [] → Answers (.pieceWriteDone true) s fun t => t.store.jobs = r ∧
      t.store.bytes = s.store.bytes ∧ t.flag Fld.STORE_EVENTS_WORN = true ∧ opActive t 0x2A = false) ∧
    (j.ctrl = false → s.readOnly (s.store.reserved.getD j.sector 0) = false → s.update.sinceCommit + 1 < 64 →
      (∃ i, i < imagePieces s ∧ i ≠ 16 * j.sector + j.piece ∧ pieceReceived s i = false) → Answers (.pieceWriteDone true) s fun t => t.store.jobs = r ∧
        t.store.bytes = Table.putList (fun _ => 0) s.store.bytes (65536 * s.store.reserved.getD j.sector 0 + 4096 * j.piece) (pieceBytes j.data) ∧
        pieceReceived t (16 * j.sector + j.piece) = true ∧ t.update.committed = s.update.committed ∧ t.slot = s.slot ∧
        t.update.answers = s.update.answers ++ [⟨j.request, 0, 16 * j.sector + j.piece⟩]))

/-- A piece is judged by the first row of R491: refused while reception is off or the slot is busy, for its length, while two wait, or where no transfer is
open; the next one that every row lets pass waits for the store. Each outcome is answered in order, by LAST_PIECE for PIECE_GO and by PIECE_RESP for a
packet to this node alone (R490). Verification ends in READY or in REJECTED with its cause (R493, R494), and ABORT empties the slot, but not while it
activates or checks (R493, R496). Completion: exec answers the stated next state of the command's own effect, wherever the conditions that its clause
puts on the state and the operands alone hold, for PIECE, PIECE_GO, PIECE_RESP, VERIFY_DONE and ABORT. -/
def Obligations.ImagePiecesAndVerification : Prop :=
  (∀ (k : Packet) (r : List Packet) (s : State), Live s → Arrived planeManagement 0x10 k r s →
    (s.flag Fld.UPDATE_BASIC_RX_EN = false → exec .piece s = .next { s.withInbox r with update := { s.update with
      answers := s.update.answers ++ [⟨some k, 1, bitsOf (k.payload.getD 0 0) 32 16⟩] } }) ∧
    (s.flag Fld.UPDATE_BASIC_RX_EN = true → s.slot = slotReceiving → k.payload.length ≠ 683 → exec .piece s = .next { s.withInbox r with update := { s.update with
      answers := s.update.answers ++ [⟨some k, 9, bitsOf (k.payload.getD 0 0) 32 16⟩] } })) ∧
  (∀ (p : Path) (s : State), Live s → s.pathOpen p 0x2B = true → s.expert 0x2B = false →
    (s.slot = slotVerifying ∨ s.slot = slotActivating ∨ s.slot = slotChecking → exec (.pieceGo p) s = .next { s.nextTck with update := { s.nextTck.update with
      answers := s.nextTck.update.answers ++ [⟨none, 1, bitsOf (Table.get (fun _ => 0) s.nextTck.update.pieceBuf 0) 32 16⟩] } }) ∧
    (s.flag Fld.UPDATE_BASIC_RX_EN = true → s.slot = slotEmpty → (s.store.jobs.filter fun j => !j.ctrl).length < 2 →
      bitsOf (Table.get (fun _ => 0) s.update.pieceBuf 0) 32 16 ≠ 0 → exec (.pieceGo p) s = .next { s.nextTck with update := { s.nextTck.update with
        answers := s.nextTck.update.answers ++ [⟨none, 2, bitsOf (Table.get (fun _ => 0) s.nextTck.update.pieceBuf 0) 32 16⟩] } }) ∧
    (s.flag Fld.UPDATE_BASIC_RX_EN = true → s.slot = slotReceiving → 2 ≤ (s.store.jobs.filter fun j => !j.ctrl).length →
      exec (.pieceGo p) s = .next { s.nextTck with update := { s.nextTck.update with
        answers := s.nextTck.update.answers ++ [⟨none, 10, bitsOf (Table.get (fun _ => 0) s.nextTck.update.pieceBuf 0) 32 16⟩] } }) ∧
    (∀ i : Nat, s.flag Fld.UPDATE_BASIC_RX_EN = true → s.slot = slotReceiving → (s.store.jobs.filter fun j => !j.ctrl).length < 2 →
      i = bitsOf (Table.get (fun _ => 0) s.update.pieceBuf 0) 32 16 → i ≠ 0 → i < imagePieces s → pieceReceived s i = false →
      (i < 16 ∨ pieceReceived s (1 + i / 1024) = true) →
      pieceCrc s i (pieceBytes ((List.range 683).map fun n => Table.get (fun _ => 0) s.update.pieceBuf n)) = true →
      exec (.pieceGo p) s = .next { s.nextTck with store := { s.nextTck.store with jobs := s.nextTck.store.jobs ++
        [⟨false, i / 16, i % 16, (List.range 683).map fun n => Table.get (fun _ => 0) s.nextTck.update.pieceBuf n, none⟩] } })) ∧
  (∀ (a : PieceAnswer) (r : List PieceAnswer) (s : State), Live s → s.update.answers = a :: r → a.status < 16 →
    (a.request = none → Answers .pieceResp s fun t => t.get Fld.UPDATE_LAST_PIECE_STATUS = a.status ∧
      t.get Fld.UPDATE_LAST_PIECE_INDEX = a.index % 65536 ∧ t.update.answers = r ∧
      (a.status ≠ 0 → a.status ≠ 7 → t.flag Fld.UPDATE_EVENTS_PIECE_REFUSED = true) ∧ RegsBut [Reg.UPDATE_LAST_PIECE, Reg.UPDATE_EVENTS] s t) ∧
    (∀ k : Packet, a.request = some k → pktDest k = broadcast → exec .pieceResp s = .next { s with update := { s.update with answers := r } }) ∧
    (∀ k : Packet, a.request = some k → pktDest k ≠ broadcast → MaySend (pktSource k) s → a.status = 0 → pktSource k < 128 →
      exec .pieceResp s = .next ({ s with update := { s.update with answers := r } }.sent (mkPacket (pktSource k) s.addr planeManagement 0x30 (pktSeq k)
        [packWord [(44, 4, 0), (28, 16, a.index), (15, 13, s.update.received.length)]])))) ∧
  (∀ s : State, Live s → s.update.answers = [] → exec .pieceResp s = .next s) ∧
  (∀ s : State, Live s →
    (s.slot ≠ slotVerifying → exec .verifyDone s = .next s) ∧
    (s.slot = slotVerifying → Answers .verifyDone s fun t =>
      (verifyCause s = 0 → t.slot = slotReady ∧ t.flag Fld.UPDATE_EVENTS_READY = true ∧ t.store.reserved.length = s.store.reserved.length ∧
        t.update = s.update) ∧
      (verifyCause s ≠ 0 → t.slot = slotRejected ∧ t.get Fld.UPDATE_STATUS_CAUSE = verifyCause s ∧ t.flag Fld.UPDATE_EVENTS_REJECTED = true ∧
        t.store.reserved = [] ∧ SameMemory s t))) ∧
  (∀ (p : Path) (s : State), Live s → s.pathOpen p 0x2B = true → s.expert 0x2B = false →
    (s.slot = slotActivating ∨ s.slot = slotChecking → exec (.abort p) s = .next (s.nextTck.raiseBit 0x2B 43)) ∧
    (s.slot = slotEmpty → exec (.abort p) s = .next s.nextTck) ∧
    (s.slot ≠ slotActivating → s.slot ≠ slotChecking → s.slot ≠ slotEmpty → Answers (.abort p) s fun t => t.slot = slotEmpty ∧ t.reg Reg.UPDATE_IMAGE = 0 ∧
      t.get Fld.UPDATE_STATUS_CLASS = 0 ∧ t.update.received = [] ∧ t.update.committed = [] ∧ t.store.reserved = [] ∧
      (∀ j ∈ t.store.jobs, j.ctrl = true) ∧ SameMemory s t))

/-- ACTIVATE acts on a READY slot alone: it is refused with its cause (R494, R498, R500), or the slot is ACTIVATING and CHECKING 1,024 tck later (R499). A
pending hive-class activation acts in its second on the image it names, and else raises ACT_MISSED (R500). The check passes once everything it asks for
has come, and the device enters HOLD where it fails or its time ends (R499, R501, R504). A failed microcode reload is HOLD (R502, R504). Completion:
exec answers the stated next state of the command's own effect, wherever the conditions that its clause puts on the state and the operands alone hold,
for ACTIVATE, HIVE_ACTIVATION, ACCEPT, CHECK_TIME_END, POST_ACTIVATION_CHECK, MC_READY and ACTIVATION_CHECKING. -/
def Obligations.ActivationsAndChecks : Prop :=
  (∀ (p : Path) (s : State), Live s → s.pathOpen p 0x2B = true → s.expert 0x2B = false →
    (s.slot ≠ slotReady → exec (.activate p) s = .next s.nextTck) ∧
    (s.slot = slotReady → s.inHold = false → imageClass s = classHive → s.addr ≠ 0 → exec (.activate p) s =
      .next ((s.nextTck.set Fld.UPDATE_STATUS_CAUSE 10).set Fld.UPDATE_EVENTS_REJECTED 1)) ∧
    (s.slot = slotReady → s.inHold = false → imageClass s = classHive → s.addr = 0 → Answers (.activate p) s fun t =>
      t.clock.inReset = true ∧ t.clock.byActivation = true ∧ t.update.marker = true ∧ t.slot = slotActivating ∧ t.now = s.nextTck.now) ∧
    (s.slot = slotReady → s.inHold = false → imageClass s ≠ classHive → activateCause s ≠ 0 → exec (.activate p) s =
      .next ((s.nextTck.set Fld.UPDATE_STATUS_CAUSE (activateCause s.nextTck)).set Fld.UPDATE_EVENTS_REJECTED 1)) ∧
    (s.slot = slotReady → s.inHold = false → imageClass s ≠ classHive → activateCause s = 0 → (s.config.load.isSome = true ∨ opActive s 0x2B = true) →
      exec (.activate p) s = .next (s.nextTck.raiseBit 0x2B 43)) ∧
    (s.slot = slotReady → s.inHold = false → imageClass s = classStation → activateCause s = 0 → s.config.load = none → opActive s 0x2B = false →
      Answers (.activate p) s fun t => t.slot = slotActivating ∧ t.update.activatedAt = some s.nextTck.now ∧ t.update.requireAccept = bitAt (imageWord s 8) 39 ∧
        t.update.checkTime = bitsOf (imageWord s 8) 40 8 ∧ t.now = s.nextTck.now ∧ t.store.reserved = [] ∧ SameMemory s t)) ∧
  (∀ s : State, Live s →
    (s.hive.activate = none → exec .hiveActivation s = .next s) ∧
    (∀ w : Word, s.hive.activate = some w → (s.slot ≠ slotReady ∨ imageClass s ≠ classHive ∨ slotImage s % 65536 ≠ bitsOf w 0 16) →
      Answers .hiveActivation s fun t => t.flag Fld.UPDATE_EVENTS_ACT_MISSED = true ∧ t.hive.activate = none ∧ t.clock.inReset = false ∧
        t.slot = s.slot ∧ RegsBut [Reg.UPDATE_EVENTS] s t) ∧
    (∀ w : Word, s.hive.activate = some w → s.inHold = false → s.slot = slotReady → imageClass s = classHive → slotImage s % 65536 = bitsOf w 0 16 →
      Answers .hiveActivation s fun t => t.clock.inReset = true ∧ t.update.marker = true ∧ t.slot = slotActivating)) ∧
  (∀ s : State, Live s →
    (s.update.activatedAt = none → exec .activationChecking s = .next s) ∧
    (∀ due : Nat, s.update.activatedAt = some due → s.update.streams = [] → s.update.bootSector = none → s.config.load = none →
      s.update.requireAccept = true → Answers .activationChecking s fun t => t.slot = slotChecking ∧ t.now = max s.now (due + 1024) ∧
        t.update.checkStart = some t.now ∧ t.update.accepted = false ∧ t.update.activatedAt = none) ∧
    (∀ due : Nat, s.update.activatedAt = some due → s.update.streams = [] → s.update.bootSector = none → s.config.load = none →
      s.update.requireAccept = false → s.update.marker = false → Answers .activationChecking s fun t => t.slot = slotEmpty ∧
        t.flag Fld.UPDATE_EVENTS_ACTIVATED = true ∧ t.flag Fld.UPDATE_STATUS_ACTIVATED = true)) ∧
  (∀ (p : Path) (s : State), Live s → s.pathOpen p 0x2B = true → s.expert 0x2B = false →
    (s.slot ≠ slotChecking ∨ s.update.checkStart = none → exec (.accept p) s = .next s.nextTck) ∧
    (s.slot = slotChecking → s.update.checkStart.isSome = true → (s.update.toLoad ≠ [] ∨ s.update.loadFailed = true ∨ s.update.marker = true) →
      exec (.accept p) s = .next { s.nextTck with update := { s.nextTck.update with accepted := true } }) ∧
    (s.slot = slotChecking → s.update.checkStart.isSome = true → s.update.toLoad = [] → s.update.loadFailed = false → s.update.marker = false →
      s.config.load = none → (∀ e ∈ s.update.streams, s.ctxState e.1 = ctxVerified) →
      (∀ since : Nat, s.update.checkStart = some since → s.now < since + 1920000 * s.update.checkTime) → Answers (.accept p) s fun t => t.slot = slotEmpty ∧
        t.flag Fld.UPDATE_EVENTS_ACTIVATED = true ∧ t.flag Fld.UPDATE_STATUS_ACTIVATED = true ∧ t.fabric = s.fabric)) ∧
  (∀ s : State, Live s →
    (s.update.checkStart = none ∨ s.slot ≠ slotChecking ∨ s.update.marker = true → exec .checkTimeEnd s = .next s) ∧
    (∀ since : Nat, s.update.checkStart = some since → s.slot = slotChecking → s.update.marker = false → Answers .checkTimeEnd s fun t =>
      t.inHold = true ∧ t.slot = slotEmpty ∧ t.get Fld.UPDATE_HOLD_CAUSE = 1 ∧ t.flag Fld.UPDATE_HOLD_ACTIVE = true ∧ t.fstate = fabReset ∧
      t.get Fld.UPDATE_HOLD_IMAGE_ID = slotImage s ∧ t.now = max s.now (since + 1920000 * s.update.checkTime))) ∧
  (∀ (ok : Bool) (s : State), Live s →
    (s.update.marker = false ∨ s.slot ≠ slotChecking → exec (.postActivationCheck ok) s = .next s) ∧
    (s.update.marker = true → s.slot = slotChecking → ok = true → s.flag Fld.UPDATE_STATUS_MC_READY = true → s.now ≤ reportBy s →
      Answers (.postActivationCheck ok) s fun t =>
      t.slot = slotEmpty ∧ t.update.marker = false ∧ t.flag Fld.UPDATE_EVENTS_ACTIVATED = true ∧ t.power = s.power) ∧
    (s.update.marker = true → s.slot = slotChecking → (ok = false ∨ s.flag Fld.UPDATE_STATUS_MC_READY = false ∨ reportBy s < s.now) →
      Answers (.postActivationCheck ok) s fun t => t.inHold = true ∧ t.get Fld.UPDATE_HOLD_CAUSE = 2 ∧ t.slot = slotEmpty ∧ t.now = max s.now (reportBy s))) ∧
  (∀ (ok : Bool) (s : State), Live s →
    (s.flag Fld.UPDATE_STATUS_MC_READY = true ∨ s.inHold = true → exec (.mcReady ok) s = .next s) ∧
    (s.flag Fld.UPDATE_STATUS_MC_READY = false → s.inHold = false → ok = true → exec (.mcReady ok) s = .next (s.set Fld.UPDATE_STATUS_MC_READY 1)) ∧
    (s.flag Fld.UPDATE_STATUS_MC_READY = false → s.inHold = false → ok = false → Answers (.mcReady ok) s fun t =>
      t.inHold = true ∧ t.get Fld.UPDATE_HOLD_CAUSE = 3 ∧ t.now = s.now))

/-- KEY_COMMIT installs a valid key once and refuses any other with KEY_REFUSED (R497). A boot record names a sector of the user area; another is refused
with INDEX_INVALID (R502, R508). Completion: exec answers the stated next state of the command's own effect, wherever the conditions that its clause
puts on the state and the operands alone hold, for KEY_COMMIT and BOOT_WRITE. -/
def Obligations.KeyAndBootRecord : Prop :=
  (∀ (p : Path) (s : State), Live s → s.pathOpen p 0x2B = true → s.expert 0x2B = false →
    (s.update.key.isSome = true ∨ onCurve (first512 ((List.range 11).map fun k => Table.get (fun _ => 0) s.update.keyBuf k)) = false →
      exec (.keyCommit p) s = .next (s.nextTck.set Fld.UPDATE_EVENTS_KEY_REFUSED 1)) ∧
    (s.update.key = none → onCurve (first512 ((List.range 11).map fun k => Table.get (fun _ => 0) s.update.keyBuf k)) = true →
      Answers (.keyCommit p) s fun t => t.update.key = some ((List.range 11).map fun k => Table.get (fun _ => 0) s.update.keyBuf k) ∧
        t.flag Fld.UPDATE_STATUS_KEY_PRESENT = true ∧ t.slot = s.slot ∧ t.fabric = s.fabric)) ∧
  (∀ (p : Path) (v : Word) (s : State), Live s → MayWriteBasic p 0x2B s →
    (bitsOf v 36 11 < 80 ∨ 1792 ≤ bitsOf v 36 11 → exec (.bootWrite p v) s = .next (s.nextTck.raiseBit 0x2B 45)) ∧
    (80 ≤ bitsOf v 36 11 → bitsOf v 36 11 < 1792 → Answers (.bootWrite p v) s fun t => t.get Fld.UPDATE_BOOT_SECTOR = bitsOf v 36 11 ∧
      t.flag Fld.UPDATE_BOOT_VALID = bitAt v 47 ∧ t.fabric = s.fabric ∧ t.update = s.update))

/-- With SERVICE_EN low no instruction acts and the port stays in BYPASS (R505). SVC_REG reaches the registers of its pages in HOLD and returns 0 elsewhere
(R504, R506); SVC_MEM reads and writes a word of the memory layer in every power state, but for a protected tile, which is refused and recorded (R443).
EXTEST drives what is shifted in, SAMPLE/PRELOAD only holds it, BYPASS holds one bit, whatever the core does (R36, R505). Completion: exec answers the
stated next state of the command's own effect, wherever the conditions that its clause puts on the state and the operands alone hold, for SVC_REG,
SVC_MEM, EXTEST, SAMPLE_PRELOAD, BYPASS and SERVICE_EN_CHANGE. -/
def Obligations.ServicePortInstructions : Prop :=
  (∀ (write ext : Bool) (a : BitVec 14) (b : BitVec 29) (v : Word) (c : BitVec 324) (si : Option (BitVec 324)) (x : Option Bool) (s : State),
    s.service.enabled = false → (Live s → exec (.svcReg write a v) s = .next s ∧ exec (.svcMem write ext b v) s = .next s) ∧
      exec (.extest c si) s = .next s ∧ exec (.samplePreload c si) s = .next s ∧ exec (.bypass x) s = .next s) ∧
  (∀ (a : BitVec 14) (v : Word) (s : State), Live s → s.service.enabled = true →
    (s.inHold = false → ∀ write : Bool, exec (.svcReg write a v) s = .next { s with service := { s.service with
      ir := 0x40, driving := false, regDone := true, regData := 0 } }) ∧
    (s.inHold = true → (a.toNat / 256 = 0 ∨ a.toNat / 256 = 1 ∨ a.toNat / 256 = 0x2A ∨ a.toNat / 256 = 0x2B) → isWindow a.toNat = false →
      Answers (.svcReg false a v) s fun t => t.service.regDone = true ∧ t.service.regData = regView s .service a.toNat ∧ t.regs = s.regs)) ∧
  (∀ (b : BitVec 29) (v : Word) (s : State), Live s → s.service.enabled = true →
    (b.toNat < 4194304 → protectedTile s (b.toNat / 1024) = true → ∀ write : Bool, Answers (.svcMem write false b v) s fun t =>
      t.service.memData = 0 ∧ t.flag Fld.FABRIC_EVENTS_PROT_REFUSED = true ∧ t.flag Fld.FABRIC_PROT_HIT_PATH = true ∧
      t.get Fld.FABRIC_PROT_HIT_ADDRESS = b.toNat ∧ SameMemory s t) ∧
    (b.toNat < 4194304 → protectedTile s (b.toNat / 1024) = false →
      Answers (.svcMem false false b v) s (fun t => t.service.memDone = true ∧ t.service.memData = s.memRead b.toNat ∧ t.regs = s.regs ∧ SameMemory s t) ∧
      (s.tileState (b.toNat / 1024) = tileGood → (s.flag Fld.HIVE_STATUS_QUEEN = false ∨ b.toNat < 4128768) →
        Answers (.svcMem true false b v) s fun t => t.service.memDone = true ∧ t.memRaw b.toNat = v ∧ (∀ k, k ≠ b.toNat → t.memRaw k = s.memRaw k) ∧
          RegsBut [Reg.FRAME_EVENTS] s t)) ∧
    (4194304 ≤ b.toNat → ∀ write : Bool, Answers (.svcMem write false b v) s fun t => t.service.memData = 0 ∧ t.regs = s.regs ∧ SameMemory s t) ∧
    ((s.extProtectedByte b.toNat = true) → ∀ write : Bool, Answers (.svcMem write true b v) s fun t => t.service.memData = 0 ∧
      t.flag Fld.FABRIC_EVENTS_PROT_REFUSED = true ∧ t.flag Fld.FABRIC_PROT_HIT_SPACE = true ∧ t.get Fld.FABRIC_PROT_HIT_ADDRESS = b.toNat ∧ SameExternal s t)) ∧
  (∀ (c : BitVec 324) (si : Option (BitVec 324)) (x : Option Bool) (s : State), s.service.enabled = true →
    exec (.extest c si) s = .next { s with service := { s.service with ir := 0x00, driving := true, boundary := si.getD c, latched := si.getD c } } ∧
    exec (.samplePreload c si) s = .next { s with service := { s.service with ir := 0x02, driving := false, boundary := si.getD c, latched := si.getD c } } ∧
    exec (.bypass x) s = .next { s with service := { s.service with ir := 0xFF, driving := false, bypassBit := x.getD false } }) ∧
  (∀ (on : Bool) (s : State), exec (.serviceEnChange on) s =
    .next { s with service := { s.service with ir := 0xFF, driving := false, enabled := on } })

/-- Enabling the external memory port is refused where it is absent, disabling it while a stream is open or a rekey runs; its multiplier then locks (R512).
Device settings are refused for sizes the space does not hold and for a busy device (R513, R529). A command waits for its answer, and its bytes take the
first places of DATA (R511, R529). A window access is refused with its cause where the port is not ready, no device answers, or a byte is protected, and
a plain PSRAM word reads and writes its six bytes, most significant first (R514, R519, R528). A write stream left for 10 ms closes, unless the write
that continues it is held for a rekey (R521, R523). Completion: exec answers the stated next state of the command's own effect, wherever the conditions
that its clause puts on the state and the operands alone hold, for XMEM_EN_WRITE, XMEM_PLL_LOCK, XMEM_DEV_WRITE, XMEM_CMD_GO, CMD_DONE,
XMEM_WINDOW_ACCESS and STREAM_TIMEOUT. -/
def Obligations.ExternalMemoryPort : Prop :=
  (∀ (p : Path) (v : Word) (s : State), Live s → MayWriteBasic p 0x2D s →
    (bitAt v 47 = true → s.flag Fld.XMEM_STATUS_ABSENT = true → exec (.xmemEnWrite p v) s = .next (s.nextTck.set Fld.XMEM_EVENTS_ENABLE_REFUSED 1)) ∧
    (bitAt v 47 = false → s.flag Fld.XMEM_BASIC_EN = true → portBusy s = true → exec (.xmemEnWrite p v) s = .next (s.nextTck.set Fld.XMEM_EVENTS_ENABLE_REFUSED 1)) ∧
    (bitAt v 47 = true → s.flag Fld.XMEM_STATUS_ABSENT = false → Answers (.xmemEnWrite p v) s fun t => t.flag Fld.XMEM_BASIC_EN = true ∧
      t.get Fld.XMEM_BASIC_CLK = bitsOf v 45 2 ∧ t.get Fld.XMEM_STATUS_PLL_LOCK = s.get Fld.XMEM_STATUS_PLL_LOCK ∧
      OnlyRegs [Reg.XMEM_BASIC, Reg.CLOCK_GATE, Reg.CLOCK_EVENTS] s.nextTck t) ∧
    (bitAt v 47 = false → (s.flag Fld.XMEM_BASIC_EN = false ∨ portBusy s = false) → Answers (.xmemEnWrite p v) s fun t => t.flag Fld.XMEM_BASIC_EN = false ∧
      t.flag Fld.XMEM_STATUS_PLL_LOCK = false ∧ OnlyRegs [Reg.XMEM_BASIC, Reg.XMEM_STATUS] s.nextTck t)) ∧
  (∀ s : State, Live s →
    (s.flag Fld.XMEM_BASIC_EN = true → exec .xmemPllLock s = .next (s.set Fld.XMEM_STATUS_PLL_LOCK 1)) ∧
    (s.flag Fld.XMEM_BASIC_EN = false → exec .xmemPllLock s = .next s)) ∧
  (∀ (p : Path) (n : Fin 2) (v : Word) (s : State), Live s → MayWriteBasic p 0x2D s →
    (devBusy s n = true ∨ bitsOf v 41 5 < 20 ∨ 29 < bitsOf v 41 5 ∨ sizesBad (s.putWord (Reg.XMEM_DEV n) v) = true →
      exec (.xmemDevWrite p n v) s = .next (s.nextTck.set Fld.XMEM_EVENTS_ENABLE_REFUSED 1)) ∧
    (devBusy s n = false → 20 ≤ bitsOf v 41 5 → bitsOf v 41 5 ≤ 29 → sizesBad (s.putWord (Reg.XMEM_DEV n) v) = false →
      exec (.xmemDevWrite p n v) s = .next (s.nextTck.putWord (Reg.XMEM_DEV n) v))) ∧
  (∀ (p : Path) (v : Word) (s : State), Live s → MayWriteBasic p 0x2D s →
    (bitAt v 0 = false → exec (.xmemCmdGo p v) s = .next (s.nextTck.putWord Reg.XMEM_CMD v)) ∧
    (bitAt v 0 = true → s.flag Fld.XMEM_CMD_BUSY = true → exec (.xmemCmdGo p v) s = .next ((s.nextTck.putWord Reg.XMEM_CMD v).raiseBit 0x2D 43)) ∧
    (bitAt v 0 = true → s.flag Fld.XMEM_CMD_BUSY = false → devBusy s (bitsOf v 39 1) = false → s.portReady = false → exec (.xmemCmdGo p v) s =
      .next (((s.nextTck.putWord Reg.XMEM_CMD v).set Fld.XMEM_STATUS_LAST_CAUSE 1).set Fld.XMEM_EVENTS_ACCESS_REFUSED 1)) ∧
    (bitAt v 0 = true → s.flag Fld.XMEM_CMD_BUSY = false → devBusy s (bitsOf v 39 1) = false → s.portReady = true →
      exec (.xmemCmdGo p v) s = .next ((s.nextTck.putWord Reg.XMEM_CMD v).set Fld.XMEM_CMD_BUSY 1))) ∧
  (∀ (data : BitVec 32) (s : State), Live s →
    (s.flag Fld.XMEM_CMD_BUSY = false → exec (.cmdDone data) s = .next s) ∧
    (s.flag Fld.XMEM_CMD_BUSY = true → s.flag Fld.XMEM_CMD_READ = false → exec (.cmdDone data) s =
      .next ((s.set Fld.XMEM_CMD_BUSY 0).set Fld.XMEM_EVENTS_CMD_DONE 1)) ∧
    (s.flag Fld.XMEM_CMD_BUSY = true → s.flag Fld.XMEM_CMD_READ = true → s.get Fld.XMEM_CMD_NBYTES = 4 → Answers (.cmdDone data) s fun t =>
      t.get Fld.XMEM_CMD_DATA = data.toNat ∧ t.flag Fld.XMEM_CMD_BUSY = false ∧ t.flag Fld.XMEM_EVENTS_CMD_DONE = true ∧
      OnlyRegs [Reg.XMEM_CMD, Reg.XMEM_EVENTS] s t)) ∧
  (∀ (p : Path) (w : Option Word) (s : State), Live s → s.pathOpen p 0x2D = true → readOpen s p 0x2D = true → bitsOf (s.winCtl p 0x2D) 40 8 = 1 →
    bitsOf (s.winCtl p 0x2D) 0 24 < extEntries s → bitAt (s.winCtl p 0x2D) 39 = false →
    (s.portReady = false → exec (.xmemWindowAccess p 0 w) s = .next ((s.nextTck.set Fld.XMEM_STATUS_LAST_CAUSE 1).set Fld.XMEM_EVENTS_ACCESS_REFUSED 1)) ∧
    (s.portReady = true → s.devAt (s.get Fld.XMEM_WIN_BASE_BYTE + 6 * bitsOf (s.winCtl p 0x2D) 0 24) = none →
      exec (.xmemWindowAccess p 0 w) s = .next ((s.nextTck.set Fld.XMEM_STATUS_LAST_CAUSE 2).set Fld.XMEM_EVENTS_ACCESS_REFUSED 1)) ∧
    (extCause s (s.get Fld.XMEM_WIN_BASE_BYTE + 6 * bitsOf (s.winCtl p 0x2D) 0 24) 6 = 0 →
      s.extProtectedByte (s.get Fld.XMEM_WIN_BASE_BYTE + 6 * bitsOf (s.winCtl p 0x2D) 0 24) = true → Answers (.xmemWindowAccess p 0 w) s fun t =>
        t.get Fld.XMEM_STATUS_LAST_CAUSE = 3 ∧ t.flag Fld.XMEM_EVENTS_PROT_REFUSED = true ∧ SameExternal s t)) ∧
  (∀ (p : Path) (v : Word) (a : Nat) (s : State), Live s → s.pathOpen p 0x2D = true → bitsOf (s.winCtl p 0x2D) 40 8 = 1 →
    bitsOf (s.winCtl p 0x2D) 0 24 < extEntries s → bitAt (s.winCtl p 0x2D) 39 = false →
    a = s.get Fld.XMEM_WIN_BASE_BYTE + 6 * bitsOf (s.winCtl p 0x2D) 0 24 → extCause s a 6 = 0 → (∀ k, k < 6 → s.extProtectedByte (a + k) = false) →
    s.xmem.stream = none → a % 65536 + 6 ≤ 65536 → s.isNor a = false → s.regionMode (a / 65536) = modePlain →
    Answers (.xmemWindowAccess p 0 (some v)) s fun t => (∀ k, k < 6 → t.extRaw (a + k) = some (BitVec.ofNat 8 (bitsOf v (40 - 8 * k) 8))) ∧
      (∀ b, b < a ∨ a + 6 ≤ b → t.extRaw b = s.extRaw b) ∧ t.regs = s.regs) ∧
  (∀ s : State, Live s →
    (s.xmem.stream = none → exec .streamTimeout s = .next s) ∧
    (∀ a since : Nat, s.xmem.stream = some (a, since) → (∃ e ∈ s.xmem.heldWrites, e.1 = a) → exec .streamTimeout s = .next s) ∧
    (∀ a since : Nat, s.xmem.stream = some (a, since) → (∀ e ∈ s.xmem.heldWrites, e.1 ≠ a) → Answers .streamTimeout s fun t => t.now = max s.now (since + 1920000) ∧ t.xmem.stream = none ∧
      t.flag Fld.XMEM_STATUS_STREAM = false ∧ (a % 65536 = 0 → SameExternal s t) ∧ (a % 65536 ≠ 0 → t.flag Fld.XMEM_EVENTS_STREAM_PADDED = true) ∧
      (∀ b, (b < a ∨ (a / 65536 + 1) * 65536 ≤ b) → t.extRaw b = s.extRaw b)))

/-- A run of regions takes a mode, one after the other, or the whole request is refused with MODE_REFUSED (R518), and with OP_REFUSED while the page's
operation runs (R71). A burst of the rekey engine moves POSITION by 1,024 bytes, and the last one leaves the region ENCRYPTED under the next generation
with COUNT 0 and lets the next rekey begin (R523, R524); none runs while the port or the device does not answer (R525). Completion: exec answers the
stated next state of the command's own effect, wherever the conditions that its clause puts on the state and the operands alone hold, for REGION_CTRL_GO
and REKEY_BURST. -/
def Obligations.RegionModesAndRekeys : Prop :=
  (∀ (p : Path) (v : Word) (s : State), Live s → MayWriteBasic p 0x2C s →
    (bitAt v 0 = false → exec (.regionCtrlGo p v) s = .next (s.nextTck.putWord Reg.CRYPT_REGION_CTRL v)) ∧
    (bitAt v 0 = true → opActive s 0x2C = true → exec (.regionCtrlGo p v) s = .next ((s.nextTck.putWord Reg.CRYPT_REGION_CTRL v).raiseBit 0x2C 43)) ∧
    (bitAt v 0 = true → opActive s 0x2C = false → (bitsOf v 22 13 < bitsOf v 35 13 ∨ ∃ r, bitsOf v 35 13 ≤ r ∧ r ≤ bitsOf v 22 13 ∧ modeBad s r = true) →
      exec (.regionCtrlGo p v) s = .next ((s.nextTck.putWord Reg.CRYPT_REGION_CTRL v).set Fld.CRYPT_EVENTS_MODE_REFUSED 1)) ∧
    (bitAt v 0 = true → bitsOf v 22 13 = bitsOf v 35 13 → modeBad s (bitsOf v 35 13) = false → (∀ q, s.readOnly q = false) → opActive s 0x2C = false →
      Answers (.regionCtrlGo p v) s fun t => t.regionMode (bitsOf v 35 13) = (if bitAt v 21 then modeEncrypted else modePlain) ∧
        t.regionGen (bitsOf v 35 13) = s.regionGen (bitsOf v 35 13) ∧ t.regionCount (bitsOf v 35 13) = s.regionCount (bitsOf v 35 13) ∧
        (∀ r, r ≠ bitsOf v 35 13 → t.regionWord r = s.regionWord r) ∧ opActive t 0x2C = false ∧ SameExternal s t)) ∧
  (∀ s : State, Live s → s.xmem.rekeys = [] → exec .rekeyBurst s = .next s) ∧
  (∀ (r : Nat) (q : List Nat) (s : State), Live s → s.xmem.rekeys = r :: q → r < 8192 →
    (extCause s (r * 65536) 1 ≠ 0 → Answers .rekeyBurst s fun t => t.xmem = s.xmem ∧ t.get Fld.CRYPT_STATUS_REKEY_REGION = r ∧
      OnlyRegs [Reg.CRYPT_STATUS] s t) ∧
    (extCause s (r * 65536) 1 = 0 → s.isNor (r * 65536) = false → s.xmem.position + 1024 < 65536 → Answers .rekeyBurst s fun t =>
      t.xmem.position = s.xmem.position + 1024 ∧ t.xmem.rekeys = s.xmem.rekeys ∧ t.regionWord r = s.regionWord r ∧
      (∀ b, b < r * 65536 + s.xmem.position ∨ r * 65536 + s.xmem.position + 1024 ≤ b → t.extRaw b = s.extRaw b)) ∧
    (extCause s (r * 65536) 1 = 0 → s.isNor (r * 65536) = false → 65536 ≤ s.xmem.position + 1024 → s.xmem.heldWrites = [] → s.regionGen r < 16383 →
      Answers .rekeyBurst s fun t => t.regionMode r = modeEncrypted ∧ t.regionGen r = s.regionGen r + 1 ∧ t.regionCount r = 0 ∧ t.xmem.rekeys = q ∧
        t.xmem.position = (match q with | [] => 0 | x :: _ => (s.xmem.kept.filter fun e => !(e.1 == r)).find? (fun e => e.1 == x) |>.elim 0 (·.2)) ∧ t.flag Fld.CRYPT_EVENTS_REKEY_DONE = true ∧ t.flag Fld.CRYPT_STATUS_REKEYING = decide (q ≠ [] ∨ ∃ e ∈ s.xmem.kept, e.1 ≠ r)))

/-- A test that ends is classified, counted and leaves its engine; a tile found TRANSIENT is FAILED and cleared, one found LASTING is mapped to a spare
while one is left (R436, R557, R560, R561). A test on demand is refused unless its part qualifies (R565). CLEAR of a line takes it back into service at
the next commit clock if it is disabled (R559), and the log and its counters are cleared apart (R563, R566). Completion: exec answers the stated next
state of the command's own effect, wherever the conditions that its clause puts on the state and the operands alone hold, for SELFTEST_DONE,
SELFTEST_REQ, LINE_CLEAR and LOG_CLEAR. -/
def Obligations.SelfTestsAndFaultLog : Prop :=
  (∀ (kind : Nat) (lasting : Bool) (s : State), Live s → (∀ x ∈ s.fault.tests, x.kind ≠ kind) → exec (.selftestDone kind lasting) s = .next s) ∧
  (∀ (k : Fin 4096) (b : Nat) (r : List TestReq) (s : State), Live s → s.fault.tests = ⟨kindMemTile, objTile k, some b⟩ :: r →
    Answers (.selftestDone kindMemTile false) s (fun t => t.tileState k = tileFailed ∧ (∀ a, a / 1024 = k.val → t.memRaw a = 0) ∧
      (∀ a, a / 1024 ≠ k.val → t.memRaw a = s.memRaw a) ∧ t.now = max s.now (b + 20480) ∧
      t.fault.tests = beginFirst kindMemTile t.now (fun _ => true) r ∧ t.flag Fld.SELFTEST_EVENTS_TRANSIENT = true ∧
      bitsOf (Table.get (fun _ => 0) t.fault.counters kindMemTile) 32 16 =
        min (bitsOf (Table.get (fun _ => 0) s.fault.counters kindMemTile) 32 16 + 1) 65535) ∧
    (s.get Fld.FABRIC_STATUS_SPARES_LEFT = 0 → Answers (.selftestDone kindMemTile true) s fun t => t.tileState k = tileRetired ∧ t.now = max s.now (b + 20480) ∧
      t.fault.tests = beginFirst kindMemTile t.now (fun _ => true) r ∧
      t.flag Fld.SELFTEST_EVENTS_LASTING = true ∧ t.flag Fld.FAULT_EVENTS_MAPPED = s.flag Fld.FAULT_EVENTS_MAPPED ∧ SameMemory s t) ∧
    (0 < s.get Fld.FABRIC_STATUS_SPARES_LEFT → Answers (.selftestDone kindMemTile true) s fun t => t.tileState k = tileFailed ∧ t.now = max s.now (b + 20480) ∧
      t.fault.tests = beginFirst kindMemTile t.now (fun _ => true) r ∧
      t.get Fld.FABRIC_STATUS_SPARES_LEFT = s.get Fld.FABRIC_STATUS_SPARES_LEFT - 1 ∧ t.flag Fld.SELFTEST_EVENTS_LASTING = true ∧
      t.flag Fld.FAULT_EVENTS_MAPPED = true ∧ ∀ a, a / 1024 = k.val → t.memRaw a = 0)) ∧
  (∀ (p : Path) (v : Word) (s : State), Live s → MayWriteBasic p 0x30 s →
    (bitAt v 0 = false → exec (.selftestReq p v) s = .next (s.nextTck.putWord Reg.SELFTEST_REQ v)) ∧
    (bitAt v 0 = true → bitsOf v 43 5 ≠ kindProbe → bitsOf v 43 5 ≠ kindMemTile → bitsOf v 43 5 ≠ kindRingCrc → exec (.selftestReq p v) s =
      .next ((s.nextTck.putWord Reg.SELFTEST_REQ v).set Fld.SELFTEST_EVENTS_REQ_REFUSED 1)) ∧
    (bitAt v 0 = true → bitsOf v 43 5 = kindMemTile → s.tileState (objTileOf (bitsOf v 16 24)) ≠ tileFailed → exec (.selftestReq p v) s =
      .next ((s.nextTck.putWord Reg.SELFTEST_REQ v).set Fld.SELFTEST_EVENTS_REQ_REFUSED 1)) ∧
    (bitAt v 0 = true → bitsOf v 43 5 = kindMemTile → s.tileState (objTileOf (bitsOf v 16 24)) = tileFailed → s.fault.tests = [] →
      Answers (.selftestReq p v) s fun t => t.tileState (objTileOf (bitsOf v 16 24)) = tileTesting ∧
        t.fault.tests = [⟨kindMemTile, objTile (objTileOf (bitsOf v 16 24)), some t.now⟩] ∧ t.flag Fld.FAULT_EVENTS_NEW_FAULT = true ∧ opActive t 0x30 = true ∧
        SameMemory s t)) ∧
  (∀ (p : Path) (v : Word) (s : State), Live s → MayWriteBasic p 0x31 s →
    ((bitAt v 0 = false ∨ 48 ≤ bitsOf v 39 6 ∨ driveDisabled s (48 * bitsOf v 45 3 + bitsOf v 39 6) = false) →
      exec (.lineClear p v) s = .next (s.nextTck.putWord Reg.FAULT_LINE_CTRL v)) ∧
    (bitAt v 0 = true → bitsOf v 39 6 < 48 → driveDisabled s (48 * bitsOf v 45 3 + bitsOf v 39 6) = true → Answers (.lineClear p v) s fun t =>
      t.fault.returnNext = s.fault.returnNext ++ [48 * bitsOf v 45 3 + bitsOf v 39 6] ∧ t.fault.lineRecord = s.fault.lineRecord ∧
      RegsBut [Reg.FAULT_LINE_CTRL] s t)) ∧
  (∀ (p : Path) (v : Word) (s : State), Live s → MayWriteBasic p 0x31 s → Answers (.logClear p v) s fun t =>
    t.fault.counters = (if bitAt v 1 then [] else s.fault.counters) ∧ t.fault.log = (if bitAt v 0 then [] else s.fault.log) ∧
    (bitAt v 0 = true → t.get Fld.FAULT_STATUS_ENTRIES = 0) ∧ t.fault.tests = s.fault.tests ∧ RegsBut [Reg.FAULT_STATUS] s t)

/-- A hive reset holds the page's conversions (R417). A conversion comes 1 ms after the last (R574); a sensor of 125 °C or more is HOT, with its event when
it becomes so, and the shut-down's count runs from 140 °C (R575). An NTC input above 2.45 V is OPEN and one below 25 mV SHORT (R574). The shut-down
turns off every group that may be turned off and counts anew (R176, R575). NTC settings out of range are refused (R576). Completion: exec answers the
stated next state of the command's own effect, wherever the conditions that its clause puts on the state and the operands alone hold, for
DIE_SENSOR_UPDATE, SHUTDOWN and THERM_BASIC_WRITE. -/
def Obligations.TemperaturesAndShutDown : Prop :=
  (∀ (die : List Int) (ntc : List (BitVec 12)) (s : State), Live s → s.heldInReset 0x15 = true → exec (.dieSensorUpdate die ntc) s = .next s) ∧
  (∀ (die : List Int) (ntc : List (BitVec 12)) (s : State), Live s → s.heldInReset 0x15 = false → Answers (.dieSensorUpdate die ntc) s fun t =>
    t.now = (match s.therm.lastUpdate with | none => s.now | some t => max s.now (t + 192000)) ∧ t.therm.lastUpdate = some t.now ∧
    (∀ (g : Fin 8) (x : Int), die[g.val]? = some x → dieTemp t g = x ∧ (-128 ≤ x → x ≤ 127 → t.getInt (dieField g) = x) ∧
      (t.get Fld.THERM_STATUS_HOT).testBit g = decide (125 ≤ x) ∧ (140 ≤ x → t.therm.hotSince = some (s.therm.hotSince.getD t.now)) ∧
      (125 ≤ x → (s.get Fld.THERM_STATUS_HOT).testBit g = false → t.flag Fld.THERM_EVENTS_HOT = true)) ∧
    (∀ c : BitVec 12, ntc[0]? = some c → t.get Fld.THERM_NTC_V0 = c.toNat ∧
      (4014 < c.toNat → t.get Fld.THERM_STATUS_NTC0_STATE = 1 ∧
        (s.get Fld.THERM_STATUS_NTC0_STATE ≠ 1 → t.flag Fld.THERM_EVENTS_NTC0_FAULT = true)) ∧
      (c.toNat < 41 → t.get Fld.THERM_STATUS_NTC0_STATE = 2) ∧ (41 ≤ c.toNat → c.toNat ≤ 4014 → t.get Fld.THERM_STATUS_NTC0_STATE = 0)) ∧
    ((∀ g : Fin 8, dieTemp t g < 140) → t.therm.hotSince = none) ∧
    RegsBut [Reg.THERM_STATUS, Reg.THERM_EVENTS, Reg.THERM_NTC, Reg.THERM_DIE_LO, Reg.THERM_DIE_HI] s t ∧ SameMemory s t) ∧
  (∀ s : State, Live s →
    (s.therm.hotSince = none → exec .shutdown s = .next s) ∧
    (∀ since : Nat, s.therm.hotSince = some since → (∀ g : Fin 8, s.grpState g = grpOff) → (∀ n : Fin 4, s.strState n = grpOff) →
      biasState s = biasOff → Answers .shutdown s fun t => t.now = max s.now (since + 192000) ∧ t.flag Fld.THERM_EVENTS_SHUTDOWN = true ∧
        t.therm.hotSince = some t.now ∧ (∀ g : Fin 8, t.grpState g = grpOff ∧ t.flag (Fld.GRP_BASIC_ENABLE g) = false ∧
          t.flag (Fld.GRP_STATUS_START_PENDING g) = false)) ∧
    (∀ (since : Nat) (g : Fin 8), s.therm.hotSince = some since → s.grpState g = grpOn → s.isLcd g = false → s.get (Fld.GRP_X_DRIVE_RAMP_STEP g) = 0 →
      s.get (Fld.GRP_X_DRIVE_DISCHARGE g) = 0 → Answers .shutdown s fun t => t.grpState g = grpOff ∧ t.flag (Fld.GRP_STATUS_SAFE g) = true ∧
        t.flag Fld.THERM_EVENTS_SHUTDOWN = true)) ∧
  (∀ (p : Path) (v : Word) (s : State), Live s → MayWriteBasic p 0x15 s →
    (bitsOf v 36 12 < 1000 ∨ bitsOf v 16 12 < 1000 ∨ bitsOf v 28 8 = 0 ∨ bitsOf v 8 8 = 0 →
      exec (.thermBasicWrite p v) s = .next (s.nextTck.raiseBit 0x15 45)) ∧
    (1000 ≤ bitsOf v 36 12 → 1000 ≤ bitsOf v 16 12 → bitsOf v 28 8 ≠ 0 → bitsOf v 8 8 ≠ 0 →
      exec (.thermBasicWrite p v) s = .next (s.nextTck.putWord Reg.THERM_BASIC v)))

/-- R429: a write of REQ = STANDBY by a path that may write has no effect while STATE is STANDBY and LEAVING is 0, and any write of REQ while STATE is HOLD
leaves the state as it is but for POWER_REFUSED, which it sets. Completion: exec answers the stated next state of the command's own effect, wherever the
conditions that its clause puts on the state and the operands alone hold, for POWER_REQ_WRITE. -/
def Obligations.PowerRequestsInStandbyAndHold : Prop :=
  ∀ (p : Path) (v : Word) (s : State), Live s → MayWriteBasic p 1 s →
    (s.get Fld.CLOCK_POWER_STATE = 2 → s.flag Fld.CLOCK_POWER_LEAVING = false → bitsOf v 44 2 = 2 → exec (.powerReqWrite p v) s = .next s.nextTck) ∧
    (s.get Fld.CLOCK_POWER_STATE = 3 → exec (.powerReqWrite p v) s = .next (s.nextTck.set Fld.CLOCK_EVENTS_POWER_REFUSED 1))

/-- R545: in RECOVER a start condition, a byte of either direction and an acknowledge change nothing; a stop condition, or 1,920 tck of free bus, leaves the port IDLE with the bus
free, so that the settings written meanwhile are in force. -/
def Obligations.RecoverIgnoresTheBusUntilFree : Prop :=
  ∀ (mid : Bool) (b : Byte) (s : State), Live s → s.get Fld.TWI_STATUS_STATE = 7 →
    exec (.twiStart mid) s = .next s ∧ exec (.twiAddressByte b) s = .next s ∧ exec (.twiIndexByte b) s = .next s ∧ exec (.twiWriteByte b) s = .next s ∧
    exec .twiReadAck s = .next s ∧ exec .twiReadNack s = .next s ∧ exec .twiTimeout s = .next s ∧
    Answers (.twiStop mid) s (fun t => t.get Fld.TWI_STATUS_STATE = 0 ∧ t.twi.basic = s.reg Reg.TWI_BASIC ∧ t.now = s.now ∧ RegsBut [Reg.TWI_STATUS] s t) ∧
    Answers .twiBusFree s fun t => t.get Fld.TWI_STATUS_STATE = 0 ∧ t.twi.basic = s.reg Reg.TWI_BASIC ∧ t.now = s.now + 1920 ∧ RegsBut [Reg.TWI_STATUS] s t

/-- Values that the register tables of the spec give for reset: supply and heat limits, clock gates and start-up order, an unaddressed node, every context EMPTY, all external and
memory protection of PROT0 on, the two-wire port in RECOVER with its filter of 10 tck and time-out of 25 ms, the NTC settings, every group and string OFF, and nothing in a queue or buffer.
Where a register's table gives no value the state holds the one that the log names, which this statement does not claim. -/
def Obligations.ResetStateHoldsTheTablesValues : Prop :=
  State.reset.pending = [] ∧ State.reset.now = 0 ∧ State.reset.tick = 0 ∧ State.reset.seconds = 0 ∧ State.reset.fabric.mem = [] ∧
  State.reset.get Fld.TWI_BASIC_FILTER = 10 ∧ State.reset.get Fld.TWI_BASIC_TIMEOUT = 24 ∧ State.reset.get Fld.TWI_STATUS_STATE = 7 ∧
  State.reset.get Fld.THERM_BASIC_BETA0 = 3435 ∧ State.reset.get Fld.THERM_BASIC_RNOM1 = 40 ∧
  State.reset.flag (Fld.XMEM_PROT_EN 0) = true ∧ State.reset.get (Fld.XMEM_PROT_LAST 0) = 8191 ∧ State.reset.flag (Fld.XMEM_PROT_EN 1) = false ∧
  State.reset.get Fld.LEDGER_MON_RECOVER_THR = 0xB00 ∧ State.reset.get Fld.CONFIG_CTX_STATE_STATES = 0 ∧
  (∀ g : Fin 8, State.reset.grpState g = grpOff ∧ State.reset.flag (Fld.GRP_BASIC_ENABLE g) = false) ∧
  (∀ n : Fin 4, State.reset.strState n = grpOff) ∧ State.reset.flag (Fld.FABRIC_PROT_EN 0) = true ∧ State.reset.get (Fld.FABRIC_PROT_LAST 0) = 4095
end

