-- ==== Sys2Proof/Laws/Bits.lean ====
section
/-! SUPPORT. The laws of bit fields: what a field reads after a write of it and of a field beside it. -/
namespace Sys2Proof.Machine

theorem fieldMask_getLsbD (lo n i : Nat) : (fieldMask lo n).getLsbD i = (decide (i < 48) && decide (lo ≤ i ∧ i < lo + n)) := by
  unfold fieldMask
  rw [BitVec.getLsbD_shiftLeft, BitVec.getLsbD_ofNat, Nat.testBit_two_pow_sub_one]
  by_cases h1 : i < 48
  · by_cases h2 : i < lo
    · have : ¬ (lo ≤ i ∧ i < lo + n) := by omega
      simp [h2, this]
    · by_cases h3 : i < lo + n
      · have a : i - lo < n := by omega
        have b : i - lo < 48 := by omega
        have c : lo ≤ i := by omega
        simp [h1, h2, h3, a, b, c]
      · have a : ¬ (i - lo < n) := by omega
        simp [h3, a]
  · simp [h1]

/-- A bit of a word after a write of a field. -/
theorem withBits_getLsbD (w : Word) (lo n v i : Nat) :
    (withBits w lo n v).getLsbD i = if lo ≤ i ∧ i < lo + n ∧ i < 48 then v.testBit (i - lo) else w.getLsbD i := by
  unfold withBits
  simp only [BitVec.getLsbD_or, BitVec.getLsbD_and, BitVec.getLsbD_not, fieldMask_getLsbD, BitVec.getLsbD_shiftLeft, BitVec.getLsbD_ofNat]
  by_cases h1 : i < 48
  · have h4 : i - lo < 48 := by omega
    by_cases h2 : lo ≤ i <;> by_cases h3 : i < lo + n <;> simp [h1, h2, h3, h4]
  · simp [h1, BitVec.getLsbD_of_ge w i (by omega)]

theorem bitsOf_testBit (w : Word) (lo n i : Nat) : (bitsOf w lo n).testBit i = (decide (i < n) && w.getLsbD (lo + i)) := by
  unfold bitsOf
  rw [Nat.testBit_mod_two_pow, Nat.testBit_div_two_pow, ← BitVec.testBit_toNat, Nat.add_comm]

theorem bitsOf_lt (w : Word) (lo n : Nat) : bitsOf w lo n < 2 ^ n := Nat.mod_lt _ (Nat.two_pow_pos n)

/-- A field reads the low bits of what was last written to it. -/
theorem bitsOf_withBits_same (w : Word) (lo n v : Nat) (h : lo + n ≤ 48) : bitsOf (withBits w lo n v) lo n = v % 2 ^ n := by
  refine Nat.eq_of_testBit_eq fun i => ?_
  rw [bitsOf_testBit, withBits_getLsbD, Nat.testBit_mod_two_pow]
  by_cases hi : i < n
  · have : lo ≤ lo + i ∧ lo + i < lo + n ∧ lo + i < 48 := by omega
    simp [hi, this]
  · simp [hi]

/-- A write of a field leaves the fields beside it. -/
theorem bitsOf_withBits_other (w : Word) (lo n v lo' n' : Nat) (h : lo' + n' ≤ lo ∨ lo + n ≤ lo') :
    bitsOf (withBits w lo n v) lo' n' = bitsOf w lo' n' := by
  refine Nat.eq_of_testBit_eq fun i => ?_
  rw [bitsOf_testBit, bitsOf_testBit, withBits_getLsbD]
  by_cases hi : i < n'
  · have : ¬ (lo ≤ lo' + i ∧ lo' + i < lo + n ∧ lo' + i < 48) := by omega
    simp [hi, this]
  · simp [hi]

theorem bitAt_eq (w : Word) (i : Nat) : bitAt w i = decide (bitsOf w i 1 = 1) := by
  have h0 : (bitsOf w i 1).testBit 0 = w.getLsbD i := by rw [bitsOf_testBit]; simp
  have hl : bitsOf w i 1 < 2 := bitsOf_lt w i 1
  rw [bitAt, ← h0]
  rcases Nat.lt_succ_iff_lt_or_eq.mp hl with h | h
  · have : bitsOf w i 1 = 0 := by omega
    simp [this]
  · simp [h]

theorem bitAt_withBits_same (w : Word) (i v : Nat) (h : i < 48) : bitAt (withBits w i 1 v) i = decide (v % 2 = 1) := by
  simp [bitAt_eq, bitsOf_withBits_same w i 1 v (by omega)]

theorem bitAt_withBits_other (w : Word) (lo n v i : Nat) (h : i < lo ∨ lo + n ≤ i) : bitAt (withBits w lo n v) i = bitAt w i := by
  rw [bitAt_eq, bitAt_eq, bitsOf_withBits_other w lo n v i 1 (by omega)]

/-- A field written with its own value leaves the word. -/
theorem withBits_self (w : Word) (lo n : Nat) : withBits w lo n (bitsOf w lo n) = w := by
  refine BitVec.eq_of_getLsbD_eq fun i hi => ?_
  rw [withBits_getLsbD, bitsOf_testBit]
  by_cases h : lo ≤ i ∧ i < lo + n ∧ i < 48
  · have e : lo + (i - lo) = i := by omega
    have e2 : i - lo < n := by omega
    simp [h, e, e2]
  · simp [h]

/-- A field inside a mask reads what was merged in under the mask. -/
theorem bitsOf_merge_in (w v m : Word) (lo n : Nat) (h : ∀ i, i < n → m.getLsbD (lo + i) = true) :
    bitsOf ((w &&& ~~~m) ||| (v &&& m)) lo n = bitsOf v lo n := by
  refine Nat.eq_of_testBit_eq fun i => ?_
  rw [bitsOf_testBit, bitsOf_testBit]
  by_cases hi : i < n
  · have hm := h i hi
    simp [hi, hm]
  · simp [hi]

/-- A field outside a mask keeps its value when a word is merged in under the mask. -/
theorem bitsOf_merge_out (w v m : Word) (lo n : Nat) (h : ∀ i, i < n → m.getLsbD (lo + i) = false) :
    bitsOf ((w &&& ~~~m) ||| (v &&& m)) lo n = bitsOf w lo n := by
  refine Nat.eq_of_testBit_eq fun i => ?_
  rw [bitsOf_testBit, bitsOf_testBit]
  by_cases hi : i < n
  · have hm := h i hi
    by_cases hj : lo + i < 48
    · rw [BitVec.getLsbD_eq_getElem hj] at hm
      simp [hi, hm, hj]
    · simp [hi, BitVec.getLsbD_of_ge w (lo + i) (by omega), BitVec.getLsbD_of_ge v (lo + i) (by omega)]
  · simp [hi]

/-- A merge changes nothing outside its mask. -/
theorem merge_outside (w v m : Word) : ((w &&& ~~~m) ||| (v &&& m)) &&& ~~~m = w &&& ~~~m := by
  refine BitVec.eq_of_getLsbD_eq fun i hi => ?_
  by_cases h : m.getLsbD i <;> simp [h]

end Sys2Proof.Machine
end

