-- ==== Sys2Proof/Laws/Table.lean ====
section
/-! SUPPORT. The laws of sparse tables: a read after a write, the write's frame, and the canonical form kept by a write. -/
namespace Sys2Proof.Machine
variable {α : Type}

@[simp] theorem Table.get_nil (d : Nat → α) (k : Nat) : Table.get d [] k = d k := rfl

/-- The keys that pass a test read as before, the others as the default. -/
theorem Table.get_keys (d : Nat → α) (p : Nat → Bool) (t : Table α) (a : Nat) :
    Table.get d (t.keys p) a = if p a then Table.get d t a else d a := by
  have key : (t.keys p).find? (fun e => e.1 == a) = if p a then t.find? (fun e => e.1 == a) else none := by
    rw [Table.keys, List.find?_filter]
    split
    · next hp =>
      congr 1; funext e
      by_cases he : e.1 = a <;> simp [he, hp]
    · next hp =>
      rw [List.find?_eq_none]
      intro e _ he
      simp only [beq_iff_eq, decide_eq_true_eq] at he
      exact hp (he.2 ▸ he.1)
  rw [Table.get, key, Table.get]
  by_cases hp : p a = true <;> simp [hp]

/-- A key that the first table does not list reads as in the second. -/
theorem Table.get_append (d : Nat → α) (t u : Table α) (a : Nat) :
    Table.get d (t ++ u) a = if t.any (fun e => e.1 == a) then Table.get d t a else Table.get d u a := by
  rw [Table.get, List.find?_append]
  cases h : t.find? (fun e => e.1 == a) with
  | none =>
    have hn : t.any (fun e => e.1 == a) = false := by
      rw [List.any_eq_false]; exact List.find?_eq_none.mp h
    simp [hn, Table.get]
  | some e =>
    have hs : t.any (fun e => e.1 == a) = true := by
      rw [List.any_eq_true]; exact ⟨e, List.mem_of_find?_eq_some h, List.find?_some (p := fun e : Nat × α => e.1 == a) h⟩
    simp [hs, Table.get, h]

/-- No entry of a key that fails the test is left. -/
theorem Table.any_keys (p : Nat → Bool) (t : Table α) (a : Nat) :
    (t.keys p).any (fun e => e.1 == a) = (p a && t.any fun e => e.1 == a) := by
  rw [Bool.eq_iff_iff]
  simp only [Table.keys, List.any_eq_true, List.mem_filter, Bool.and_eq_true, beq_iff_eq]
  constructor
  · rintro ⟨e, ⟨hm, hp⟩, rfl⟩; exact ⟨hp, e, hm, rfl⟩
  · rintro ⟨hp, e, hm, rfl⟩; exact ⟨e, ⟨hm, hp⟩, rfl⟩

/-- A key of no entry reads as the default. -/
theorem Table.get_of_any_false (d : Nat → α) (t : Table α) (a : Nat) (h : (t.any fun e => e.1 == a) = false) : Table.get d t a = d a := by
  rw [Table.get, List.find?_eq_none.mpr (List.any_eq_false.mp h)]

variable [DecidableEq α]

/-- What any key reads after a write: the written key the value, every other what it read before. -/
theorem Table.get_put (d : Nat → α) (t : Table α) (k a : Nat) (v : α) :
    Table.get d (Table.put d t k v) a = if a = k then v else Table.get d t a := by
  unfold Table.put
  rw [List.append_assoc, Table.get_append, Table.any_keys, Table.get_keys, Table.get_append, Table.get_keys]
  simp only [decide_eq_true_eq]
  rcases Nat.lt_trichotomy a k with h | rfl | h
  · have hne : ¬ a = k := by omega
    have hk : ¬ k = a := by omega
    have hn : ¬ k < a := by omega
    have hd := Table.get_of_any_false d t a
    cases hm : (t.any fun e => e.1 == a) with
    | true => simp [h, hne]
    | false => by_cases hv : v = d k <;> simp [h, hne, hk, hn, hv, hd hm]
  · by_cases hv : v = d a <;> simp [hv, Table.get]
  · have hne : ¬ a = k := by omega
    have hk : ¬ k = a := by omega
    have hn : ¬ a < k := by omega
    by_cases hv : v = d k <;> simp [h, hne, hk, hn, hv]

/-- A key reads what was last written at it. -/
@[simp] theorem Table.get_put_same (d : Nat → α) (t : Table α) (k : Nat) (v : α) :
    Table.get d (Table.put d t k v) k = v := by rw [Table.get_put, if_pos rfl]

/-- A write leaves every other key as it was. -/
theorem Table.get_put_other (d : Nat → α) (t : Table α) {k a : Nat} (v : α) (h : a ≠ k) :
    Table.get d (Table.put d t k v) a = Table.get d t a := by rw [Table.get_put, if_neg h]

/-- The canonical form as a proposition. -/
theorem Table.wf_iff (d : Nat → α) (t : Table α) :
    Table.wf d t = true ↔ (t.Pairwise fun a b => a.1 < b.1) ∧ ∀ e ∈ t, e.2 ≠ d e.1 := by
  simp [Table.wf]

/-- Entries taken out leave the canonical form. -/
theorem Table.wf_filter (d : Nat → α) (p : Nat × α → Bool) (t : Table α) (h : Table.wf d t = true) : Table.wf d (t.filter p) = true := by
  rw [Table.wf_iff] at h ⊢
  exact ⟨h.1.filter p, fun e he => h.2 e (List.mem_filter.mp he).1⟩

/-- A write keeps the canonical form. -/
theorem Table.wf_put (d : Nat → α) (t : Table α) (k : Nat) (v : α) (h : Table.wf d t = true) :
    Table.wf d (Table.put d t k v) = true := by
  rw [Table.wf_iff] at h ⊢
  have low : ∀ e ∈ t.keys (fun j => decide (j < k)), e ∈ t ∧ e.1 < k := fun e he => by
    simpa [Table.keys] using he
  have high : ∀ e ∈ t.keys (fun j => decide (k < j)), e ∈ t ∧ k < e.1 := fun e he => by
    simpa [Table.keys] using he
  have mid : ∀ e ∈ (if v = d k then [] else [(k, v)]), e = (k, v) ∧ v ≠ d k := fun e he => by
    split at he
    · cases he
    · next hv => exact ⟨List.mem_singleton.mp he, hv⟩
  refine ⟨?_, ?_⟩
  · unfold Table.put
    refine List.pairwise_append.mpr ⟨List.pairwise_append.mpr ⟨h.1.filter _, ?_, ?_⟩, h.1.filter _, ?_⟩
    · split <;> simp
    · intro a ha b hb
      rw [(mid b hb).1]; exact (low a ha).2
    · intro a ha b hb
      have hk := (high b hb).2
      rcases List.mem_append.mp ha with ha | ha
      · exact Nat.lt_trans (low a ha).2 hk
      · rw [(mid a ha).1]; exact hk
  · intro e he
    rcases List.mem_append.mp he with he | he
    · rcases List.mem_append.mp he with he | he
      · exact h.2 e (low e he).1
      · rw [(mid e he).1]; exact (mid e he).2
    · exact h.2 e (high e he).1

/-- Writing a run of values keeps the canonical form. -/
theorem Table.wf_putList (d : Nat → α) (t : Table α) (k : Nat) (vs : List α) (h : Table.wf d t = true) :
    Table.wf d (Table.putList d t k vs) = true := by
  induction vs generalizing t k with
  | nil => exact h
  | cons v vs ih => exact ih _ _ (Table.wf_put d t k v h)

/-- Writing a run of values leaves every key outside the run as it was. -/
theorem Table.get_putList_outside (d : Nat → α) (t : Table α) (k a : Nat) (vs : List α)
    (h : a < k ∨ k + vs.length ≤ a) : Table.get d (Table.putList d t k vs) a = Table.get d t a := by
  induction vs generalizing t k with
  | nil => rfl
  | cons v vs ih =>
    simp only [List.length_cons] at h
    rw [Table.putList, ih _ _ (by omega), Table.get_put_other d t v (by omega)]

end Sys2Proof.Machine
end

