-- ==== Sys2Proof/Laws/State.lean ====
section
/-! SUPPORT. The laws of State: what each update leaves of each field, what registers and fields read after a write. -/
namespace Sys2Proof.Machine

/-! ### setReg changes the register file alone -/

@[simp] theorem State.setReg_force (s : State) (a : Nat) (v : Word) : (s.setReg a v).force = s.force := rfl
@[simp] theorem State.setReg_frozen (s : State) (a : Nat) (v : Word) : (s.setReg a v).frozen = s.frozen := rfl
@[simp] theorem State.setReg_winCtrl (s : State) (a : Nat) (v : Word) : (s.setReg a v).winCtrl = s.winCtrl := rfl
@[simp] theorem State.setReg_now (s : State) (a : Nat) (v : Word) : (s.setReg a v).now = s.now := rfl
@[simp] theorem State.setReg_seconds (s : State) (a : Nat) (v : Word) : (s.setReg a v).seconds = s.seconds := rfl
@[simp] theorem State.setReg_tick (s : State) (a : Nat) (v : Word) : (s.setReg a v).tick = s.tick := rfl
@[simp] theorem State.setReg_secondsPending (s : State) (a : Nat) (v : Word) : (s.setReg a v).secondsPending = s.secondsPending := rfl
@[simp] theorem State.setReg_commit (s : State) (a : Nat) (v : Word) : (s.setReg a v).commit = s.commit := rfl
@[simp] theorem State.setReg_comb (s : State) (a : Nat) (v : Word) : (s.setReg a v).comb = s.comb := rfl
@[simp] theorem State.setReg_pipe (s : State) (a : Nat) (v : Word) : (s.setReg a v).pipe = s.pipe := rfl
@[simp] theorem State.setReg_groups (s : State) (a : Nat) (v : Word) : (s.setReg a v).groups = s.groups := rfl
@[simp] theorem State.setReg_lcd (s : State) (a : Nat) (v : Word) : (s.setReg a v).lcd = s.lcd := rfl
@[simp] theorem State.setReg_strings (s : State) (a : Nat) (v : Word) : (s.setReg a v).strings = s.strings := rfl
@[simp] theorem State.setReg_lamps (s : State) (a : Nat) (v : Word) : (s.setReg a v).lamps = s.lamps := rfl
@[simp] theorem State.setReg_ledger (s : State) (a : Nat) (v : Word) : (s.setReg a v).ledger = s.ledger := rfl
@[simp] theorem State.setReg_clock (s : State) (a : Nat) (v : Word) : (s.setReg a v).clock = s.clock := rfl
@[simp] theorem State.setReg_freeCount (s : State) (a : Nat) (v : Word) : (s.setReg a v).freeCount = s.freeCount := rfl
@[simp] theorem State.setReg_fault (s : State) (a : Nat) (v : Word) : (s.setReg a v).fault = s.fault := rfl
@[simp] theorem State.setReg_fabric (s : State) (a : Nat) (v : Word) : (s.setReg a v).fabric = s.fabric := rfl
@[simp] theorem State.setReg_events (s : State) (a : Nat) (v : Word) : (s.setReg a v).events = s.events := rfl
@[simp] theorem State.setReg_klock (s : State) (a : Nat) (v : Word) : (s.setReg a v).klock = s.klock := rfl
@[simp] theorem State.setReg_keys (s : State) (a : Nat) (v : Word) : (s.setReg a v).keys = s.keys := rfl
@[simp] theorem State.setReg_ring (s : State) (a : Nat) (v : Word) : (s.setReg a v).ring = s.ring := rfl
@[simp] theorem State.setReg_hive (s : State) (a : Nat) (v : Word) : (s.setReg a v).hive = s.hive := rfl
@[simp] theorem State.setReg_config (s : State) (a : Nat) (v : Word) : (s.setReg a v).config = s.config := rfl
@[simp] theorem State.setReg_store (s : State) (a : Nat) (v : Word) : (s.setReg a v).store = s.store := rfl
@[simp] theorem State.setReg_update (s : State) (a : Nat) (v : Word) : (s.setReg a v).update = s.update := rfl
@[simp] theorem State.setReg_service (s : State) (a : Nat) (v : Word) : (s.setReg a v).service = s.service := rfl
@[simp] theorem State.setReg_xmem (s : State) (a : Nat) (v : Word) : (s.setReg a v).xmem = s.xmem := rfl
@[simp] theorem State.setReg_therm (s : State) (a : Nat) (v : Word) : (s.setReg a v).therm = s.therm := rfl
@[simp] theorem State.setReg_twi (s : State) (a : Nat) (v : Word) : (s.setReg a v).twi = s.twi := rfl
@[simp] theorem State.setReg_late (s : State) (a : Nat) (v : Word) : (s.setReg a v).late = s.late := rfl
@[simp] theorem State.setReg_pending (s : State) (a : Nat) (v : Word) : (s.setReg a v).pending = s.pending := rfl

/-! ### set changes the register file alone -/

@[simp] theorem State.set_force (s : State) (f : Field) (v : Nat) : (s.set f v).force = s.force := rfl
@[simp] theorem State.set_frozen (s : State) (f : Field) (v : Nat) : (s.set f v).frozen = s.frozen := rfl
@[simp] theorem State.set_winCtrl (s : State) (f : Field) (v : Nat) : (s.set f v).winCtrl = s.winCtrl := rfl
@[simp] theorem State.set_now (s : State) (f : Field) (v : Nat) : (s.set f v).now = s.now := rfl
@[simp] theorem State.set_seconds (s : State) (f : Field) (v : Nat) : (s.set f v).seconds = s.seconds := rfl
@[simp] theorem State.set_tick (s : State) (f : Field) (v : Nat) : (s.set f v).tick = s.tick := rfl
@[simp] theorem State.set_secondsPending (s : State) (f : Field) (v : Nat) : (s.set f v).secondsPending = s.secondsPending := rfl
@[simp] theorem State.set_commit (s : State) (f : Field) (v : Nat) : (s.set f v).commit = s.commit := rfl
@[simp] theorem State.set_comb (s : State) (f : Field) (v : Nat) : (s.set f v).comb = s.comb := rfl
@[simp] theorem State.set_pipe (s : State) (f : Field) (v : Nat) : (s.set f v).pipe = s.pipe := rfl
@[simp] theorem State.set_groups (s : State) (f : Field) (v : Nat) : (s.set f v).groups = s.groups := rfl
@[simp] theorem State.set_lcd (s : State) (f : Field) (v : Nat) : (s.set f v).lcd = s.lcd := rfl
@[simp] theorem State.set_strings (s : State) (f : Field) (v : Nat) : (s.set f v).strings = s.strings := rfl
@[simp] theorem State.set_lamps (s : State) (f : Field) (v : Nat) : (s.set f v).lamps = s.lamps := rfl
@[simp] theorem State.set_ledger (s : State) (f : Field) (v : Nat) : (s.set f v).ledger = s.ledger := rfl
@[simp] theorem State.set_clock (s : State) (f : Field) (v : Nat) : (s.set f v).clock = s.clock := rfl
@[simp] theorem State.set_freeCount (s : State) (f : Field) (v : Nat) : (s.set f v).freeCount = s.freeCount := rfl
@[simp] theorem State.set_fault (s : State) (f : Field) (v : Nat) : (s.set f v).fault = s.fault := rfl
@[simp] theorem State.set_fabric (s : State) (f : Field) (v : Nat) : (s.set f v).fabric = s.fabric := rfl
@[simp] theorem State.set_events (s : State) (f : Field) (v : Nat) : (s.set f v).events = s.events := rfl
@[simp] theorem State.set_klock (s : State) (f : Field) (v : Nat) : (s.set f v).klock = s.klock := rfl
@[simp] theorem State.set_keys (s : State) (f : Field) (v : Nat) : (s.set f v).keys = s.keys := rfl
@[simp] theorem State.set_ring (s : State) (f : Field) (v : Nat) : (s.set f v).ring = s.ring := rfl
@[simp] theorem State.set_hive (s : State) (f : Field) (v : Nat) : (s.set f v).hive = s.hive := rfl
@[simp] theorem State.set_config (s : State) (f : Field) (v : Nat) : (s.set f v).config = s.config := rfl
@[simp] theorem State.set_store (s : State) (f : Field) (v : Nat) : (s.set f v).store = s.store := rfl
@[simp] theorem State.set_update (s : State) (f : Field) (v : Nat) : (s.set f v).update = s.update := rfl
@[simp] theorem State.set_service (s : State) (f : Field) (v : Nat) : (s.set f v).service = s.service := rfl
@[simp] theorem State.set_xmem (s : State) (f : Field) (v : Nat) : (s.set f v).xmem = s.xmem := rfl
@[simp] theorem State.set_therm (s : State) (f : Field) (v : Nat) : (s.set f v).therm = s.therm := rfl
@[simp] theorem State.set_twi (s : State) (f : Field) (v : Nat) : (s.set f v).twi = s.twi := rfl
@[simp] theorem State.set_late (s : State) (f : Field) (v : Nat) : (s.set f v).late = s.late := rfl
@[simp] theorem State.set_pending (s : State) (f : Field) (v : Nat) : (s.set f v).pending = s.pending := rfl

/-! ### setFlag changes the register file alone -/

@[simp] theorem State.setFlag_force (s : State) (f : Field) (b : Bool) : (s.setFlag f b).force = s.force := rfl
@[simp] theorem State.setFlag_frozen (s : State) (f : Field) (b : Bool) : (s.setFlag f b).frozen = s.frozen := rfl
@[simp] theorem State.setFlag_winCtrl (s : State) (f : Field) (b : Bool) : (s.setFlag f b).winCtrl = s.winCtrl := rfl
@[simp] theorem State.setFlag_now (s : State) (f : Field) (b : Bool) : (s.setFlag f b).now = s.now := rfl
@[simp] theorem State.setFlag_seconds (s : State) (f : Field) (b : Bool) : (s.setFlag f b).seconds = s.seconds := rfl
@[simp] theorem State.setFlag_tick (s : State) (f : Field) (b : Bool) : (s.setFlag f b).tick = s.tick := rfl
@[simp] theorem State.setFlag_secondsPending (s : State) (f : Field) (b : Bool) : (s.setFlag f b).secondsPending = s.secondsPending := rfl
@[simp] theorem State.setFlag_commit (s : State) (f : Field) (b : Bool) : (s.setFlag f b).commit = s.commit := rfl
@[simp] theorem State.setFlag_comb (s : State) (f : Field) (b : Bool) : (s.setFlag f b).comb = s.comb := rfl
@[simp] theorem State.setFlag_pipe (s : State) (f : Field) (b : Bool) : (s.setFlag f b).pipe = s.pipe := rfl
@[simp] theorem State.setFlag_groups (s : State) (f : Field) (b : Bool) : (s.setFlag f b).groups = s.groups := rfl
@[simp] theorem State.setFlag_lcd (s : State) (f : Field) (b : Bool) : (s.setFlag f b).lcd = s.lcd := rfl
@[simp] theorem State.setFlag_strings (s : State) (f : Field) (b : Bool) : (s.setFlag f b).strings = s.strings := rfl
@[simp] theorem State.setFlag_lamps (s : State) (f : Field) (b : Bool) : (s.setFlag f b).lamps = s.lamps := rfl
@[simp] theorem State.setFlag_ledger (s : State) (f : Field) (b : Bool) : (s.setFlag f b).ledger = s.ledger := rfl
@[simp] theorem State.setFlag_clock (s : State) (f : Field) (b : Bool) : (s.setFlag f b).clock = s.clock := rfl
@[simp] theorem State.setFlag_freeCount (s : State) (f : Field) (b : Bool) : (s.setFlag f b).freeCount = s.freeCount := rfl
@[simp] theorem State.setFlag_fault (s : State) (f : Field) (b : Bool) : (s.setFlag f b).fault = s.fault := rfl
@[simp] theorem State.setFlag_fabric (s : State) (f : Field) (b : Bool) : (s.setFlag f b).fabric = s.fabric := rfl
@[simp] theorem State.setFlag_events (s : State) (f : Field) (b : Bool) : (s.setFlag f b).events = s.events := rfl
@[simp] theorem State.setFlag_klock (s : State) (f : Field) (b : Bool) : (s.setFlag f b).klock = s.klock := rfl
@[simp] theorem State.setFlag_keys (s : State) (f : Field) (b : Bool) : (s.setFlag f b).keys = s.keys := rfl
@[simp] theorem State.setFlag_ring (s : State) (f : Field) (b : Bool) : (s.setFlag f b).ring = s.ring := rfl
@[simp] theorem State.setFlag_hive (s : State) (f : Field) (b : Bool) : (s.setFlag f b).hive = s.hive := rfl
@[simp] theorem State.setFlag_config (s : State) (f : Field) (b : Bool) : (s.setFlag f b).config = s.config := rfl
@[simp] theorem State.setFlag_store (s : State) (f : Field) (b : Bool) : (s.setFlag f b).store = s.store := rfl
@[simp] theorem State.setFlag_update (s : State) (f : Field) (b : Bool) : (s.setFlag f b).update = s.update := rfl
@[simp] theorem State.setFlag_service (s : State) (f : Field) (b : Bool) : (s.setFlag f b).service = s.service := rfl
@[simp] theorem State.setFlag_xmem (s : State) (f : Field) (b : Bool) : (s.setFlag f b).xmem = s.xmem := rfl
@[simp] theorem State.setFlag_therm (s : State) (f : Field) (b : Bool) : (s.setFlag f b).therm = s.therm := rfl
@[simp] theorem State.setFlag_twi (s : State) (f : Field) (b : Bool) : (s.setFlag f b).twi = s.twi := rfl
@[simp] theorem State.setFlag_late (s : State) (f : Field) (b : Bool) : (s.setFlag f b).late = s.late := rfl
@[simp] theorem State.setFlag_pending (s : State) (f : Field) (b : Bool) : (s.setFlag f b).pending = s.pending := rfl

/-! ### raise changes the register file alone -/

@[simp] theorem State.raise_force (s : State) (f : Field) : (s.raise f).force = s.force := rfl
@[simp] theorem State.raise_frozen (s : State) (f : Field) : (s.raise f).frozen = s.frozen := rfl
@[simp] theorem State.raise_winCtrl (s : State) (f : Field) : (s.raise f).winCtrl = s.winCtrl := rfl
@[simp] theorem State.raise_now (s : State) (f : Field) : (s.raise f).now = s.now := rfl
@[simp] theorem State.raise_seconds (s : State) (f : Field) : (s.raise f).seconds = s.seconds := rfl
@[simp] theorem State.raise_tick (s : State) (f : Field) : (s.raise f).tick = s.tick := rfl
@[simp] theorem State.raise_secondsPending (s : State) (f : Field) : (s.raise f).secondsPending = s.secondsPending := rfl
@[simp] theorem State.raise_commit (s : State) (f : Field) : (s.raise f).commit = s.commit := rfl
@[simp] theorem State.raise_comb (s : State) (f : Field) : (s.raise f).comb = s.comb := rfl
@[simp] theorem State.raise_pipe (s : State) (f : Field) : (s.raise f).pipe = s.pipe := rfl
@[simp] theorem State.raise_groups (s : State) (f : Field) : (s.raise f).groups = s.groups := rfl
@[simp] theorem State.raise_lcd (s : State) (f : Field) : (s.raise f).lcd = s.lcd := rfl
@[simp] theorem State.raise_strings (s : State) (f : Field) : (s.raise f).strings = s.strings := rfl
@[simp] theorem State.raise_lamps (s : State) (f : Field) : (s.raise f).lamps = s.lamps := rfl
@[simp] theorem State.raise_ledger (s : State) (f : Field) : (s.raise f).ledger = s.ledger := rfl
@[simp] theorem State.raise_clock (s : State) (f : Field) : (s.raise f).clock = s.clock := rfl
@[simp] theorem State.raise_freeCount (s : State) (f : Field) : (s.raise f).freeCount = s.freeCount := rfl
@[simp] theorem State.raise_fault (s : State) (f : Field) : (s.raise f).fault = s.fault := rfl
@[simp] theorem State.raise_fabric (s : State) (f : Field) : (s.raise f).fabric = s.fabric := rfl
@[simp] theorem State.raise_events (s : State) (f : Field) : (s.raise f).events = s.events := rfl
@[simp] theorem State.raise_klock (s : State) (f : Field) : (s.raise f).klock = s.klock := rfl
@[simp] theorem State.raise_keys (s : State) (f : Field) : (s.raise f).keys = s.keys := rfl
@[simp] theorem State.raise_ring (s : State) (f : Field) : (s.raise f).ring = s.ring := rfl
@[simp] theorem State.raise_hive (s : State) (f : Field) : (s.raise f).hive = s.hive := rfl
@[simp] theorem State.raise_config (s : State) (f : Field) : (s.raise f).config = s.config := rfl
@[simp] theorem State.raise_store (s : State) (f : Field) : (s.raise f).store = s.store := rfl
@[simp] theorem State.raise_update (s : State) (f : Field) : (s.raise f).update = s.update := rfl
@[simp] theorem State.raise_service (s : State) (f : Field) : (s.raise f).service = s.service := rfl
@[simp] theorem State.raise_xmem (s : State) (f : Field) : (s.raise f).xmem = s.xmem := rfl
@[simp] theorem State.raise_therm (s : State) (f : Field) : (s.raise f).therm = s.therm := rfl
@[simp] theorem State.raise_twi (s : State) (f : Field) : (s.raise f).twi = s.twi := rfl
@[simp] theorem State.raise_late (s : State) (f : Field) : (s.raise f).late = s.late := rfl
@[simp] theorem State.raise_pending (s : State) (f : Field) : (s.raise f).pending = s.pending := rfl

/-! ### raiseBit changes the register file alone -/

@[simp] theorem State.raiseBit_force (s : State) (p k : Nat) : (s.raiseBit p k).force = s.force := rfl
@[simp] theorem State.raiseBit_frozen (s : State) (p k : Nat) : (s.raiseBit p k).frozen = s.frozen := rfl
@[simp] theorem State.raiseBit_winCtrl (s : State) (p k : Nat) : (s.raiseBit p k).winCtrl = s.winCtrl := rfl
@[simp] theorem State.raiseBit_now (s : State) (p k : Nat) : (s.raiseBit p k).now = s.now := rfl
@[simp] theorem State.raiseBit_seconds (s : State) (p k : Nat) : (s.raiseBit p k).seconds = s.seconds := rfl
@[simp] theorem State.raiseBit_tick (s : State) (p k : Nat) : (s.raiseBit p k).tick = s.tick := rfl
@[simp] theorem State.raiseBit_secondsPending (s : State) (p k : Nat) : (s.raiseBit p k).secondsPending = s.secondsPending := rfl
@[simp] theorem State.raiseBit_commit (s : State) (p k : Nat) : (s.raiseBit p k).commit = s.commit := rfl
@[simp] theorem State.raiseBit_comb (s : State) (p k : Nat) : (s.raiseBit p k).comb = s.comb := rfl
@[simp] theorem State.raiseBit_pipe (s : State) (p k : Nat) : (s.raiseBit p k).pipe = s.pipe := rfl
@[simp] theorem State.raiseBit_groups (s : State) (p k : Nat) : (s.raiseBit p k).groups = s.groups := rfl
@[simp] theorem State.raiseBit_lcd (s : State) (p k : Nat) : (s.raiseBit p k).lcd = s.lcd := rfl
@[simp] theorem State.raiseBit_strings (s : State) (p k : Nat) : (s.raiseBit p k).strings = s.strings := rfl
@[simp] theorem State.raiseBit_lamps (s : State) (p k : Nat) : (s.raiseBit p k).lamps = s.lamps := rfl
@[simp] theorem State.raiseBit_ledger (s : State) (p k : Nat) : (s.raiseBit p k).ledger = s.ledger := rfl
@[simp] theorem State.raiseBit_clock (s : State) (p k : Nat) : (s.raiseBit p k).clock = s.clock := rfl
@[simp] theorem State.raiseBit_freeCount (s : State) (p k : Nat) : (s.raiseBit p k).freeCount = s.freeCount := rfl
@[simp] theorem State.raiseBit_fault (s : State) (p k : Nat) : (s.raiseBit p k).fault = s.fault := rfl
@[simp] theorem State.raiseBit_fabric (s : State) (p k : Nat) : (s.raiseBit p k).fabric = s.fabric := rfl
@[simp] theorem State.raiseBit_events (s : State) (p k : Nat) : (s.raiseBit p k).events = s.events := rfl
@[simp] theorem State.raiseBit_klock (s : State) (p k : Nat) : (s.raiseBit p k).klock = s.klock := rfl
@[simp] theorem State.raiseBit_keys (s : State) (p k : Nat) : (s.raiseBit p k).keys = s.keys := rfl
@[simp] theorem State.raiseBit_ring (s : State) (p k : Nat) : (s.raiseBit p k).ring = s.ring := rfl
@[simp] theorem State.raiseBit_hive (s : State) (p k : Nat) : (s.raiseBit p k).hive = s.hive := rfl
@[simp] theorem State.raiseBit_config (s : State) (p k : Nat) : (s.raiseBit p k).config = s.config := rfl
@[simp] theorem State.raiseBit_store (s : State) (p k : Nat) : (s.raiseBit p k).store = s.store := rfl
@[simp] theorem State.raiseBit_update (s : State) (p k : Nat) : (s.raiseBit p k).update = s.update := rfl
@[simp] theorem State.raiseBit_service (s : State) (p k : Nat) : (s.raiseBit p k).service = s.service := rfl
@[simp] theorem State.raiseBit_xmem (s : State) (p k : Nat) : (s.raiseBit p k).xmem = s.xmem := rfl
@[simp] theorem State.raiseBit_therm (s : State) (p k : Nat) : (s.raiseBit p k).therm = s.therm := rfl
@[simp] theorem State.raiseBit_twi (s : State) (p k : Nat) : (s.raiseBit p k).twi = s.twi := rfl
@[simp] theorem State.raiseBit_late (s : State) (p k : Nat) : (s.raiseBit p k).late = s.late := rfl
@[simp] theorem State.raiseBit_pending (s : State) (p k : Nat) : (s.raiseBit p k).pending = s.pending := rfl

/-! ### setInt changes the register file alone -/

@[simp] theorem State.setInt_force (s : State) (f : Field) (x : Int) : (s.setInt f x).force = s.force := rfl
@[simp] theorem State.setInt_frozen (s : State) (f : Field) (x : Int) : (s.setInt f x).frozen = s.frozen := rfl
@[simp] theorem State.setInt_winCtrl (s : State) (f : Field) (x : Int) : (s.setInt f x).winCtrl = s.winCtrl := rfl
@[simp] theorem State.setInt_now (s : State) (f : Field) (x : Int) : (s.setInt f x).now = s.now := rfl
@[simp] theorem State.setInt_seconds (s : State) (f : Field) (x : Int) : (s.setInt f x).seconds = s.seconds := rfl
@[simp] theorem State.setInt_tick (s : State) (f : Field) (x : Int) : (s.setInt f x).tick = s.tick := rfl
@[simp] theorem State.setInt_secondsPending (s : State) (f : Field) (x : Int) : (s.setInt f x).secondsPending = s.secondsPending := rfl
@[simp] theorem State.setInt_commit (s : State) (f : Field) (x : Int) : (s.setInt f x).commit = s.commit := rfl
@[simp] theorem State.setInt_comb (s : State) (f : Field) (x : Int) : (s.setInt f x).comb = s.comb := rfl
@[simp] theorem State.setInt_pipe (s : State) (f : Field) (x : Int) : (s.setInt f x).pipe = s.pipe := rfl
@[simp] theorem State.setInt_groups (s : State) (f : Field) (x : Int) : (s.setInt f x).groups = s.groups := rfl
@[simp] theorem State.setInt_lcd (s : State) (f : Field) (x : Int) : (s.setInt f x).lcd = s.lcd := rfl
@[simp] theorem State.setInt_strings (s : State) (f : Field) (x : Int) : (s.setInt f x).strings = s.strings := rfl
@[simp] theorem State.setInt_lamps (s : State) (f : Field) (x : Int) : (s.setInt f x).lamps = s.lamps := rfl
@[simp] theorem State.setInt_ledger (s : State) (f : Field) (x : Int) : (s.setInt f x).ledger = s.ledger := rfl
@[simp] theorem State.setInt_clock (s : State) (f : Field) (x : Int) : (s.setInt f x).clock = s.clock := rfl
@[simp] theorem State.setInt_freeCount (s : State) (f : Field) (x : Int) : (s.setInt f x).freeCount = s.freeCount := rfl
@[simp] theorem State.setInt_fault (s : State) (f : Field) (x : Int) : (s.setInt f x).fault = s.fault := rfl
@[simp] theorem State.setInt_fabric (s : State) (f : Field) (x : Int) : (s.setInt f x).fabric = s.fabric := rfl
@[simp] theorem State.setInt_events (s : State) (f : Field) (x : Int) : (s.setInt f x).events = s.events := rfl
@[simp] theorem State.setInt_klock (s : State) (f : Field) (x : Int) : (s.setInt f x).klock = s.klock := rfl
@[simp] theorem State.setInt_keys (s : State) (f : Field) (x : Int) : (s.setInt f x).keys = s.keys := rfl
@[simp] theorem State.setInt_ring (s : State) (f : Field) (x : Int) : (s.setInt f x).ring = s.ring := rfl
@[simp] theorem State.setInt_hive (s : State) (f : Field) (x : Int) : (s.setInt f x).hive = s.hive := rfl
@[simp] theorem State.setInt_config (s : State) (f : Field) (x : Int) : (s.setInt f x).config = s.config := rfl
@[simp] theorem State.setInt_store (s : State) (f : Field) (x : Int) : (s.setInt f x).store = s.store := rfl
@[simp] theorem State.setInt_update (s : State) (f : Field) (x : Int) : (s.setInt f x).update = s.update := rfl
@[simp] theorem State.setInt_service (s : State) (f : Field) (x : Int) : (s.setInt f x).service = s.service := rfl
@[simp] theorem State.setInt_xmem (s : State) (f : Field) (x : Int) : (s.setInt f x).xmem = s.xmem := rfl
@[simp] theorem State.setInt_therm (s : State) (f : Field) (x : Int) : (s.setInt f x).therm = s.therm := rfl
@[simp] theorem State.setInt_twi (s : State) (f : Field) (x : Int) : (s.setInt f x).twi = s.twi := rfl
@[simp] theorem State.setInt_late (s : State) (f : Field) (x : Int) : (s.setInt f x).late = s.late := rfl
@[simp] theorem State.setInt_pending (s : State) (f : Field) (x : Int) : (s.setInt f x).pending = s.pending := rfl

/-! ### bump changes the register file alone -/

@[simp] theorem State.bump_force (s : State) (f : Field) (n : Nat) : (s.bump f n).force = s.force := rfl
@[simp] theorem State.bump_frozen (s : State) (f : Field) (n : Nat) : (s.bump f n).frozen = s.frozen := rfl
@[simp] theorem State.bump_winCtrl (s : State) (f : Field) (n : Nat) : (s.bump f n).winCtrl = s.winCtrl := rfl
@[simp] theorem State.bump_now (s : State) (f : Field) (n : Nat) : (s.bump f n).now = s.now := rfl
@[simp] theorem State.bump_seconds (s : State) (f : Field) (n : Nat) : (s.bump f n).seconds = s.seconds := rfl
@[simp] theorem State.bump_tick (s : State) (f : Field) (n : Nat) : (s.bump f n).tick = s.tick := rfl
@[simp] theorem State.bump_secondsPending (s : State) (f : Field) (n : Nat) : (s.bump f n).secondsPending = s.secondsPending := rfl
@[simp] theorem State.bump_commit (s : State) (f : Field) (n : Nat) : (s.bump f n).commit = s.commit := rfl
@[simp] theorem State.bump_comb (s : State) (f : Field) (n : Nat) : (s.bump f n).comb = s.comb := rfl
@[simp] theorem State.bump_pipe (s : State) (f : Field) (n : Nat) : (s.bump f n).pipe = s.pipe := rfl
@[simp] theorem State.bump_groups (s : State) (f : Field) (n : Nat) : (s.bump f n).groups = s.groups := rfl
@[simp] theorem State.bump_lcd (s : State) (f : Field) (n : Nat) : (s.bump f n).lcd = s.lcd := rfl
@[simp] theorem State.bump_strings (s : State) (f : Field) (n : Nat) : (s.bump f n).strings = s.strings := rfl
@[simp] theorem State.bump_lamps (s : State) (f : Field) (n : Nat) : (s.bump f n).lamps = s.lamps := rfl
@[simp] theorem State.bump_ledger (s : State) (f : Field) (n : Nat) : (s.bump f n).ledger = s.ledger := rfl
@[simp] theorem State.bump_clock (s : State) (f : Field) (n : Nat) : (s.bump f n).clock = s.clock := rfl
@[simp] theorem State.bump_freeCount (s : State) (f : Field) (n : Nat) : (s.bump f n).freeCount = s.freeCount := rfl
@[simp] theorem State.bump_fault (s : State) (f : Field) (n : Nat) : (s.bump f n).fault = s.fault := rfl
@[simp] theorem State.bump_fabric (s : State) (f : Field) (n : Nat) : (s.bump f n).fabric = s.fabric := rfl
@[simp] theorem State.bump_events (s : State) (f : Field) (n : Nat) : (s.bump f n).events = s.events := rfl
@[simp] theorem State.bump_klock (s : State) (f : Field) (n : Nat) : (s.bump f n).klock = s.klock := rfl
@[simp] theorem State.bump_keys (s : State) (f : Field) (n : Nat) : (s.bump f n).keys = s.keys := rfl
@[simp] theorem State.bump_ring (s : State) (f : Field) (n : Nat) : (s.bump f n).ring = s.ring := rfl
@[simp] theorem State.bump_hive (s : State) (f : Field) (n : Nat) : (s.bump f n).hive = s.hive := rfl
@[simp] theorem State.bump_config (s : State) (f : Field) (n : Nat) : (s.bump f n).config = s.config := rfl
@[simp] theorem State.bump_store (s : State) (f : Field) (n : Nat) : (s.bump f n).store = s.store := rfl
@[simp] theorem State.bump_update (s : State) (f : Field) (n : Nat) : (s.bump f n).update = s.update := rfl
@[simp] theorem State.bump_service (s : State) (f : Field) (n : Nat) : (s.bump f n).service = s.service := rfl
@[simp] theorem State.bump_xmem (s : State) (f : Field) (n : Nat) : (s.bump f n).xmem = s.xmem := rfl
@[simp] theorem State.bump_therm (s : State) (f : Field) (n : Nat) : (s.bump f n).therm = s.therm := rfl
@[simp] theorem State.bump_twi (s : State) (f : Field) (n : Nat) : (s.bump f n).twi = s.twi := rfl
@[simp] theorem State.bump_late (s : State) (f : Field) (n : Nat) : (s.bump f n).late = s.late := rfl
@[simp] theorem State.bump_pending (s : State) (f : Field) (n : Nat) : (s.bump f n).pending = s.pending := rfl

/-! ### putWord changes the register file alone -/

@[simp] theorem State.putWord_force (s : State) (a : Nat) (v : Word) : (s.putWord a v).force = s.force := rfl
@[simp] theorem State.putWord_frozen (s : State) (a : Nat) (v : Word) : (s.putWord a v).frozen = s.frozen := rfl
@[simp] theorem State.putWord_winCtrl (s : State) (a : Nat) (v : Word) : (s.putWord a v).winCtrl = s.winCtrl := rfl
@[simp] theorem State.putWord_now (s : State) (a : Nat) (v : Word) : (s.putWord a v).now = s.now := rfl
@[simp] theorem State.putWord_seconds (s : State) (a : Nat) (v : Word) : (s.putWord a v).seconds = s.seconds := rfl
@[simp] theorem State.putWord_tick (s : State) (a : Nat) (v : Word) : (s.putWord a v).tick = s.tick := rfl
@[simp] theorem State.putWord_secondsPending (s : State) (a : Nat) (v : Word) : (s.putWord a v).secondsPending = s.secondsPending := rfl
@[simp] theorem State.putWord_commit (s : State) (a : Nat) (v : Word) : (s.putWord a v).commit = s.commit := rfl
@[simp] theorem State.putWord_comb (s : State) (a : Nat) (v : Word) : (s.putWord a v).comb = s.comb := rfl
@[simp] theorem State.putWord_pipe (s : State) (a : Nat) (v : Word) : (s.putWord a v).pipe = s.pipe := rfl
@[simp] theorem State.putWord_groups (s : State) (a : Nat) (v : Word) : (s.putWord a v).groups = s.groups := rfl
@[simp] theorem State.putWord_lcd (s : State) (a : Nat) (v : Word) : (s.putWord a v).lcd = s.lcd := rfl
@[simp] theorem State.putWord_strings (s : State) (a : Nat) (v : Word) : (s.putWord a v).strings = s.strings := rfl
@[simp] theorem State.putWord_lamps (s : State) (a : Nat) (v : Word) : (s.putWord a v).lamps = s.lamps := rfl
@[simp] theorem State.putWord_ledger (s : State) (a : Nat) (v : Word) : (s.putWord a v).ledger = s.ledger := rfl
@[simp] theorem State.putWord_clock (s : State) (a : Nat) (v : Word) : (s.putWord a v).clock = s.clock := rfl
@[simp] theorem State.putWord_freeCount (s : State) (a : Nat) (v : Word) : (s.putWord a v).freeCount = s.freeCount := rfl
@[simp] theorem State.putWord_fault (s : State) (a : Nat) (v : Word) : (s.putWord a v).fault = s.fault := rfl
@[simp] theorem State.putWord_fabric (s : State) (a : Nat) (v : Word) : (s.putWord a v).fabric = s.fabric := rfl
@[simp] theorem State.putWord_events (s : State) (a : Nat) (v : Word) : (s.putWord a v).events = s.events := rfl
@[simp] theorem State.putWord_klock (s : State) (a : Nat) (v : Word) : (s.putWord a v).klock = s.klock := rfl
@[simp] theorem State.putWord_keys (s : State) (a : Nat) (v : Word) : (s.putWord a v).keys = s.keys := rfl
@[simp] theorem State.putWord_ring (s : State) (a : Nat) (v : Word) : (s.putWord a v).ring = s.ring := rfl
@[simp] theorem State.putWord_hive (s : State) (a : Nat) (v : Word) : (s.putWord a v).hive = s.hive := rfl
@[simp] theorem State.putWord_config (s : State) (a : Nat) (v : Word) : (s.putWord a v).config = s.config := rfl
@[simp] theorem State.putWord_store (s : State) (a : Nat) (v : Word) : (s.putWord a v).store = s.store := rfl
@[simp] theorem State.putWord_update (s : State) (a : Nat) (v : Word) : (s.putWord a v).update = s.update := rfl
@[simp] theorem State.putWord_service (s : State) (a : Nat) (v : Word) : (s.putWord a v).service = s.service := rfl
@[simp] theorem State.putWord_xmem (s : State) (a : Nat) (v : Word) : (s.putWord a v).xmem = s.xmem := rfl
@[simp] theorem State.putWord_therm (s : State) (a : Nat) (v : Word) : (s.putWord a v).therm = s.therm := rfl
@[simp] theorem State.putWord_twi (s : State) (a : Nat) (v : Word) : (s.putWord a v).twi = s.twi := rfl
@[simp] theorem State.putWord_late (s : State) (a : Nat) (v : Word) : (s.putWord a v).late = s.late := rfl
@[simp] theorem State.putWord_pending (s : State) (a : Nat) (v : Word) : (s.putWord a v).pending = s.pending := rfl

/-! ### setForce changes force alone -/

@[simp] theorem State.setForce_regs (s : State) (a : Nat) (v : Word) : (s.setForce a v).regs = s.regs := rfl
@[simp] theorem State.setForce_frozen (s : State) (a : Nat) (v : Word) : (s.setForce a v).frozen = s.frozen := rfl
@[simp] theorem State.setForce_winCtrl (s : State) (a : Nat) (v : Word) : (s.setForce a v).winCtrl = s.winCtrl := rfl
@[simp] theorem State.setForce_now (s : State) (a : Nat) (v : Word) : (s.setForce a v).now = s.now := rfl
@[simp] theorem State.setForce_seconds (s : State) (a : Nat) (v : Word) : (s.setForce a v).seconds = s.seconds := rfl
@[simp] theorem State.setForce_tick (s : State) (a : Nat) (v : Word) : (s.setForce a v).tick = s.tick := rfl
@[simp] theorem State.setForce_secondsPending (s : State) (a : Nat) (v : Word) : (s.setForce a v).secondsPending = s.secondsPending := rfl
@[simp] theorem State.setForce_commit (s : State) (a : Nat) (v : Word) : (s.setForce a v).commit = s.commit := rfl
@[simp] theorem State.setForce_comb (s : State) (a : Nat) (v : Word) : (s.setForce a v).comb = s.comb := rfl
@[simp] theorem State.setForce_pipe (s : State) (a : Nat) (v : Word) : (s.setForce a v).pipe = s.pipe := rfl
@[simp] theorem State.setForce_groups (s : State) (a : Nat) (v : Word) : (s.setForce a v).groups = s.groups := rfl
@[simp] theorem State.setForce_lcd (s : State) (a : Nat) (v : Word) : (s.setForce a v).lcd = s.lcd := rfl
@[simp] theorem State.setForce_strings (s : State) (a : Nat) (v : Word) : (s.setForce a v).strings = s.strings := rfl
@[simp] theorem State.setForce_lamps (s : State) (a : Nat) (v : Word) : (s.setForce a v).lamps = s.lamps := rfl
@[simp] theorem State.setForce_ledger (s : State) (a : Nat) (v : Word) : (s.setForce a v).ledger = s.ledger := rfl
@[simp] theorem State.setForce_clock (s : State) (a : Nat) (v : Word) : (s.setForce a v).clock = s.clock := rfl
@[simp] theorem State.setForce_freeCount (s : State) (a : Nat) (v : Word) : (s.setForce a v).freeCount = s.freeCount := rfl
@[simp] theorem State.setForce_fault (s : State) (a : Nat) (v : Word) : (s.setForce a v).fault = s.fault := rfl
@[simp] theorem State.setForce_fabric (s : State) (a : Nat) (v : Word) : (s.setForce a v).fabric = s.fabric := rfl
@[simp] theorem State.setForce_events (s : State) (a : Nat) (v : Word) : (s.setForce a v).events = s.events := rfl
@[simp] theorem State.setForce_klock (s : State) (a : Nat) (v : Word) : (s.setForce a v).klock = s.klock := rfl
@[simp] theorem State.setForce_keys (s : State) (a : Nat) (v : Word) : (s.setForce a v).keys = s.keys := rfl
@[simp] theorem State.setForce_ring (s : State) (a : Nat) (v : Word) : (s.setForce a v).ring = s.ring := rfl
@[simp] theorem State.setForce_hive (s : State) (a : Nat) (v : Word) : (s.setForce a v).hive = s.hive := rfl
@[simp] theorem State.setForce_config (s : State) (a : Nat) (v : Word) : (s.setForce a v).config = s.config := rfl
@[simp] theorem State.setForce_store (s : State) (a : Nat) (v : Word) : (s.setForce a v).store = s.store := rfl
@[simp] theorem State.setForce_update (s : State) (a : Nat) (v : Word) : (s.setForce a v).update = s.update := rfl
@[simp] theorem State.setForce_service (s : State) (a : Nat) (v : Word) : (s.setForce a v).service = s.service := rfl
@[simp] theorem State.setForce_xmem (s : State) (a : Nat) (v : Word) : (s.setForce a v).xmem = s.xmem := rfl
@[simp] theorem State.setForce_therm (s : State) (a : Nat) (v : Word) : (s.setForce a v).therm = s.therm := rfl
@[simp] theorem State.setForce_twi (s : State) (a : Nat) (v : Word) : (s.setForce a v).twi = s.twi := rfl
@[simp] theorem State.setForce_late (s : State) (a : Nat) (v : Word) : (s.setForce a v).late = s.late := rfl
@[simp] theorem State.setForce_pending (s : State) (a : Nat) (v : Word) : (s.setForce a v).pending = s.pending := rfl

/-! ### takeFreeze changes frozen alone -/

@[simp] theorem State.takeFreeze_regs (s : State) (a : Nat) : (s.takeFreeze a).regs = s.regs := rfl
@[simp] theorem State.takeFreeze_force (s : State) (a : Nat) : (s.takeFreeze a).force = s.force := rfl
@[simp] theorem State.takeFreeze_winCtrl (s : State) (a : Nat) : (s.takeFreeze a).winCtrl = s.winCtrl := rfl
@[simp] theorem State.takeFreeze_now (s : State) (a : Nat) : (s.takeFreeze a).now = s.now := rfl
@[simp] theorem State.takeFreeze_seconds (s : State) (a : Nat) : (s.takeFreeze a).seconds = s.seconds := rfl
@[simp] theorem State.takeFreeze_tick (s : State) (a : Nat) : (s.takeFreeze a).tick = s.tick := rfl
@[simp] theorem State.takeFreeze_secondsPending (s : State) (a : Nat) : (s.takeFreeze a).secondsPending = s.secondsPending := rfl
@[simp] theorem State.takeFreeze_commit (s : State) (a : Nat) : (s.takeFreeze a).commit = s.commit := rfl
@[simp] theorem State.takeFreeze_comb (s : State) (a : Nat) : (s.takeFreeze a).comb = s.comb := rfl
@[simp] theorem State.takeFreeze_pipe (s : State) (a : Nat) : (s.takeFreeze a).pipe = s.pipe := rfl
@[simp] theorem State.takeFreeze_groups (s : State) (a : Nat) : (s.takeFreeze a).groups = s.groups := rfl
@[simp] theorem State.takeFreeze_lcd (s : State) (a : Nat) : (s.takeFreeze a).lcd = s.lcd := rfl
@[simp] theorem State.takeFreeze_strings (s : State) (a : Nat) : (s.takeFreeze a).strings = s.strings := rfl
@[simp] theorem State.takeFreeze_lamps (s : State) (a : Nat) : (s.takeFreeze a).lamps = s.lamps := rfl
@[simp] theorem State.takeFreeze_ledger (s : State) (a : Nat) : (s.takeFreeze a).ledger = s.ledger := rfl
@[simp] theorem State.takeFreeze_clock (s : State) (a : Nat) : (s.takeFreeze a).clock = s.clock := rfl
@[simp] theorem State.takeFreeze_freeCount (s : State) (a : Nat) : (s.takeFreeze a).freeCount = s.freeCount := rfl
@[simp] theorem State.takeFreeze_fault (s : State) (a : Nat) : (s.takeFreeze a).fault = s.fault := rfl
@[simp] theorem State.takeFreeze_fabric (s : State) (a : Nat) : (s.takeFreeze a).fabric = s.fabric := rfl
@[simp] theorem State.takeFreeze_events (s : State) (a : Nat) : (s.takeFreeze a).events = s.events := rfl
@[simp] theorem State.takeFreeze_klock (s : State) (a : Nat) : (s.takeFreeze a).klock = s.klock := rfl
@[simp] theorem State.takeFreeze_keys (s : State) (a : Nat) : (s.takeFreeze a).keys = s.keys := rfl
@[simp] theorem State.takeFreeze_ring (s : State) (a : Nat) : (s.takeFreeze a).ring = s.ring := rfl
@[simp] theorem State.takeFreeze_hive (s : State) (a : Nat) : (s.takeFreeze a).hive = s.hive := rfl
@[simp] theorem State.takeFreeze_config (s : State) (a : Nat) : (s.takeFreeze a).config = s.config := rfl
@[simp] theorem State.takeFreeze_store (s : State) (a : Nat) : (s.takeFreeze a).store = s.store := rfl
@[simp] theorem State.takeFreeze_update (s : State) (a : Nat) : (s.takeFreeze a).update = s.update := rfl
@[simp] theorem State.takeFreeze_service (s : State) (a : Nat) : (s.takeFreeze a).service = s.service := rfl
@[simp] theorem State.takeFreeze_xmem (s : State) (a : Nat) : (s.takeFreeze a).xmem = s.xmem := rfl
@[simp] theorem State.takeFreeze_therm (s : State) (a : Nat) : (s.takeFreeze a).therm = s.therm := rfl
@[simp] theorem State.takeFreeze_twi (s : State) (a : Nat) : (s.takeFreeze a).twi = s.twi := rfl
@[simp] theorem State.takeFreeze_late (s : State) (a : Nat) : (s.takeFreeze a).late = s.late := rfl
@[simp] theorem State.takeFreeze_pending (s : State) (a : Nat) : (s.takeFreeze a).pending = s.pending := rfl

/-! ### modGrp changes groups alone -/

@[simp] theorem State.modGrp_regs (s : State) (g : Nat) (f : GroupState → GroupState) : (s.modGrp g f).regs = s.regs := rfl
@[simp] theorem State.modGrp_force (s : State) (g : Nat) (f : GroupState → GroupState) : (s.modGrp g f).force = s.force := rfl
@[simp] theorem State.modGrp_frozen (s : State) (g : Nat) (f : GroupState → GroupState) : (s.modGrp g f).frozen = s.frozen := rfl
@[simp] theorem State.modGrp_winCtrl (s : State) (g : Nat) (f : GroupState → GroupState) : (s.modGrp g f).winCtrl = s.winCtrl := rfl
@[simp] theorem State.modGrp_now (s : State) (g : Nat) (f : GroupState → GroupState) : (s.modGrp g f).now = s.now := rfl
@[simp] theorem State.modGrp_seconds (s : State) (g : Nat) (f : GroupState → GroupState) : (s.modGrp g f).seconds = s.seconds := rfl
@[simp] theorem State.modGrp_tick (s : State) (g : Nat) (f : GroupState → GroupState) : (s.modGrp g f).tick = s.tick := rfl
@[simp] theorem State.modGrp_secondsPending (s : State) (g : Nat) (f : GroupState → GroupState) : (s.modGrp g f).secondsPending = s.secondsPending := rfl
@[simp] theorem State.modGrp_commit (s : State) (g : Nat) (f : GroupState → GroupState) : (s.modGrp g f).commit = s.commit := rfl
@[simp] theorem State.modGrp_comb (s : State) (g : Nat) (f : GroupState → GroupState) : (s.modGrp g f).comb = s.comb := rfl
@[simp] theorem State.modGrp_pipe (s : State) (g : Nat) (f : GroupState → GroupState) : (s.modGrp g f).pipe = s.pipe := rfl
@[simp] theorem State.modGrp_lcd (s : State) (g : Nat) (f : GroupState → GroupState) : (s.modGrp g f).lcd = s.lcd := rfl
@[simp] theorem State.modGrp_strings (s : State) (g : Nat) (f : GroupState → GroupState) : (s.modGrp g f).strings = s.strings := rfl
@[simp] theorem State.modGrp_lamps (s : State) (g : Nat) (f : GroupState → GroupState) : (s.modGrp g f).lamps = s.lamps := rfl
@[simp] theorem State.modGrp_ledger (s : State) (g : Nat) (f : GroupState → GroupState) : (s.modGrp g f).ledger = s.ledger := rfl
@[simp] theorem State.modGrp_clock (s : State) (g : Nat) (f : GroupState → GroupState) : (s.modGrp g f).clock = s.clock := rfl
@[simp] theorem State.modGrp_freeCount (s : State) (g : Nat) (f : GroupState → GroupState) : (s.modGrp g f).freeCount = s.freeCount := rfl
@[simp] theorem State.modGrp_fault (s : State) (g : Nat) (f : GroupState → GroupState) : (s.modGrp g f).fault = s.fault := rfl
@[simp] theorem State.modGrp_fabric (s : State) (g : Nat) (f : GroupState → GroupState) : (s.modGrp g f).fabric = s.fabric := rfl
@[simp] theorem State.modGrp_events (s : State) (g : Nat) (f : GroupState → GroupState) : (s.modGrp g f).events = s.events := rfl
@[simp] theorem State.modGrp_klock (s : State) (g : Nat) (f : GroupState → GroupState) : (s.modGrp g f).klock = s.klock := rfl
@[simp] theorem State.modGrp_keys (s : State) (g : Nat) (f : GroupState → GroupState) : (s.modGrp g f).keys = s.keys := rfl
@[simp] theorem State.modGrp_ring (s : State) (g : Nat) (f : GroupState → GroupState) : (s.modGrp g f).ring = s.ring := rfl
@[simp] theorem State.modGrp_hive (s : State) (g : Nat) (f : GroupState → GroupState) : (s.modGrp g f).hive = s.hive := rfl
@[simp] theorem State.modGrp_config (s : State) (g : Nat) (f : GroupState → GroupState) : (s.modGrp g f).config = s.config := rfl
@[simp] theorem State.modGrp_store (s : State) (g : Nat) (f : GroupState → GroupState) : (s.modGrp g f).store = s.store := rfl
@[simp] theorem State.modGrp_update (s : State) (g : Nat) (f : GroupState → GroupState) : (s.modGrp g f).update = s.update := rfl
@[simp] theorem State.modGrp_service (s : State) (g : Nat) (f : GroupState → GroupState) : (s.modGrp g f).service = s.service := rfl
@[simp] theorem State.modGrp_xmem (s : State) (g : Nat) (f : GroupState → GroupState) : (s.modGrp g f).xmem = s.xmem := rfl
@[simp] theorem State.modGrp_therm (s : State) (g : Nat) (f : GroupState → GroupState) : (s.modGrp g f).therm = s.therm := rfl
@[simp] theorem State.modGrp_twi (s : State) (g : Nat) (f : GroupState → GroupState) : (s.modGrp g f).twi = s.twi := rfl
@[simp] theorem State.modGrp_late (s : State) (g : Nat) (f : GroupState → GroupState) : (s.modGrp g f).late = s.late := rfl
@[simp] theorem State.modGrp_pending (s : State) (g : Nat) (f : GroupState → GroupState) : (s.modGrp g f).pending = s.pending := rfl

/-! ### modStr changes strings alone -/

@[simp] theorem State.modStr_regs (s : State) (n : Nat) (f : StringState → StringState) : (s.modStr n f).regs = s.regs := rfl
@[simp] theorem State.modStr_force (s : State) (n : Nat) (f : StringState → StringState) : (s.modStr n f).force = s.force := rfl
@[simp] theorem State.modStr_frozen (s : State) (n : Nat) (f : StringState → StringState) : (s.modStr n f).frozen = s.frozen := rfl
@[simp] theorem State.modStr_winCtrl (s : State) (n : Nat) (f : StringState → StringState) : (s.modStr n f).winCtrl = s.winCtrl := rfl
@[simp] theorem State.modStr_now (s : State) (n : Nat) (f : StringState → StringState) : (s.modStr n f).now = s.now := rfl
@[simp] theorem State.modStr_seconds (s : State) (n : Nat) (f : StringState → StringState) : (s.modStr n f).seconds = s.seconds := rfl
@[simp] theorem State.modStr_tick (s : State) (n : Nat) (f : StringState → StringState) : (s.modStr n f).tick = s.tick := rfl
@[simp] theorem State.modStr_secondsPending (s : State) (n : Nat) (f : StringState → StringState) : (s.modStr n f).secondsPending = s.secondsPending := rfl
@[simp] theorem State.modStr_commit (s : State) (n : Nat) (f : StringState → StringState) : (s.modStr n f).commit = s.commit := rfl
@[simp] theorem State.modStr_comb (s : State) (n : Nat) (f : StringState → StringState) : (s.modStr n f).comb = s.comb := rfl
@[simp] theorem State.modStr_pipe (s : State) (n : Nat) (f : StringState → StringState) : (s.modStr n f).pipe = s.pipe := rfl
@[simp] theorem State.modStr_groups (s : State) (n : Nat) (f : StringState → StringState) : (s.modStr n f).groups = s.groups := rfl
@[simp] theorem State.modStr_lcd (s : State) (n : Nat) (f : StringState → StringState) : (s.modStr n f).lcd = s.lcd := rfl
@[simp] theorem State.modStr_lamps (s : State) (n : Nat) (f : StringState → StringState) : (s.modStr n f).lamps = s.lamps := rfl
@[simp] theorem State.modStr_ledger (s : State) (n : Nat) (f : StringState → StringState) : (s.modStr n f).ledger = s.ledger := rfl
@[simp] theorem State.modStr_clock (s : State) (n : Nat) (f : StringState → StringState) : (s.modStr n f).clock = s.clock := rfl
@[simp] theorem State.modStr_freeCount (s : State) (n : Nat) (f : StringState → StringState) : (s.modStr n f).freeCount = s.freeCount := rfl
@[simp] theorem State.modStr_fault (s : State) (n : Nat) (f : StringState → StringState) : (s.modStr n f).fault = s.fault := rfl
@[simp] theorem State.modStr_fabric (s : State) (n : Nat) (f : StringState → StringState) : (s.modStr n f).fabric = s.fabric := rfl
@[simp] theorem State.modStr_events (s : State) (n : Nat) (f : StringState → StringState) : (s.modStr n f).events = s.events := rfl
@[simp] theorem State.modStr_klock (s : State) (n : Nat) (f : StringState → StringState) : (s.modStr n f).klock = s.klock := rfl
@[simp] theorem State.modStr_keys (s : State) (n : Nat) (f : StringState → StringState) : (s.modStr n f).keys = s.keys := rfl
@[simp] theorem State.modStr_ring (s : State) (n : Nat) (f : StringState → StringState) : (s.modStr n f).ring = s.ring := rfl
@[simp] theorem State.modStr_hive (s : State) (n : Nat) (f : StringState → StringState) : (s.modStr n f).hive = s.hive := rfl
@[simp] theorem State.modStr_config (s : State) (n : Nat) (f : StringState → StringState) : (s.modStr n f).config = s.config := rfl
@[simp] theorem State.modStr_store (s : State) (n : Nat) (f : StringState → StringState) : (s.modStr n f).store = s.store := rfl
@[simp] theorem State.modStr_update (s : State) (n : Nat) (f : StringState → StringState) : (s.modStr n f).update = s.update := rfl
@[simp] theorem State.modStr_service (s : State) (n : Nat) (f : StringState → StringState) : (s.modStr n f).service = s.service := rfl
@[simp] theorem State.modStr_xmem (s : State) (n : Nat) (f : StringState → StringState) : (s.modStr n f).xmem = s.xmem := rfl
@[simp] theorem State.modStr_therm (s : State) (n : Nat) (f : StringState → StringState) : (s.modStr n f).therm = s.therm := rfl
@[simp] theorem State.modStr_twi (s : State) (n : Nat) (f : StringState → StringState) : (s.modStr n f).twi = s.twi := rfl
@[simp] theorem State.modStr_late (s : State) (n : Nat) (f : StringState → StringState) : (s.modStr n f).late = s.late := rfl
@[simp] theorem State.modStr_pending (s : State) (n : Nat) (f : StringState → StringState) : (s.modStr n f).pending = s.pending := rfl

/-! ### keepQueue changes pending alone -/

@[simp] theorem State.keepQueue_regs (s : State) (u : State) : (s.keepQueue u).regs = s.regs := rfl
@[simp] theorem State.keepQueue_force (s : State) (u : State) : (s.keepQueue u).force = s.force := rfl
@[simp] theorem State.keepQueue_frozen (s : State) (u : State) : (s.keepQueue u).frozen = s.frozen := rfl
@[simp] theorem State.keepQueue_winCtrl (s : State) (u : State) : (s.keepQueue u).winCtrl = s.winCtrl := rfl
@[simp] theorem State.keepQueue_now (s : State) (u : State) : (s.keepQueue u).now = s.now := rfl
@[simp] theorem State.keepQueue_seconds (s : State) (u : State) : (s.keepQueue u).seconds = s.seconds := rfl
@[simp] theorem State.keepQueue_tick (s : State) (u : State) : (s.keepQueue u).tick = s.tick := rfl
@[simp] theorem State.keepQueue_secondsPending (s : State) (u : State) : (s.keepQueue u).secondsPending = s.secondsPending := rfl
@[simp] theorem State.keepQueue_commit (s : State) (u : State) : (s.keepQueue u).commit = s.commit := rfl
@[simp] theorem State.keepQueue_comb (s : State) (u : State) : (s.keepQueue u).comb = s.comb := rfl
@[simp] theorem State.keepQueue_pipe (s : State) (u : State) : (s.keepQueue u).pipe = s.pipe := rfl
@[simp] theorem State.keepQueue_groups (s : State) (u : State) : (s.keepQueue u).groups = s.groups := rfl
@[simp] theorem State.keepQueue_lcd (s : State) (u : State) : (s.keepQueue u).lcd = s.lcd := rfl
@[simp] theorem State.keepQueue_strings (s : State) (u : State) : (s.keepQueue u).strings = s.strings := rfl
@[simp] theorem State.keepQueue_lamps (s : State) (u : State) : (s.keepQueue u).lamps = s.lamps := rfl
@[simp] theorem State.keepQueue_ledger (s : State) (u : State) : (s.keepQueue u).ledger = s.ledger := rfl
@[simp] theorem State.keepQueue_clock (s : State) (u : State) : (s.keepQueue u).clock = s.clock := rfl
@[simp] theorem State.keepQueue_freeCount (s : State) (u : State) : (s.keepQueue u).freeCount = s.freeCount := rfl
@[simp] theorem State.keepQueue_fault (s : State) (u : State) : (s.keepQueue u).fault = s.fault := rfl
@[simp] theorem State.keepQueue_fabric (s : State) (u : State) : (s.keepQueue u).fabric = s.fabric := rfl
@[simp] theorem State.keepQueue_events (s : State) (u : State) : (s.keepQueue u).events = s.events := rfl
@[simp] theorem State.keepQueue_klock (s : State) (u : State) : (s.keepQueue u).klock = s.klock := rfl
@[simp] theorem State.keepQueue_keys (s : State) (u : State) : (s.keepQueue u).keys = s.keys := rfl
@[simp] theorem State.keepQueue_ring (s : State) (u : State) : (s.keepQueue u).ring = s.ring := rfl
@[simp] theorem State.keepQueue_hive (s : State) (u : State) : (s.keepQueue u).hive = s.hive := rfl
@[simp] theorem State.keepQueue_config (s : State) (u : State) : (s.keepQueue u).config = s.config := rfl
@[simp] theorem State.keepQueue_store (s : State) (u : State) : (s.keepQueue u).store = s.store := rfl
@[simp] theorem State.keepQueue_update (s : State) (u : State) : (s.keepQueue u).update = s.update := rfl
@[simp] theorem State.keepQueue_service (s : State) (u : State) : (s.keepQueue u).service = s.service := rfl
@[simp] theorem State.keepQueue_xmem (s : State) (u : State) : (s.keepQueue u).xmem = s.xmem := rfl
@[simp] theorem State.keepQueue_therm (s : State) (u : State) : (s.keepQueue u).therm = s.therm := rfl
@[simp] theorem State.keepQueue_twi (s : State) (u : State) : (s.keepQueue u).twi = s.twi := rfl
@[simp] theorem State.keepQueue_late (s : State) (u : State) : (s.keepQueue u).late = s.late := rfl

/-! ### elapse changes time alone -/

@[simp] theorem State.elapse_regs (s : State) (n : Nat) : (s.elapse n).regs = s.regs := by unfold State.elapse; split <;> rfl
@[simp] theorem State.elapseTo_regs (s : State) (n : Nat) : (s.elapseTo n).regs = s.regs := by unfold State.elapseTo; split <;> simp
@[simp] theorem State.elapse_force (s : State) (n : Nat) : (s.elapse n).force = s.force := by unfold State.elapse; split <;> rfl
@[simp] theorem State.elapseTo_force (s : State) (n : Nat) : (s.elapseTo n).force = s.force := by unfold State.elapseTo; split <;> simp
@[simp] theorem State.elapse_frozen (s : State) (n : Nat) : (s.elapse n).frozen = s.frozen := by unfold State.elapse; split <;> rfl
@[simp] theorem State.elapseTo_frozen (s : State) (n : Nat) : (s.elapseTo n).frozen = s.frozen := by unfold State.elapseTo; split <;> simp
@[simp] theorem State.elapse_winCtrl (s : State) (n : Nat) : (s.elapse n).winCtrl = s.winCtrl := by unfold State.elapse; split <;> rfl
@[simp] theorem State.elapseTo_winCtrl (s : State) (n : Nat) : (s.elapseTo n).winCtrl = s.winCtrl := by unfold State.elapseTo; split <;> simp
@[simp] theorem State.elapse_commit (s : State) (n : Nat) : (s.elapse n).commit = s.commit := by unfold State.elapse; split <;> rfl
@[simp] theorem State.elapseTo_commit (s : State) (n : Nat) : (s.elapseTo n).commit = s.commit := by unfold State.elapseTo; split <;> simp
@[simp] theorem State.elapse_comb (s : State) (n : Nat) : (s.elapse n).comb = s.comb := by unfold State.elapse; split <;> rfl
@[simp] theorem State.elapseTo_comb (s : State) (n : Nat) : (s.elapseTo n).comb = s.comb := by unfold State.elapseTo; split <;> simp
@[simp] theorem State.elapse_pipe (s : State) (n : Nat) : (s.elapse n).pipe = s.pipe := by unfold State.elapse; split <;> rfl
@[simp] theorem State.elapseTo_pipe (s : State) (n : Nat) : (s.elapseTo n).pipe = s.pipe := by unfold State.elapseTo; split <;> simp
@[simp] theorem State.elapse_groups (s : State) (n : Nat) : (s.elapse n).groups = s.groups := by unfold State.elapse; split <;> rfl
@[simp] theorem State.elapseTo_groups (s : State) (n : Nat) : (s.elapseTo n).groups = s.groups := by unfold State.elapseTo; split <;> simp
@[simp] theorem State.elapse_lcd (s : State) (n : Nat) : (s.elapse n).lcd = s.lcd := by unfold State.elapse; split <;> rfl
@[simp] theorem State.elapseTo_lcd (s : State) (n : Nat) : (s.elapseTo n).lcd = s.lcd := by unfold State.elapseTo; split <;> simp
@[simp] theorem State.elapse_strings (s : State) (n : Nat) : (s.elapse n).strings = s.strings := by unfold State.elapse; split <;> rfl
@[simp] theorem State.elapseTo_strings (s : State) (n : Nat) : (s.elapseTo n).strings = s.strings := by unfold State.elapseTo; split <;> simp
@[simp] theorem State.elapse_lamps (s : State) (n : Nat) : (s.elapse n).lamps = s.lamps := by unfold State.elapse; split <;> rfl
@[simp] theorem State.elapseTo_lamps (s : State) (n : Nat) : (s.elapseTo n).lamps = s.lamps := by unfold State.elapseTo; split <;> simp
@[simp] theorem State.elapse_ledger (s : State) (n : Nat) : (s.elapse n).ledger = s.ledger := by unfold State.elapse; split <;> rfl
@[simp] theorem State.elapseTo_ledger (s : State) (n : Nat) : (s.elapseTo n).ledger = s.ledger := by unfold State.elapseTo; split <;> simp
@[simp] theorem State.elapse_clock (s : State) (n : Nat) : (s.elapse n).clock = s.clock := by unfold State.elapse; split <;> rfl
@[simp] theorem State.elapseTo_clock (s : State) (n : Nat) : (s.elapseTo n).clock = s.clock := by unfold State.elapseTo; split <;> simp
@[simp] theorem State.elapse_freeCount (s : State) (n : Nat) : (s.elapse n).freeCount = s.freeCount := by unfold State.elapse; split <;> rfl
@[simp] theorem State.elapseTo_freeCount (s : State) (n : Nat) : (s.elapseTo n).freeCount = s.freeCount := by unfold State.elapseTo; split <;> simp
@[simp] theorem State.elapse_fault (s : State) (n : Nat) : (s.elapse n).fault = s.fault := by unfold State.elapse; split <;> rfl
@[simp] theorem State.elapseTo_fault (s : State) (n : Nat) : (s.elapseTo n).fault = s.fault := by unfold State.elapseTo; split <;> simp
@[simp] theorem State.elapse_fabric (s : State) (n : Nat) : (s.elapse n).fabric = s.fabric := by unfold State.elapse; split <;> rfl
@[simp] theorem State.elapseTo_fabric (s : State) (n : Nat) : (s.elapseTo n).fabric = s.fabric := by unfold State.elapseTo; split <;> simp
@[simp] theorem State.elapse_events (s : State) (n : Nat) : (s.elapse n).events = s.events := by unfold State.elapse; split <;> rfl
@[simp] theorem State.elapseTo_events (s : State) (n : Nat) : (s.elapseTo n).events = s.events := by unfold State.elapseTo; split <;> simp
@[simp] theorem State.elapse_klock (s : State) (n : Nat) : (s.elapse n).klock = s.klock := by unfold State.elapse; split <;> rfl
@[simp] theorem State.elapseTo_klock (s : State) (n : Nat) : (s.elapseTo n).klock = s.klock := by unfold State.elapseTo; split <;> simp
@[simp] theorem State.elapse_keys (s : State) (n : Nat) : (s.elapse n).keys = s.keys := by unfold State.elapse; split <;> rfl
@[simp] theorem State.elapseTo_keys (s : State) (n : Nat) : (s.elapseTo n).keys = s.keys := by unfold State.elapseTo; split <;> simp
@[simp] theorem State.elapse_ring (s : State) (n : Nat) : (s.elapse n).ring = s.ring := by unfold State.elapse; split <;> rfl
@[simp] theorem State.elapseTo_ring (s : State) (n : Nat) : (s.elapseTo n).ring = s.ring := by unfold State.elapseTo; split <;> simp
@[simp] theorem State.elapse_hive (s : State) (n : Nat) : (s.elapse n).hive = s.hive := by unfold State.elapse; split <;> rfl
@[simp] theorem State.elapseTo_hive (s : State) (n : Nat) : (s.elapseTo n).hive = s.hive := by unfold State.elapseTo; split <;> simp
@[simp] theorem State.elapse_config (s : State) (n : Nat) : (s.elapse n).config = s.config := by unfold State.elapse; split <;> rfl
@[simp] theorem State.elapseTo_config (s : State) (n : Nat) : (s.elapseTo n).config = s.config := by unfold State.elapseTo; split <;> simp
@[simp] theorem State.elapse_store (s : State) (n : Nat) : (s.elapse n).store = s.store := by unfold State.elapse; split <;> rfl
@[simp] theorem State.elapseTo_store (s : State) (n : Nat) : (s.elapseTo n).store = s.store := by unfold State.elapseTo; split <;> simp
@[simp] theorem State.elapse_update (s : State) (n : Nat) : (s.elapse n).update = s.update := by unfold State.elapse; split <;> rfl
@[simp] theorem State.elapseTo_update (s : State) (n : Nat) : (s.elapseTo n).update = s.update := by unfold State.elapseTo; split <;> simp
@[simp] theorem State.elapse_service (s : State) (n : Nat) : (s.elapse n).service = s.service := by unfold State.elapse; split <;> rfl
@[simp] theorem State.elapseTo_service (s : State) (n : Nat) : (s.elapseTo n).service = s.service := by unfold State.elapseTo; split <;> simp
@[simp] theorem State.elapse_xmem (s : State) (n : Nat) : (s.elapse n).xmem = s.xmem := by unfold State.elapse; split <;> rfl
@[simp] theorem State.elapseTo_xmem (s : State) (n : Nat) : (s.elapseTo n).xmem = s.xmem := by unfold State.elapseTo; split <;> simp
@[simp] theorem State.elapse_therm (s : State) (n : Nat) : (s.elapse n).therm = s.therm := by unfold State.elapse; split <;> rfl
@[simp] theorem State.elapseTo_therm (s : State) (n : Nat) : (s.elapseTo n).therm = s.therm := by unfold State.elapseTo; split <;> simp
@[simp] theorem State.elapse_twi (s : State) (n : Nat) : (s.elapse n).twi = s.twi := by unfold State.elapse; split <;> rfl
@[simp] theorem State.elapse_late (s : State) (n : Nat) : (s.elapse n).late = s.late := by unfold State.elapse; split <;> rfl
@[simp] theorem State.elapseTo_twi (s : State) (n : Nat) : (s.elapseTo n).twi = s.twi := by unfold State.elapseTo; split <;> simp
@[simp] theorem State.elapseTo_late (s : State) (n : Nat) : (s.elapseTo n).late = s.late := by unfold State.elapseTo; split <;> simp
@[simp] theorem State.elapse_pending (s : State) (n : Nat) : (s.elapse n).pending = s.pending := by unfold State.elapse; split <;> rfl
@[simp] theorem State.elapseTo_pending (s : State) (n : Nat) : (s.elapseTo n).pending = s.pending := by unfold State.elapseTo; split <;> simp

@[simp] theorem State.elapse_now (s : State) (n : Nat) : (s.elapse n).now = s.now + n := by unfold State.elapse; split <;> rfl
@[simp] theorem State.elapseTo_now (s : State) (t : Nat) : (s.elapseTo t).now = max s.now t := by
  unfold State.elapseTo; split
  · rw [State.elapse_now]; omega
  · omega

/-! ### Registers -/

/-- An effect that leaves the queue alone is kept as it is. -/
theorem State.keepQueue_eq {t s : State} (h : t.pending = s.pending) : t.keepQueue s = t := by
  unfold State.keepQueue; rw [← h]

@[simp] theorem State.keepQueue_pending_eq (s u : State) : (s.keepQueue u).pending = u.pending := rfl
@[simp] theorem State.keepQueue_self (s : State) : s.keepQueue s = s := rfl

@[simp] theorem State.reg_keepQueue (s u : State) (a : Nat) : (s.keepQueue u).reg a = s.reg a := rfl
@[simp] theorem State.get_keepQueue (s u : State) (f : Field) : (s.keepQueue u).get f = s.get f := rfl
@[simp] theorem State.flag_keepQueue (s u : State) (f : Field) : (s.keepQueue u).flag f = s.flag f := rfl
@[simp] theorem State.reg_elapse (s : State) (n a : Nat) : (s.elapse n).reg a = s.reg a := by simp [State.reg]
@[simp] theorem State.get_elapse (s : State) (n : Nat) (f : Field) : (s.elapse n).get f = s.get f := by simp [State.get]
@[simp] theorem State.flag_elapse (s : State) (n : Nat) (f : Field) : (s.elapse n).flag f = s.flag f := by simp [State.flag]
@[simp] theorem State.reg_elapseTo (s : State) (n a : Nat) : (s.elapseTo n).reg a = s.reg a := by simp [State.reg]
@[simp] theorem State.get_elapseTo (s : State) (n : Nat) (f : Field) : (s.elapseTo n).get f = s.get f := by simp [State.get]

theorem State.reg_setReg (s : State) (a : Nat) (v : Word) (b : Nat) : (s.setReg a v).reg b = if b = a then v else s.reg b :=
  Table.get_put regReset s.regs a b v

@[simp] theorem State.reg_setReg_same (s : State) (a : Nat) (v : Word) : (s.setReg a v).reg a = v := by simp [State.reg_setReg]
theorem State.reg_setReg_other (s : State) {a b : Nat} (v : Word) (h : b ≠ a) : (s.setReg a v).reg b = s.reg b := by
  simp [State.reg_setReg, h]

theorem State.reg_set (s : State) (f : Field) (v b : Nat) :
    (s.set f v).reg b = if b = f.reg then withBits (s.reg f.reg) f.lo f.width v else s.reg b := State.reg_setReg s _ _ _
@[simp] theorem State.reg_set_same (s : State) (f : Field) (v : Nat) :
    (s.set f v).reg f.reg = withBits (s.reg f.reg) f.lo f.width v := by simp [State.reg_set]
theorem State.reg_set_other (s : State) (f : Field) (v : Nat) {b : Nat} (h : b ≠ f.reg) : (s.set f v).reg b = s.reg b := by
  simp [State.reg_set, h]

/-- Two fields that share no bit. -/
def Field.apart (f g : Field) : Prop := f.reg ≠ g.reg ∨ f.lo + f.width ≤ g.lo ∨ g.lo + g.width ≤ f.lo

/-- A field reads the low bits of what was last written to it. -/
theorem State.get_set_same (s : State) (f : Field) (v : Nat) (h : f.lo + f.width ≤ 48) : (s.set f v).get f = v % 2 ^ f.width := by
  simp [State.get, bitsOf_withBits_same _ _ _ _ h]

/-- A write of a field leaves the fields apart from it. -/
theorem State.get_set_apart (s : State) {f g : Field} (v : Nat) (h : f.apart g) : (s.set f v).get g = s.get g := by
  unfold State.get
  rw [State.reg_set]
  by_cases hr : g.reg = f.reg
  · rw [if_pos hr, hr, bitsOf_withBits_other]
    rcases h with h | h | h
    · exact absurd hr.symm h
    · exact Or.inr h
    · exact Or.inl h
  · rw [if_neg hr]

theorem State.get_lt (s : State) (f : Field) : s.get f < 2 ^ f.width := bitsOf_lt _ _ _

theorem State.flag_eq (s : State) (f : Field) : s.flag f = decide (s.get f = 1) := rfl

theorem State.get_setReg_other (s : State) {a : Nat} (v : Word) {g : Field} (h : g.reg ≠ a) : (s.setReg a v).get g = s.get g := by
  simp [State.get, State.reg_setReg, h]

/-! ### Late effects -/

@[simp] theorem State.nextTck_eq (s : State) : s.nextTck = s.elapse 1 := rfl

/-- With no late effect the state has none due. -/
theorem settled_of_none {s : State} (h : s.late = []) : s.settled = s := by
  unfold State.settled State.settleWith; rw [h]; exact congrArg (fun l => { s with late := l }) h.symm

/-- What a late effect is made of: the effects but for the list itself. -/
theorem later_only (s : State) (n : Nat) (e : LateEffect) : s.later n e = { s with late := State.insertLate ⟨s.now + n, e⟩ s.late } := rfl

/-! ### Outcomes of commands -/

@[simp] theorem act_live {s : State} (h : Live s) (f : State → State) : act s f = .next ((f s).keepQueue s) := by
  simp [act, h.1, h.2]

/-- A command of a live device answers what its effect gives. -/
theorem act_eq {s t : State} {f : State → State} (hl : Live s) (e : f s = t) (q : t.pending = s.pending) : act s f = .next t := by
  rw [act_live hl, e, State.keepQueue_eq q]

/-- A command of a live device answers a state with every property that its effect gives. -/
theorem act_answers {s : State} {f : State → State} {P : State → Prop} (hl : Live s) (q : (f s).pending = s.pending) (h : P (f s)) :
    ∃ t, act s f = .next t ∧ P t := ⟨_, act_eq hl rfl q, h⟩

/-- A command that `act` runs answers a next state whatever it does. -/
theorem act_next (s : State) (f : State → State) : ∃ t, act s f = .next t := by
  unfold act; split <;> exact ⟨_, rfl⟩

theorem act_pending {s t : State} {f : State → State} (h : act s f = .next t) : t.pending = s.pending := by
  unfold act at h; split at h <;> cases h <;> rfl

/-- A command that reaches the part in every state answers its effect. -/
theorem actAlways_eq {s t : State} {f : State → State} (e : f s = t) (q : t.pending = s.pending) : actAlways s f = .next t := by
  unfold actAlways; rw [e, State.keepQueue_eq q]

/-- An event of a block that no hive reset holds acts. -/
theorem actIn_eq {page : Nat} {s t : State} {f : State → State} (hl : Live s) (hr : s.heldInReset page = false) (e : f s = t)
    (q : t.pending = s.pending) : actIn page s f = .next t := act_eq hl (by simp [hr, e]) q

/-- An access of a live device answers what its effect gives on the next tck. -/
theorem access_eq {s t : State} {f : State → State} (hl : Live s) (e : f s.nextTck = t) (q : t.pending = s.pending) : access s f = .next t :=
  act_eq hl e q

theorem access_answers {s : State} {f : State → State} {P : State → Prop} (hl : Live s) (q : (f s.nextTck).pending = s.pending)
    (h : P (f s.nextTck)) : ∃ t, access s f = .next t ∧ P t := act_answers hl q h

theorem access_pending {s t : State} {f : State → State} (h : access s f = .next t) : t.pending = s.pending := act_pending h

theorem act_stopped {s : State} (h : s.clock.coreStopped = true ∨ s.clock.inReset = true) (f : State → State) : act s f = .next s := by
  unfold act; rcases h with h | h <;> simp [h]

theorem access_stopped {s : State} (h : s.clock.coreStopped = true ∨ s.clock.inReset = true) (f : State → State) : access s f = .next s :=
  act_stopped h _

end Sys2Proof.Machine
end

