-- ==== Sys2Proof/Laws/Ops.lean ====
section
/-! SUPPORT. The laws of the shared operations: everything that a write of a field, an operation of a page, the passing of time, and a packet
taken or sent can do. -/
namespace Sys2Proof.Machine

/-! ### Writes by a path (R71 to R80) -/

/-- A register of the level its page is at. -/
theorem wrongLevel_basic {reg : Nat} {s : State} (he : s.expert (reg / 256) = false) (hi : reg % 256 < 0x40) : s.wrongLevel reg = false := by
  unfold State.wrongLevel; simp [he]; omega

/-- No LOCK stands against the path. -/
theorem lockStops_open {p : Path} {reg : Nat} {s : State} (h : s.locked p (reg / 256) = false) : s.lockStops p reg = false := by
  unfold State.lockStops; simp [h]

/-- All that the write of a field can do: nothing, a flag of the page, or its effect, with LOCKED_WRITE when LOCK holds other fields (R72). -/
theorem fieldWrite_cases (p : Path) (reg : Nat) (rwl : Bool) (f : State → State) (s : State) :
    s.pathOpen p (reg / 256) = false ∧ fieldWrite p reg rwl f s = s ∨
    s.pathOpen p (reg / 256) = true ∧
      (s.wrongLevel reg = true ∧ fieldWrite p reg rwl f s = s.raiseBit (reg / 256) 47 ∨
       rwl = true ∧ s.lockStops p reg = true ∧ fieldWrite p reg rwl f s = s.raiseBit (reg / 256) 46 ∨
       rwl = false ∧ s.lockStops p reg = true ∧ fieldWrite p reg rwl f s = f (s.raiseBit (reg / 256) 46) ∨
       s.lockStops p reg = false ∧ fieldWrite p reg rwl f s = f s) := by
  unfold fieldWrite
  cases s.pathOpen p (reg / 256) <;> cases s.wrongLevel reg <;> cases s.lockStops p reg <;> cases rwl <;> simp

/-- A basic register's field, written by a path that may, takes its effect. -/
theorem fieldWrite_basic {p : Path} {reg : Nat} {rwl : Bool} {f : State → State} {s : State} (h : MayWriteBasic p (reg / 256) s)
    (hi : reg % 256 < 0x40) : fieldWrite p reg rwl f s = f s := by
  unfold fieldWrite; simp [h.1, wrongLevel_basic h.2.2 hi, lockStops_open h.2.1]

/-- The setting of a page's present level, written by a path that may, takes its effect. -/
theorem levelWrite_basic {p : Path} {page : Nat} {f : State → State} {s : State} (h : MayWriteBasic p page s) : levelWrite p page f s = f s := by
  obtain ⟨ho, hl, he⟩ := h
  unfold levelWrite
  rw [ho, hl, he, if_neg (by decide), if_neg (by decide)]

/-- All that such a write can do. -/
theorem levelWrite_cases (p : Path) (page : Nat) (f : State → State) (s : State) :
    levelWrite p page f s = s ∨ levelWrite p page f s = s.raiseBit page 46 ∨ levelWrite p page f s = f s := by
  unfold levelWrite
  split
  · exact .inl rfl
  · split
    · exact .inr (.inl rfl)
    · exact .inr (.inr rfl)

/-! ### A page's operation (R70, R71) -/

theorem opRefused_eq (s : State) (page : Nat) : opRefused s page = s.raiseBit page 43 := rfl

/-- The start, the progress and the end of an operation write STATUS and PROGRESS of its page and nothing else. -/
theorem opFlags_regs (s : State) (page : Nat) (a b : Bool) : opFlags s page a b = { s with regs := (opFlags s page a b).regs } := rfl
theorem opAt_regs (s : State) (page d n : Nat) : opAt s page d n = { s with regs := (opAt s page d n).regs } := rfl
theorem opStart_regs (s : State) (page c : Nat) : opStart s page c = { s with regs := (opStart s page c).regs } := rfl
theorem opDone_regs (s : State) (page q : Nat) : opDone s page q = { s with regs := (opDone s page q).regs } := rfl
theorem opStop_regs (s : State) (page : Nat) : opStop s page = { s with regs := (opStop s page).regs } := rfl

theorem State.setReg_reg_other (s : State) {a b : Nat} (v : Word) (h : b ≠ a) : (s.setReg a v).reg b = s.reg b := by
  unfold State.reg State.setReg
  exact Table.get_put_other _ _ _ h

theorem opFlags_reg (s : State) (page : Nat) (a b : Bool) {r : Nat} (h : r ≠ page * 256 + 3) : (opFlags s page a b).reg r = s.reg r := by
  unfold opFlags State.set
  rw [State.setReg_reg_other _ _ h, State.setReg_reg_other _ _ h]

theorem opAt_reg (s : State) (page d n : Nat) {r : Nat} (h : r ≠ page * 256 + 5) : (opAt s page d n).reg r = s.reg r := by
  unfold opAt State.set
  rw [State.setReg_reg_other _ _ h, State.setReg_reg_other _ _ h]

theorem opStart_reg (s : State) (page c : Nat) {r : Nat} (h3 : r ≠ page * 256 + 3) (h5 : r ≠ page * 256 + 5) : (opStart s page c).reg r = s.reg r := by
  unfold opStart
  rw [opAt_reg _ _ _ _ h5, State.set, State.setReg_reg_other _ _ h5, opFlags_reg _ _ _ _ h3]

theorem opDone_reg (s : State) (page q : Nat) {r : Nat} (h3 : r ≠ page * 256 + 3) (h5 : r ≠ page * 256 + 5) : (opDone s page q).reg r = s.reg r := by
  unfold opDone State.set
  rw [State.setReg_reg_other _ _ h5, State.setReg_reg_other _ _ h5, opFlags_reg _ _ _ _ h3]

theorem opStop_reg (s : State) (page : Nat) {r : Nat} (h : r ≠ page * 256 + 3) : (opStop s page).reg r = s.reg r := opFlags_reg s page false true h

/-! ### Time (R35) -/

/-- All that the passing of time changes: local time, hive time, and a pending second that is taken. -/
theorem elapse_only (s : State) (n : Nat) : s.elapse n = { s with
    now := s.now + n, tick := (s.elapse n).tick, seconds := (s.elapse n).seconds, secondsPending := (s.elapse n).secondsPending } := by
  unfold State.elapse; split <;> rfl

theorem elapse_tick (s : State) (n : Nat) : (s.elapse n).tick = (s.tick + n) % ticksPerSecond ∨ (s.elapse n).tick = s.tick + n := by
  unfold State.elapse; split
  · exact .inr rfl
  · exact .inl rfl

/-- Hive time stays a tick of a second, whatever it was, once a second has ended. -/
theorem elapse_tick_lt (s : State) (n : Nat) : (s.elapse n).tick < ticksPerSecond := by
  unfold State.elapse; split
  · assumption
  · exact Nat.mod_lt _ (by decide)

theorem elapse_seconds_lt (s : State) (n : Nat) (h : s.seconds < 2 ^ 32) : (s.elapse n).seconds < 2 ^ 32 := by
  unfold State.elapse; split
  · exact h
  · exact Nat.mod_lt _ (by decide)

theorem elapseTo_tick_lt (s : State) (t : Nat) (h : s.tick < ticksPerSecond) : (s.elapseTo t).tick < ticksPerSecond := by
  unfold State.elapseTo; split
  · exact elapse_tick_lt _ _
  · exact h

theorem elapseTo_seconds_lt (s : State) (t : Nat) (h : s.seconds < 2 ^ 32) : (s.elapseTo t).seconds < 2 ^ 32 := by
  unfold State.elapseTo; split
  · exact elapse_seconds_lt _ _ h
  · exact h

/-- Within a second, time moves both clocks alike. -/
theorem elapse_within {s : State} {n : Nat} (h : s.tick + n < ticksPerSecond) : s.elapse n = { s with now := s.now + n, tick := s.tick + n } := by
  unfold State.elapse; rw [if_pos h]

/-- To the end of the second: tick 0 of the next one, or of the one written. -/
theorem elapse_toSecond {s : State} {n : Nat} (h : s.tick + n = ticksPerSecond) : s.elapse n = { s with
    now := s.now + n, tick := 0, seconds := s.nextSecond % 2 ^ 32, secondsPending := none } := by
  unfold State.elapse; rw [if_neg (by omega), h]; rfl

/-! ### Packets (R340, R347, R376) -/

theorem findPacket_front {plane type : Nat} {k : Packet} {r : List Packet} (hp : pktPlane k = plane) (ht : pktType k = type) :
    findPacket plane type (k :: r) = some k := by
  unfold findPacket; rw [if_pos ⟨hp, ht⟩]

theorem dropPacket_front {plane type : Nat} {k : Packet} {r : List Packet} (hp : pktPlane k = plane) (ht : pktType k = type) :
    dropPacket plane type (k :: r) = r := by
  unfold dropPacket; rw [if_pos ⟨hp, ht⟩]

/-- The packet that has arrived acts, on the state without it. -/
theorem takePacket_arrived {plane type : Nat} {k : Packet} {r : List Packet} {s : State} (h : Arrived plane type k r s) (f : Packet → State → State) :
    takePacket plane type f s = f k (s.withInbox r) := by
  obtain ⟨hi, hp, ht⟩ := h
  unfold takePacket
  rw [hi, findPacket_front hp ht]
  dsimp only
  rw [dropPacket_front hp ht]
  rfl

/-- With nothing of its plane and type delivered, nothing happens. -/
theorem takePacket_none {plane type : Nat} {s : State} (h : findPacket plane type s.ring.inbox = none) (f : Packet → State → State) :
    takePacket plane type f s = s := by
  unfold takePacket; rw [h]

/-- A node that may send hands the packet to its transmitter. -/
theorem ownSend_may {k : Packet} {s : State} (h : MaySend (pktDest k) s) : ownSend k s = s.sent k := by
  obtain ⟨ha, hw, hq⟩ := h
  unfold ownSend
  rw [if_neg (by rintro ⟨x, -⟩; exact ha x), if_neg (by rintro ⟨x, y⟩; exact hq x y), if_neg (by rintro ⟨x, -⟩; exact hw x)]
  rfl

/-- All that sending can do: nothing, or the packet is taken by the queen it is addressed to, or joins those that wait to be sent. -/
theorem ownSend_cases (k : Packet) (s : State) :
    ownSend k s = s ∨
    (s.isQueen = true ∧ pktDest k = s.addr ∧
      ownSend k s = if pktPlane k = planeManagement then queenTakes ((deliveringPort s).getD 1) k s else s.withInbox (s.ring.inbox ++ [k])) ∨
    ownSend k s = s.sent k := by
  unfold ownSend
  split
  · exact .inl rfl
  · split
    · rename_i h
      exact .inr (.inl ⟨h.1, h.2, rfl⟩)
    · split
      · exact .inl rfl
      · exact .inr (.inr rfl)

end Sys2Proof.Machine
end

