-- ==== Sys2Proof/Laws/Arbiter.lean ====
section
/-! SUPPORT. What a write through the arbiter does: which of its tests stops it, and what a plain register holds after it. -/
namespace Sys2Proof.Machine

/-- A register that the arbiter gives to its block: it exists, its page is not reserved, it is neither PAGE_SEL nor a window register. -/
def blockReg (a : Nat) : Bool :=
  !reservedPage (a / 256) && !(a % 256 == 0xFE) && !(isWindow a) && !(a % 256 == 0xE0) && (regFields a).isSome

/-- A write of a register of a block goes through the tests of level and LOCK alone. -/
theorem serveWrite_block {a : Nat} (h : blockReg a = true) {p : Path} {s : State} (v : Word) (ho : s.pathOpen p (a / 256) = true) :
    serveWrite p a v s = regWrite p a (blockWrite a) v s := by
  simp only [blockReg, Bool.and_eq_true, Bool.not_eq_true', beq_eq_false_iff_ne, ne_eq] at h
  obtain ⟨⟨⟨⟨h1, h2⟩, h3⟩, h4⟩, h5⟩ := h
  have h6 : (regFields a).isNone = false := by
    rw [Option.isSome_iff_exists] at h5
    obtain ⟨x, hx⟩ := h5
    simp [hx]
  unfold serveWrite
  simp [ho, h1, h2, h3, h4, h6]

/-- A path that does not reach the page changes nothing. -/
theorem serveWrite_closed {p : Path} {a : Nat} {s : State} (v : Word) (h : s.pathOpen p (a / 256) = false) : serveWrite p a v s = s := by
  simp [serveWrite, h]

/-- A write of a register of the level its page is at acts where no LOCK stands. -/
theorem regWrite_open {p : Path} {a : Nat} {f : Word → State → State} {v : Word} {s : State} (ho : s.pathOpen p (a / 256) = true)
    (hw : s.wrongLevel a = false) (hl : s.lockStops p a = false) : regWrite p a f v s = f v s := by
  unfold regWrite; simp [ho, hw, hl]

/-- On a locked path a write of a register of RWL fields alone only raises LOCKED_WRITE (R72). -/
theorem regWrite_locked {p : Path} {a : Nat} {f : Word → State → State} {v : Word} {s : State} (ho : s.pathOpen p (a / 256) = true)
    (hw : s.wrongLevel a = false) (hl : s.lockStops p a = true) (hf : State.freeMask a = 0) : regWrite p a f v s = s.raiseBit (a / 256) 46 := by
  unfold regWrite; simp [ho, hw, hl, hf]

/-- A write of a basic register that no LOCK stops (R76). -/
theorem serveWrite_basic {a : Nat} (h : blockReg a = true) (hi : a % 256 < 0x40) {p : Path} {s : State}
    (v : Word) (hm : MayWriteBasic p (a / 256) s) : serveWrite p a v s = blockWrite a v s := by
  rw [serveWrite_block h v hm.1, regWrite_open hm.1 (wrongLevel_basic hm.2.2 hi) (lockStops_open hm.2.1)]

/-- A write of an expert register (R77). -/
theorem serveWrite_expert {a : Nat} (h : blockReg a = true) (hi : 0x40 ≤ a % 256) {p : Path} {s : State}
    (v : Word) (ho : s.pathOpen p (a / 256) = true) (hx : s.expert (a / 256) = true) (hl : State.lockMask a = 0) :
    serveWrite p a v s = blockWrite a v s := by
  rw [serveWrite_block h v ho, regWrite_open ho (by unfold State.wrongLevel; simp [hx]; omega) (by unfold State.lockStops; simp [hl])]

/-- A write at the wrong level is ignored and flagged (R76, R77). -/
theorem regWrite_level {p : Path} {a : Nat} {f : Word → State → State} {v : Word} {s : State} (ho : s.pathOpen p (a / 256) = true)
    (h : s.wrongLevel a = true) : regWrite p a f v s = s.raiseBit (a / 256) 47 := by
  unfold regWrite; simp [ho, h]

/-- The writable fields of a register hold what was written; the others keep their values. -/
theorem get_putWord_in (s : State) (v : Word) (f : Field) (h : ∀ i, i < f.width → (State.writeMask f.reg).getLsbD (f.lo + i) = true) :
    (s.putWord f.reg v).get f = bitsOf v f.lo f.width := by
  unfold State.get State.putWord
  rw [State.reg_setReg_same, bitsOf_merge_in _ _ _ _ _ h]

end Sys2Proof.Machine
end

