-- ==== Sys2Proof/Laws/Fault.lean ====
section
/-! SUPPORT. The laws of the fault log and the self-tests: what the operations that log, count and start a test can change. -/
namespace Sys2Proof.Machine

/-- Nothing but the register file and the fault log's own state has changed. -/
def OnlyFaultLog (s t : State) : Prop := t = { s with regs := t.regs, fault := t.fault }

theorem OnlyFaultLog.refl (s : State) : OnlyFaultLog s s := rfl

theorem OnlyFaultLog.setReg {s t : State} (h : OnlyFaultLog s t) (a : Nat) (v : Word) : OnlyFaultLog s (t.setReg a v) := by
  unfold OnlyFaultLog at h ⊢
  rw [h]; rfl

theorem OnlyFaultLog.set {s t : State} (h : OnlyFaultLog s t) (f : Field) (v : Nat) : OnlyFaultLog s (t.set f v) := h.setReg _ _

theorem OnlyFaultLog.raise {s t : State} (h : OnlyFaultLog s t) (f : Field) : OnlyFaultLog s (t.raise f) := h.set f 1

theorem OnlyFaultLog.modFault {s t : State} (h : OnlyFaultLog s t) (f : FaultState) : OnlyFaultLog s { t with fault := f } := by
  unfold OnlyFaultLog at h ⊢
  rw [h]

theorem OnlyFaultLog.opStart {s t : State} (h : OnlyFaultLog s t) (page code : Nat) : OnlyFaultLog s (opStart t page code) := by
  unfold Machine.opStart opAt opFlags
  exact ((((h.set _ _).set _ _).set _ _).set _ _).set _ _

theorem OnlyFaultLog.faultPush {s t : State} (h : OnlyFaultLog s t) (k c m o : Nat) : OnlyFaultLog s (faultPush t k c m o) := by
  unfold Machine.faultPush faultSync
  dsimp only
  split
  · exact ((((h.modFault _).raise _).raise _).set _ _).set _ _
  · exact (((h.modFault _).raise _).set _ _).set _ _

theorem OnlyFaultLog.faultCount {s t : State} (h : OnlyFaultLog s t) (k c : Nat) : OnlyFaultLog s (faultCount t k c) := h.modFault _

theorem OnlyFaultLog.busySync {s t : State} (h : OnlyFaultLog s t) : OnlyFaultLog s (busySync t) := h.set _ _

/-- All that the start of a test can change: the register file and the fault log's own state. -/
theorem OnlyFaultLog.startTest {s t : State} (h : OnlyFaultLog s t) (k o : Nat) : OnlyFaultLog s (startTest t k o) := by
  unfold Machine.startTest
  split
  · exact h.modFault _
  · split
    · exact ((h.faultPush _ _ _ _).faultCount _ _).raise _
    · dsimp only
      split
      · unfold tileTestProgress
        split
        · exact (((h.faultPush _ _ _ _).modFault _).busySync).opStart _ _
        · exact ((h.faultPush _ _ _ _).modFault _).busySync
      · exact ((h.faultPush _ _ _ _).modFault _).busySync

theorem startTest_only (s : State) (k o : Nat) : OnlyFaultLog s (startTest s k o) := (OnlyFaultLog.refl s).startTest k o
theorem faultLasting_only (s : State) (k m o : Nat) : OnlyFaultLog s (faultLasting s k m o) :=
  (((OnlyFaultLog.refl s).faultPush _ _ _ _).faultCount _ _).raise _
theorem classify_only (s : State) (k o c m : Nat) : OnlyFaultLog s (classify s k o c m) := by
  unfold classify
  dsimp only
  split
  · exact ((((OnlyFaultLog.refl s).modFault _).faultCount _ _)).raise _
  · split
    · exact ((((OnlyFaultLog.refl s).modFault _).faultCount _ _)).raise _
    · exact ((((OnlyFaultLog.refl s).modFault _).faultCount _ _)).raise _

theorem startTest_fabric (s : State) (k o : Nat) : (startTest s k o).fabric = s.fabric := by
  have h := startTest_only s k o
  unfold OnlyFaultLog at h
  rw [h]
theorem startTest_now (s : State) (k o : Nat) : (startTest s k o).now = s.now := by
  have h := startTest_only s k o
  unfold OnlyFaultLog at h
  rw [h]

end Sys2Proof.Machine
end

