-- ==== Sys2Proof/Laws/Memory.lean ====
section
/-! SUPPORT. The laws of the memory layer and of the external memories: what each operation writes, and that it keeps the canonical form. -/
namespace Sys2Proof.Machine

/-! ### Operations that write no word -/

@[simp] theorem noteWrite_mem (s : State) (a : Nat) : (noteWrite s a).fabric.mem = s.fabric.mem := by
  unfold noteWrite; dsimp only; split <;> rfl

@[simp] theorem noteWrite_regs (s : State) (a : Nat) : (noteWrite s a).regs = s.regs := by
  unfold noteWrite; dsimp only; split <;> rfl

@[simp] theorem holdGroups_fabric (gs : List Nat) (s : State) : (holdGroups gs s).fabric = s.fabric := rfl

/-- All that a collision changes: what stage 1 holds, and its flag. -/
@[simp] theorem collide_fabric (s : State) (t : Nat) : (collide s t).fabric = s.fabric := rfl

/-! ### One word -/

/-- A word that the tile takes: it stands at its address, and nothing else of the layer changes. -/
@[simp] theorem memTake_mem (s : State) (a : Nat) (v : Word) : (memTake s a v).fabric.mem = Table.put (fun _ => 0) s.fabric.mem a v := by
  unfold memTake; dsimp only; split <;> simp

theorem memTake_memRaw (s : State) (a : Nat) (v : Word) (b : Nat) : (memTake s a v).memRaw b = if b = a then v else s.memRaw b := by
  simp [State.memRaw, Table.get_put]

/-- All that a write from a path does to the layer: it takes the word, or nothing. -/
theorem memWrite_mem (s : State) (a : Nat) (v : Word) :
    (memWrite s a v).fabric.mem = s.fabric.mem ∨ (memWrite s a v).fabric.mem = Table.put (fun _ => 0) s.fabric.mem a v := by
  unfold memWrite
  dsimp only
  repeat' split
  all_goals simp

theorem memWrite_other (s : State) (a : Nat) (v : Word) {b : Nat} (h : b ≠ a) : (memWrite s a v).memRaw b = s.memRaw b := by
  rcases memWrite_mem s a v with e | e <;> simp [State.memRaw, e, Table.get_put, h]

/-- A write to a tile that is GOOD or FAILED, and not reserved, takes the word. -/
theorem memWrite_taken {s : State} {a : Nat} (v : Word) (hs : staged s (a / 1024) = false) (hq : s.flag Fld.HIVE_STATUS_QUEEN = false ∨ a / 1024 < 4032)
    (ht : s.tileState (a / 1024) = tileGood ∨ s.tileState (a / 1024) = tileFailed) : memWrite s a v = memTake s a v := by
  have h2 : ¬ (s.flag Fld.HIVE_STATUS_QUEEN = true ∧ 4032 ≤ a / 1024) := by
    rintro ⟨x, y⟩
    rcases hq with h | h
    · rw [h] at x; exact absurd x (by decide)
    · omega
  have h3 : ¬ (s.tileState (a / 1024) = tileTesting ∨ s.tileState (a / 1024) = tileRetired) := by
    rcases ht with h | h <;> rw [h] <;> decide
  unfold memWrite
  dsimp only
  rw [hs, if_neg (by decide), if_neg h2, if_neg h3]

theorem memWriteRun_outside (s : State) (a : Nat) (ws : List Word) {b : Nat} (h : b < a ∨ a + ws.length ≤ b) :
    (memWriteRun s a ws).memRaw b = s.memRaw b := by
  induction ws generalizing s a with
  | nil => rfl
  | cons v r ih =>
    simp only [List.length_cons] at h
    rw [memWriteRun, ih _ _ (by omega), memWrite_other _ _ _ (by omega)]

/-- A zeroed tile: its words are 0 and every other word reads as before. -/
theorem zeroTile_memRaw (s : State) (t a : Nat) : (s.zeroTile t).memRaw a = if a / 1024 = t then 0 else s.memRaw a := by
  have := Table.get_keys (fun _ => (0 : Word)) (fun k => !(k / 1024 == t)) s.fabric.mem a
  rw [State.memRaw, State.zeroTile, State.memRaw]
  dsimp only at this ⊢
  rw [this]
  by_cases h : a / 1024 = t <;> simp [h]

theorem testTile_mem (s : State) (t : Nat) : (testTile s t).fabric.mem = s.fabric.mem := by
  unfold testTile
  dsimp only
  split
  · show (startTest s kindMemTile (objTile t)).fabric.mem = _; rw [startTest_fabric]
  · rw [startTest_fabric]

theorem tileFail_mem (s : State) (t o : Nat) (c : BitVec 32) : (tileFail s t o c).fabric.mem = s.fabric.mem := testTile_mem _ t

/-- All that an opening does to the layer: nothing. -/
theorem openTile_mem (s : State) (t o : Nat) (f : Option (BitVec 32)) : (openTile s t o f).2.fabric.mem = s.fabric.mem := by
  unfold openTile
  split
  · cases f
    · rfl
    · exact tileFail_mem s t o _
  · rfl

/-- An opening that finds the tile GOOD and its checksum right passes and changes nothing. -/
theorem openTile_good {s : State} {t : Nat} (o : Nat) (h : s.tileState t = tileGood) : openTile s t o none = (true, s) := by
  unfold openTile; rw [if_pos h]

/-- An opening of a tile that is not GOOD is refused and changes nothing. -/
theorem openTile_refused {s : State} {t : Nat} (o : Nat) (f : Option (BitVec 32)) (h : s.tileState t ≠ tileGood) : openTile s t o f = (false, s) := by
  unfold openTile; rw [if_neg h]

/-! ### The canonical form -/

theorem reset_memWf : Memory.wf State.reset.fabric.mem = true := by decide
theorem reset_extWf : Memory.extWf State.reset.xmem.bytes = true := by decide

theorem memTake_wf (s : State) (a : Nat) (v : Word) (h : Memory.wf s.fabric.mem = true) : Memory.wf (memTake s a v).fabric.mem = true := by
  rw [memTake_mem]; exact Table.wf_put _ _ _ _ h

theorem memWrite_wf (s : State) (a : Nat) (v : Word) (h : Memory.wf s.fabric.mem = true) : Memory.wf (memWrite s a v).fabric.mem = true := by
  rcases memWrite_mem s a v with e | e <;> rw [e]
  · exact h
  · exact Table.wf_put _ _ _ _ h

theorem memWriteRun_wf (s : State) (a : Nat) (ws : List Word) (h : Memory.wf s.fabric.mem = true) :
    Memory.wf (memWriteRun s a ws).fabric.mem = true := by
  induction ws generalizing s a with
  | nil => exact h
  | cons v r ih => exact ih _ _ (memWrite_wf s a v h)

theorem zeroTile_wf (s : State) (t : Nat) (h : Memory.wf s.fabric.mem = true) : Memory.wf (s.zeroTile t).fabric.mem = true :=
  Table.wf_filter _ _ _ h

theorem openTile_wf (s : State) (t o : Nat) (f : Option (BitVec 32)) (h : Memory.wf s.fabric.mem = true) :
    Memory.wf (openTile s t o f).2.fabric.mem = true := by rw [openTile_mem]; exact h

theorem putExtRaw_extWf (s : State) (a : Nat) (b : Option Byte) (h : Memory.extWf s.xmem.bytes = true) :
    Memory.extWf (s.putExtRaw a b).xmem.bytes = true := Table.wf_put _ _ _ _ h

/-- A byte of the external memories written: it reads as written, and every other byte as before. -/
theorem extRaw_putExtRaw (s : State) (a : Nat) (b : Option Byte) (c : Nat) : (s.putExtRaw a b).extRaw c = if c = a then b else s.extRaw c := by
  unfold State.extRaw State.putExtRaw
  dsimp only
  rw [Table.get_put]
  by_cases h : c = a
  · simp only [h, if_true]
    cases b with
    | none => rfl
    | some x => simp
  · simp only [h, if_false]

/-! ### Registers -/

theorem setReg_regsWf (s : State) (a : Nat) (v : Word) (h : Table.wf regReset s.regs = true) : Table.wf regReset (s.setReg a v).regs = true :=
  Table.wf_put _ _ _ _ h

theorem reset_regsWf : Table.wf regReset State.reset.regs = true := by decide

end Sys2Proof.Machine
end

