-- ==== Sys2Proof/Machine/Pins.lean ====
section
/-! DEFINITION. What the balls show: the state of every drive line, lamp string and protocol ball, computed from the state, and of every ball
with power absent (R36, R46, R48 to R51, R54, R61, R99, R103, R128, R159, R166, R169, R170, R187, R230, R231, R333, R414). No command reads it. -/
namespace Sys2Proof.Machine

/-- How a drive line is driven (R48). -/
inductive LineDrive where
  | highZ
  /-- A C-line sinks to PGNDg. -/
  | sink
  /-- An S-line sources `code` × 0.125 mA from VLEDg (R159). -/
  | source (code : Nat)
  /-- The pre-charge level in mV, and its PC_DRIVE code (R166). -/
  | preCharge (mv drive : Nat)
  /-- An S-line is pulled to PGNDg through 5 kΩ (R170). -/
  | pullDown
  /-- A level of the LCD bias generator in mV (R181). -/
  | level (mv : Nat)
  /-- A C-line at or above D is held at V0 through the weak-low driver of 50 kΩ to 150 kΩ (R231). -/
  | heldLow
  /-- An S-line senses: it sources `pull` × 25 µA, clamped at a level in mV (R230). -/
  | sense (pull clampMv : Nat)
  /-- An S-line carries the 1 mA test current, limited at a level in mV (R255). -/
  | testCurrent (limitMv : Nat)
  /-- A level of a PROBE field in mV, through a resistance in kΩ (R553). -/
  | weak (mv kohm : Nat)
  deriving DecidableEq, Repr

/-- A line that its block drives in no way: the core clock has stopped, a reset or HOLD is on, the line is disabled, the comb does not run, or
the group's gate is off (R36, R51, R61, R126, R414). -/
def lineReleased (s : State) (g l : Nat) : Bool :=
  s.clock.coreStopped || s.clock.inReset || s.heldInReset (8 + g) || s.inHold || driveDisabled s (48 * g + l) ||
    decide (s.runState = combStopped ∨ s.runState = combWaiting) || !gateIsOn s (gateGroup g)

/-- The type of a group's field as it acts in cell `w`: IDLE while the comb aligns and after a frame's last cell, and IDLE in STANDBY but for
KEY (R99, R128). -/
def actingType (s : State) (w : Word) (g : Nat) : Nat :=
  let t := cellType w g
  if s.runState ≠ combRunning ∨ s.comb.frameEnded = true ∨ s.inStandby = true ∧ t ≠ slotKey then slotIdle else t

/-! ### PROBE, KEY and HEALTH fields (R54, R99, R230, R231, R255, R553) -/

/-- V_pc in mV at a supply VLEDg of `vled` mV (R166). -/
def prechargeMv (s : State) (g vled : Nat) : Nat := min (100 * s.inForce (Fld.GRP_X_DRIVE_PC_LEVEL g)) (vled - 300)

/-- The weak-high level of a PROBE field of group `g` in mV (R553). -/
def probeMv (s : State) (g vled : Nat) : Nat := if s.isLcd g then vkMv s else max 500 (prechargeMv s g vled)

/-- How the PROBE field of group `h` in cell `w` drives line `x`, as its pointer or as a neighbour of it (R54, R553). -/
def probedBy (s : State) (vled : Nat → Nat) (w : Word) (x h : Nat) : Option LineDrive :=
  let pol := probePolarity s w h
  let level := fun high : Bool => if high then probeMv s h (vled h) else 0
  if actingType s w h ≠ slotProbe ∨ s.grpState h ≠ grpOn then none
  else if x = 48 * h + (s.probe h).line then some (.weak (level !pol) 10)
  else if x ∈ (probePairs s w h).map (·.2) then some (.weak (level pol) 50)
  else none

/-- A line that some PROBE field drives (R54): a line of another group, or one out of use, only as a neighbour. -/
def probed (s : State) (vled : Nat → Nat) (w : Word) (x : Nat) : Option LineDrive := (List.range 8).findSome? (probedBy s vled w x)

/-- A line in a KEY or HEALTH field: the sinking common, sensing S-lines, the line under test, and `rest` for the others (R99, R230, R255). -/
def senseLine (s : State) (w : Word) (g l t : Nat) (rest : LineDrive) : LineDrive :=
  let n := cellCommon w
  if l < 16 then (if l = n then .sink else rest)
  else if t = slotHealth ∧ chosenOf s g = some (crosspoint g n l) then .testCurrent (if s.isLcd g then vkMv s else 2100)
  else if s.isKey (crosspoint g n l) then .sense (s.inForce (Fld.KEY_SENSE_PULL g)) (clampMv s g)
  else rest

/-! ### Lines of LED and LCD groups -/

/-- A line of an LED group (R99, R103, R159, R166, R169, R170). -/
def ledLine (s : State) (vled g l : Nat) : LineDrive :=
  let w := drivingCell s
  let t := actingType s w g
  if s.grpState g = grpStopping ∧ (s.grp g).phase = .discharge then (if 16 ≤ l then .pullDown else .highZ)
  else if t = slotLed && ledLit s g then
    if l < 16 then (if l = cellCommon w then .sink else .highZ)
    else if bitAt (encodedWord s g (cellCommon w) (cellPlane w)) l then .source (s.get (Fld.GRP_STATUS_DAC_NOW g))
    else .highZ
  else if t = slotPrecharge && ledLit s g then
    if l < 16 then .highZ else .preCharge (prechargeMv s g vled) (s.inForce (Fld.GRP_X_DRIVE_PC_DRIVE g))
  else if (t = slotKey || t = slotHealth) && decide (s.grpState g = grpOn) then senseLine s w g l t .highZ
  else .highZ

/-- The level at which an LCD line stands now: its own, or that of its repayment in the first tck of the cell (R181, R195). -/
def lcdLevel (s : State) (w : Word) (g l : Nat) : Nat :=
  match lineHold s g w (cellLen s s.activeBank w) l with
  | some (c, v) => if drivenFor s < c then v else glassLevel s g w l
  | none => glassLevel s g w l

/-- A line of an LCD group outside PROBE fields: V0 unless its field acts (R99, R184, R187). -/
def lcdLine (s : State) (g l : Nat) : LineDrive :=
  let w := drivingCell s
  let t := actingType s w g
  let v0 : LineDrive := .level 0
  if !fieldActs s g then v0
  else if t = slotLcd then (if lcdActs s g && decide (l ∈ glassLines s g) then .level (lcdLevel s w g l) else v0)
  else if t = slotKey || t = slotHealth then senseLine s w g l t (if s.duty g ≤ l ∧ l < 16 then .heldLow else v0)
  else v0

/-- The C-line that the running CLINE_CLAMP test of a group drives: weakly low for 1,024 tck, and then weakly high (R556). PRESUMED: through the
pointer's 10 kΩ of R553, as R556 names no resistance. -/
def clampDrive (s : State) (vled g l : Nat) : Option LineDrive :=
  s.fault.tests.findSome? fun t =>
    if t.kind = kindClamp ∧ t.object = objClamp g l then t.began.map fun b => .weak (if s.now < b + 1024 then 0 else probeMv s g vled) 10 else none

/-- The state of drive line DLg_l at supplies VLED of `vled` mV. A line that is not in use takes part in PROBE fields only (R50, R54). -/
def lineDrive (s : State) (vled : Nat → Nat) (g l : Nat) : LineDrive :=
  if lineReleased s g l then .highZ
  else
    match probed s vled (drivingCell s) (48 * g + l) with
    | some d => d
    | none =>
      match clampDrive s (vled g) g l with
      | some d => d
      | none => if !s.lineOn g l then .highZ else if s.isLcd g then lcdLine s g l else ledLine s (vled g) g l

/-! ### Lamp strings -/

/-- The current source and the open shunt switches of a lamp string: no current with every switch closed in reset and HOLD (R61); after a
stop of the core clock no current, and switches that are not defined (R36). -/
structure StringPins where
  /-- IREF code of the current; 0 for none. -/
  current : Nat
  /-- Bit k set: the switch of lamp k is open, so the lamp is lit (R203). -/
  open_ : Nat
  deriving DecidableEq, Repr

/-- A reset or HOLD keeps the strings off (R61, R417). -/
def stringsHeld (s : State) : Bool := s.clock.inReset || s.heldInReset 0x14 || s.inHold

def stringPins (s : State) (n : Nat) : StringPins :=
  if s.clock.coreStopped then ⟨0, bitsOf (Config.freeValue s.freeCount) 0 17⟩
  else if stringsHeld s then ⟨0, 0⟩
  else ⟨s.get (Fld.STRING_STAT_IREF_NOW n), patternNow s n &&& fitted s n⟩

/-! ### Protocol balls -/

/-- The core drives no function of the part: it is in reset or HOLD. -/
def quiet (s : State) : Bool := s.clock.inReset || s.inHold

/-- The bypass joins the incoming side of each port to the outgoing side of the other: in reset, in HOLD, with the core stopped, when CLOSED, and
in a close once its switch has moved (R36, R61, R352, R353). -/
def bypassJoined (s : State) : Bool :=
  s.clock.coreStopped || quiet s || decide (s.bypass = bypassClosed) || (decide (s.bypass = bypassClosing) && decide (s.ring.settleAt ≤ s.now + 7680))

/-- The transmitters drive their balls: connected at OPENING and isolated at CLOSED (R352). DEDUCED: where R333 has them isolated while the bypass
is not OPEN, the actions of R352 say when. -/
def transmittersDrive (s : State) : Bool := !s.clock.coreStopped && !quiet s && decide (s.bypass ≠ bypassClosed)

/-- The receivers terminate the line; else they listen through their taps (R333). -/
def receiversTerminate (s : State) : Bool := !s.clock.coreStopped && !quiet s && decide (s.bypass = bypassOpen)

/-- UIO_n is driven: the configuration in force makes it an output, and the start-up order has released the outputs (R61, R421, R449, R450, R454). -/
def uioDriven (s : State) (n : Nat) : Bool := !quiet s && s.fabric.uioOn && bitAt (s.decl s.activeCtx (7 + n / 48)) (n % 48)

/-- PANEL_RSTN is pulled low: no reset but power-on and RESET_N, which clear the pulse, ends it, and HOLD releases the ball (R61, R303). -/
def panelLow (s : State) : Bool := s.klock.panelUntil.isSome && !s.inHold

/-- The service port drives the boundary cells of its balls (R505). -/
def boundaryDriven (s : State) : Option (BitVec 324) := if s.service.enabled && s.service.driving then some s.service.latched else none

/-- The charge pump runs: from STARTING until DISCHARGE (R189, R191). -/
def pumpRuns (s : State) : Bool :=
  !s.clock.coreStopped && !quiet s && decide (biasState s ≠ biasOff) && !s.flag Fld.LCDB_STATUS_DISCHARGING

/-- What a ball shows. -/
inductive BallState where
  | highZ
  | input
  | line (d : LineDrive)
  /-- The tap of lamp k: its shunt switch is closed, or open (R203). -/
  | shunt (open_ : Bool)
  /-- The regulator of a string at an IREF code, 0 for off (R207, R210). -/
  | regulator (code : Nat)
  /-- A current in µA sunk at STRn_HDRM (R215). -/
  | sinks (microamps : Nat)
  /-- The function of the ball drives it; the levels it drives are not part of the state. -/
  | driven
  /-- Only the bypass path is at the ball (R61). -/
  | bypassOnly
  /-- A receiver listens through a tap, or terminates the line (R333). -/
  | tap
  | terminated
  /-- An open-drain ball pulled low. -/
  | low
  | weakUp
  | weakDown
  /-- A boundary cell drives the ball (R505). -/
  | boundary (high : Bool)
  | oscillator (running : Bool)
  /-- The charge pump runs; else VLCD_CAP is discharging. -/
  | pump (running : Bool)
  | sampled
  | supply
  deriving DecidableEq, Repr

/-- The boundary cells, three per ball, that belong to a ball (R505). -/
def boundaryIndex : Ball → Option Nat
  | .uio n => some n
  | .xspiClk => some 96
  | .xspiDqs => some 97
  | .xspiD k => some (98 + k)
  | .xspiCs k => some (106 + k)
  | _ => none

/-- The boundary register's drive of a ball, under EXTEST only: input, output and output enable lie in that order from TDO (R505). DESIGN CHOICE: an
output enable of 1 drives the ball. -/
def boundaryBall (s : State) (b : Ball) : Option BallState :=
  match boundaryDriven s, boundaryIndex b with
  | some v, some i => some (if v.getLsbD (3 * i + 2) then .boundary (v.getLsbD (3 * i + 1)) else .highZ)
  | _, _ => none

/-- The state of a ball by its own function (R61). DESIGN CHOICE: an xSPI port that is not in use keeps its weak pulls. -/
def functionBall (s : State) (vled : Nat → Nat) : Ball → BallState
  | .driveLine g l => .line (lineDrive s vled g l)
  | .stringTop _ => .supply
  | .stringTap n k => .shunt ((stringPins s n).open_.testBit k)
  | .stringSns n => .regulator (stringPins s n).current
  | .stringHdrm n => .sinks (if stringsHeld s then 0 else ihNow s n)
  | .ringTx _ _ => if transmittersDrive s then .driven else .bypassOnly
  | .ringRx _ _ => if receiversTerminate s then .terminated else .tap
  | .xtalIn | .xtalOut => .oscillator true
  | .scl | .sda => if quiet s || s.twi.lowSince.isNone then .highZ else .driven
  | .panelRstn => if panelLow s then .low else .highZ
  | .tdo => if s.service.enabled && !s.clock.inReset then .driven else .highZ
  | .xspiCs _ => if !quiet s && s.portReady then .driven else .weakUp
  | .xspiClk | .xspiDqs | .xspiD _ => if !quiet s && s.portReady then .driven else .weakDown
  | .vlcdCap => .pump (pumpRuns s)
  | .uio n => if uioDriven s n then .driven else .highZ
  | .vsupSense | .ntc _ => .sampled
  | .refin | .addr _ | .resetN | .serviceEn | .tck | .tms | .tdi | .mainsZc => .input
  | .pgnd _ | .vled _ | .vcore | .vaux | .vio | .viox | .vdrv | .vss => .supply

/-- What a ball shows under power. -/
def ballShows (s : State) (vled : Nat → Nat) (b : Ball) : BallState := (boundaryBall s b).getD (functionBall s vled b)

/-- What a ball shows with power absent (R61). -/
def ballUnpowered : Ball → BallState
  | .stringTap _ _ => .shunt true
  | .stringTop _ => .regulator 0
  | .ringTx _ _ | .ringRx _ _ => .bypassOnly
  | .refin | .addr _ | .resetN | .serviceEn | .tck | .tms | .tdi | .mainsZc => .input
  | .xtalIn | .xtalOut => .oscillator false
  | .vlcdCap => .pump false
  | .pgnd _ | .vled _ | .vcore | .vaux | .vio | .viox | .vdrv | .vss => .supply
  | _ => .highZ

end Sys2Proof.Machine
end

