-- ==== Sys2Proof/WellFormed.lean ====
section
/-! DEFINITION. Well-formed commands: operands that events on the part can bring. A command whose operands are not well formed still acts;
what its operands name beyond the part is ignored. -/
namespace Sys2Proof

/-- A list of at most `n` readings. -/
def atMost {α : Type} (n : Nat) (l : List α) : Bool := decide (l.length ≤ n)

/-- Numbers of parts below `n`. -/
def allBelow (n : Nat) (l : List Nat) : Bool := l.all (decide <| · < n)

/-- Readings of eight groups and four strings, and lines that exist. -/
def wfReadings (r : Readings) : Bool :=
  atMost 8 r.sense && atMost 8 r.sense32 && atMost 8 r.sense64 && (r.sense ++ r.sense32 ++ r.sense64).all (atMost 32) && atMost 8 r.health && atMost 8 r.vled && atMost 4 r.vtop &&
    allBelow 384 (r.joined.map (·.1)) && allBelow 384 (r.joined.map (·.2))

/-- The command's operands name parts of the device. -/
def wellFormed (i : Instr) : Bool :=
  match i with
  | .cellEdge r => wfReadings r
  | .commitClock r => wfReadings r
  | .freezePoint vled => atMost 8 vled
  | .commitCtrlSubmit _ _ => true
  | .coreClockStop => true
  | .txPacketStart _ => true
  | .regWriteGeneric _ _ _ => true
  | .levelWrite _ _ _ => true
  | .pageLockWrite _ _ _ => true
  | .winDataAccess _ _ _ _ => true
  | .pageSelWrite _ _ _ => true
  | .regRead => true
  | .regWrite => true
  | .telemRead => true
  | .telemResp => true
  | .packetReceived _ k e => atMost 1024 k.payload && !k.aborts && decide (16 + 12 * k.payload.length ≤ e.ago.toNat)
  | .checkReq _ => true
  | .bankCheckDone => true
  | .loadReq _ _ => true
  | .layoutLoadDone _ => true
  | .copyReq _ => true
  | .copyDone => true
  | .swapReq _ => true
  | .shadowCellWrite _ _ _ => true
  | .combCellPortWrite _ _ => true
  | .shadowPeriodWrite _ _ => true
  | .combRunWrite _ _ => true
  | .combStart r => wfReadings r
  | .alignWaitEnd r => wfReadings r
  | .standbyFrameStart => true
  | .flipReq _ _ => true
  | .fbPortWrite _ _ _ _ _ => true
  | .stage1Fetch found => allBelow 4096 (found.map (·.1))
  | .blinkWrite _ _ _ => true
  | .planesWrite _ _ => true
  | .groupEnable _ _ => true
  | .groupDisable _ _ => true
  | .kindWrite _ _ _ => true
  | .isegWrite _ _ _ => true
  | .dropWrite _ _ _ => true
  | .lineUseWrite _ _ _ => true
  | .rampStepTick _ => true
  | .dischargeEnd _ => true
  | .headroom _ _ => true
  | .clineClamp _ _ => true
  | .vledLow _ => true
  | .lcdWrite _ _ _ => true
  | .biasEnable _ => true
  | .biasDisable _ => true
  | .biasReady => true
  | .pumpFail => true
  | .pumpOverload => true
  | .biasDischargeEnd _ => true
  | .vlcdTargetUpdate _ => true
  | .biasSetWrite _ _ _ => true
  | .stringEnable _ _ => true
  | .stringDisable _ _ => true
  | .stringCtrlWrite _ _ _ _ => true
  | .stringSupWrite _ _ _ _ => true
  | .hmarginWrite _ _ _ => true
  | .stringRampTick _ => true
  | .releaseStep _ => true
  | .lampOpen _ _ => true
  | .stringOpen _ => true
  | .stringHeadroom _ => true
  | .lampSample _ _ lamps => atMost 16 lamps
  | .keySenseWrite _ _ _ => true
  | .profileWrite _ _ _ => true
  | .keyEntryWrite _ _ => true
  | .keyEngineTick => true
  | .healthEntryWrite _ _ => true
  | .eventEnqueue => true
  | .eventPop _ => true
  | .fabricEventPop => true
  | .eventsPacketForm => true
  | .keyLockWrite _ _ => true
  | .clearFails _ => true
  | .seal _ => true
  | .seqWrite _ _ _ => true
  | .comboWrite _ _ _ _ => true
  | .klockBasicWrite _ _ => true
  | .seqGapTimeout => true
  | .lockoutEnded => true
  | .comboFire => true
  | .comboAction => true
  | .panelPulseEnd => true
  | .vsupSample _ => true
  | .zcEdge _ => true
  | .zcMissing => true
  | .recovered => true
  | .ledgerMonWrite _ _ => true
  | .baseHeatWrite _ _ => true
  | .ctrClear _ _ _ => true
  | .lswSend _ => true
  | .timeSend _ _ => true
  | .epochSend _ => true
  | .lswReceive _ _ => true
  | .lossOfSignal _ => true
  | .lswTimeout _ => true
  | .codeErrorLimit _ _ => true
  | .wrapChange => true
  | .timeSetReceive _ _ _ => true
  | .epochReceive _ _ => true
  | .holdoverEnd _ => true
  | .hiveSecondsWrite _ _ => true
  | .clearErr _ _ => true
  | .portEnable _ _ => true
  | .portDisable _ _ => true
  | .bypassInsertWrite _ _ => true
  | .bypassMove => true
  | .bypassSettled => true
  | .queenEnWrite _ => true
  | .queenRelease _ => true
  | .beaconSend => true
  | .beaconReceive => true
  | .presentSend => true
  | .presentReceive => true
  | .joinSend => true
  | .joinReceive => true
  | .assignReceive => true
  | .nodeGone _ => true
  | .leaveWrite _ => true
  | .leaveSend => true
  | .leaveReceive => true
  | .display => true
  | .events => true
  | .ack => true
  | .ackSend => true
  | .retransmit _ => true
  | .arm => true
  | .armPrepared => true
  | .commit => true
  | .revert => true
  | .commitTickPass => true
  | .modeReportSend => true
  | .armedReceive => true
  | .waggleSchedule => true
  | .waggleApply => true
  | .txSubmit _ _ _ => true
  | .censusWrite _ _ => true
  | .clockSrcWrite _ _ => true
  | .switched => true
  | .judgeWindowEnd _ _ _ => true
  | .pllLock => true
  | .gateWrite _ _ => true
  | .powerReqWrite _ _ => true
  | .standbyExit r => wfReadings r
  | .powerOn => true
  | .resetN _ => true
  | .watchdog => true
  | .resetExit _ => true
  | .startupStep => true
  | .startupSlow => true
  | .startupWrite _ _ => true
  | .resetCountClear _ => true
  | .memWindowOpen _ _ => true
  | .windowOpenDone _ _ => true
  | .windowClose _ => true
  | .memWindowAccess _ _ _ => true
  | .tileClear _ _ => true
  | .dmaDescriptor _ _ _ _ _ => true
  | .dmaDone found => allBelow 4096 (found.map (·.1))
  | .protWrite _ _ _ => true
  | .freeze _ => true
  | .ctxSwitch _ _ => true
  | .fabricReset _ => true
  | .fabricResetRelease => true
  | .loadGo _ _ => true
  | .loadCopyEnd => true
  | .loadCheckEnd found => allBelow 4096 (found.map (·.1))
  | .loadWriteEnd flips => allBelow 12288 (flips.map (·.1)) && allBelow 3120 (flips.map (·.2))
  | .loadDone => true
  | .stageWrite _ _ => true
  | .scrubSlot _ => true
  | .mapScrubDone found => allBelow 3072 (found.map (·.1))
  | .selfUpset _ => true
  | .scrubBasicWrite _ _ => true
  | .passesClear _ _ => true
  | .pieceCtrlGo _ _ => true
  | .pieceWriteDone _ => true
  | .piece => true
  | .pieceGo _ => true
  | .pieceResp => true
  | .verifyDone => true
  | .abort _ => true
  | .activate _ => true
  | .hiveActivation => true
  | .accept _ => true
  | .checkTimeEnd => true
  | .postActivationCheck _ => true
  | .keyCommit _ => true
  | .bootWrite _ _ => true
  | .mcReady _ => true
  | .svcReg _ _ _ => true
  | .svcMem _ _ _ _ => true
  | .extest _ _ => true
  | .samplePreload _ _ => true
  | .bypass _ => true
  | .xmemEnWrite _ _ => true
  | .xmemPllLock => true
  | .xmemDevWrite _ _ _ => true
  | .xmemCmdGo _ _ => true
  | .cmdDone _ => true
  | .xmemWindowAccess _ _ _ => true
  | .streamTimeout => true
  | .regionCtrlGo _ _ => true
  | .rekeyBurst => true
  | .twiStart _ => true
  | .twiStop _ => true
  | .twiAddressByte _ => true
  | .twiIndexByte _ => true
  | .twiWriteByte _ => true
  | .twiReadAck => true
  | .twiReadNack => true
  | .twiTimeout => true
  | .twiBusFree => true
  | .twiSleep => true
  | .twiBasicWrite _ _ => true
  | .selftestDone kind _ => decide (1 ≤ kind ∧ kind ≤ 9)
  | .selftestReq _ _ => true
  | .lineClear _ _ => true
  | .logClear _ _ => true
  | .dieSensorUpdate die ntc => atMost 8 die && atMost 2 ntc
  | .shutdown => true
  | .thermBasicWrite _ _ => true
  | .alignmentGained _ => true
  | .secondRollover => true
  | .clockManagerLock _ => true
  | .memoryInitDone => true
  | .activationChecking => true
  | .quietWindowEnd => true
  | .serviceEnChange _ => true

end Sys2Proof
end

