-- ==== Sys2Proof/Tests/Slice0.lean ====
section
/-! SUPPORT. The model's own tests: ill-formed commands refused, values of the spec's worked examples, and for each statement with hypotheses
concrete states and operands that meet those of each of its clauses together. -/
open Sys2Proof Sys2Proof.Machine
namespace Sys2Proof.Tests

set_option Elab.async false
set_option linter.unusedVariables false

/-- Reset with changes made to it one after another. -/
def resetWith (ms : List (State → State)) : State := ms.foldl (fun s m => m s) State.reset

/-! ### Ill-formed operands -/

def noReadings : Readings := ⟨[], [], [], [], [], [], []⟩
/-- Sensed voltages of groups whose lines at the set bits are at 0 mV, and at 5 V elsewhere. -/
def linesClosed (ms : List Nat) : List (List Nat) := ms.map fun m => (List.range 32).map fun k => if m.testBit k then 0 else 5000
def allClosed : Readings := { noReadings with sense := linesClosed (List.replicate 8 0xFFFFFFFF) }
def someClosed : Readings := { noReadings with sense := linesClosed [5, 7, 0xFF00], sense32 := linesClosed (List.replicate 8 0xFFFF) }

theorem test_wellFormed_plain :
    wellFormed (.cellEdge noReadings) = true ∧ wellFormed (.stage1Fetch [(4095, 1)]) = true ∧ wellFormed (.selftestDone 9 false) = true := by decide
theorem test_illFormed_sense : wellFormed (.cellEdge { noReadings with sense := List.replicate 9 [] }) = false := by decide
theorem test_illFormed_sense32 : wellFormed (.commitClock { noReadings with sense32 := List.replicate 9 [] }) = false := by decide
theorem test_illFormed_sense64 : wellFormed (.combStart { noReadings with sense64 := List.replicate 9 [] }) = false := by decide
theorem test_illFormed_senseLines :
    wellFormed (.cellEdge { noReadings with sense := [List.replicate 33 0] }) = false := by decide
theorem test_illFormed_health : wellFormed (.alignWaitEnd { noReadings with health := List.replicate 9 0 }) = false := by decide
theorem test_illFormed_vled : wellFormed (.standbyExit { noReadings with vled := List.replicate 9 0 }) = false := by decide
theorem test_illFormed_vtop : wellFormed (.cellEdge { noReadings with vtop := List.replicate 5 0 }) = false := by decide
theorem test_illFormed_joined :
    wellFormed (.cellEdge { noReadings with joined := [(384, 0)] }) = false ∧ wellFormed (.cellEdge { noReadings with joined := [(0, 384)] }) = false := by
  decide
theorem test_illFormed_freeze : wellFormed (.freezePoint (List.replicate 9 0)) = false := by decide
theorem test_illFormed_packet : 
    wellFormed (.packetReceived .a { header := 0, payload := List.replicate 1025 (0 : Word) } ⟨.whole 0, 20000⟩) = false ∧
      wellFormed (.packetReceived .a { header := 0, payload := [1] } ⟨.whole 0, 27⟩) = false ∧
      wellFormed (.packetReceived .a { header := 0, payload := [] } ⟨.whole 0, 16⟩) = true := by decide +kernel
theorem test_illFormed_fetch : wellFormed (.stage1Fetch [(4096, 1)]) = false ∧ wellFormed (.dmaDone [(4096, 1)]) = false := by decide
theorem test_illFormed_load :
    wellFormed (.loadCheckEnd [(4096, 1)]) = false ∧ wellFormed (.loadWriteEnd [(12288, 0)]) = false ∧ wellFormed (.loadWriteEnd [(0, 3120)]) = false ∧
      wellFormed (.mapScrubDone [(3072, none)]) = false := by decide
theorem test_illFormed_lamps : wellFormed (.lampSample 0 0 (List.replicate 17 0)) = false := by decide
theorem test_illFormed_selftest : wellFormed (.selftestDone 0 false) = false ∧ wellFormed (.selftestDone 10 true) = false := by decide
theorem test_illFormed_sensors :
    wellFormed (.dieSensorUpdate (List.replicate 9 0) []) = false ∧ wellFormed (.dieSensorUpdate [] [0, 0, 0]) = false := by decide

/-- The table gives no row any bits, so no word spells a command. -/
theorem test_decode_none : decodeTableWord 48 0xFF8081000002 = none ∧ State.reset.withFetchWord 48 5 = State.reset := ⟨rfl, rfl⟩

/-! ### Worked examples of the spec -/

/-- The header of an ARM from a queen at address 0x60, broadcast, with two payload words (01, the worked value under R17). -/
theorem test_armHeader : (mkPacket 0x7F 0x60 planeControl 1 0 [0, 0]).header = 0xFF8081000002 := by decide
/-- The event word and its extension of key K5's PRESS (11, the worked example). -/
theorem test_eventWord :
    eventWord { State.reset with seconds := 3600, tick := 62377119 } 0 0xA4 12 = 0x01480604F510 ∧
    eventExt { State.reset with seconds := 3600, tick := 62377119 } = 0x00000E10009F := by decide +kernel
/-- The same of drop wire A, crosspoint 546 (20, the worked example). -/
theorem test_eventWord_dropWire :
    eventWord { State.reset with seconds := 3600, tick := 41815999 } 0 546 19 = 0x0444098352BF ∧
    eventExt { State.reset with seconds := 3600, tick := 41815999 } = 0x00000E10007F := by decide +kernel
/-- PAGE_ID.NAME of COMB and GRP3 (R594). -/
theorem test_pageNames :
    bitsOf (serveRead .ring 0x1000 State.reset).1 0 32 = 0x434F4D42 ∧ bitsOf (serveRead .ring 0x0B00 State.reset).1 0 32 = 0x47525033 := by decide +kernel

/-! ### The whole machine -/

namespace Whole
def stopped : State := { State.reset with clock := { State.reset.clock with coreStopped := true }, pending := [.biasReady] }

theorem witness_StoppedPartIsKeptByEveryStep :
    ∃ u s s' : State, ((s.clock.coreStopped = true ∨ s.clock.inReset = true ∧ s.flag Fld.CLOCK_STATUS_PLL_LOCK = false) ∧ (∀ c ∈ s.pending, wakes c = false) ∧
      { s with pending := u.pending } = u) ∧ step s = .next s' :=
  ⟨stopped, stopped, { stopped with pending := [] }, by decide +kernel, rfl⟩

theorem witness_InvariantIsKeptByEveryStep : ∃ s s' : State, Machine.Inv s ∧ step s = .next s' :=
  ⟨State.reset, _, by decide +kernel, rfl⟩
end Whole

/-! ### Each statement's hypotheses -/

namespace Whole
def inClock (f : ClockState → ClockState) (s : State) : State := { s with clock := f s.clock }

theorem witness_StepRunsFrontCommand :
    ∃ (c : Instr) (cs : List Instr) (s : State), s.pending = c :: cs :=
  ⟨.biasReady, [.wrapChange], { State.reset with pending := [.biasReady, .wrapChange] }, by decide +kernel⟩

theorem witness_EmptyQueuePassesOneTck :
    (∃ s : State, s.pending = [] ∧ Live s ∧ s.tick + 1 < 192000000) ∧
    (∃ s : State, s.pending = [] ∧ Live s ∧ s.tick + 1 = 192000000) ∧
    (∃ s : State, s.pending = [] ∧ (s.clock.coreStopped = true ∨ s.clock.inReset = true ∧ s.flag Fld.CLOCK_STATUS_PLL_LOCK = false)) ∧
    (∃ s : State, s.pending = [] ∧ s.clock.coreStopped = false ∧ s.clock.inReset = true ∧ s.flag Fld.CLOCK_STATUS_PLL_LOCK = true) :=
  ⟨⟨{ State.reset with tick := 191999998 }, by decide +kernel⟩,
   ⟨{ State.reset with tick := 191999999 }, by decide +kernel⟩,
   ⟨(resetWith [inClock (fun c => { c with coreStopped := true })]), by decide +kernel⟩,
   ⟨(resetWith [inClock (fun c => { c with inReset := true }), (·.set Fld.CLOCK_STATUS_PLL_LOCK 1)]), by decide +kernel⟩⟩

theorem witness_StoppedCoreHoldsItsState :
    ∃ (c : Instr) (s : State), (s.clock.coreStopped = true ∨ s.clock.inReset = true) ∧ wakes c = false :=
  ⟨.biasReady, (resetWith [inClock (fun c => { c with inReset := true })]), by decide +kernel⟩

theorem witness_ReservedPagesReadZeroAndFlagWrites :
    (∃ (p : Path) (a : BitVec 14) (v : Word) (s : State), Live s ∧ reservedPage (a.toNat / 256) = true ∧ p ≠ .fabric) ∧
    (∃ (p : Path) (a : BitVec 14) (v : Word) (s : State), Live s ∧ reservedPage (a.toNat / 256) = true ∧ s.pathOpen p (a.toNat / 256) = true) :=
  ⟨⟨.ring, 0x3F00, 1, State.reset, by decide +kernel⟩,
   ⟨.ring, 0x3F00, 1, State.reset, by decide +kernel⟩⟩

theorem witness_GenericWritesAreTestedOrClearFlags :
    (∃ (p : Path) (a : BitVec 14) (v : Word) (s : State), Live s ∧ s.pathOpen p (a.toNat / 256) = true ∧ reservedPage (a.toNat / 256) = false ∧
      a.toNat % 256 ≠ 0xFE ∧ isWindow a.toNat = false ∧ (a.toNat % 256 = 0xE0 → hasWindow (a.toNat / 256) = false) ∧ regFields a.toNat = none) ∧
    (∃ (p : Path) (a : BitVec 14) (v : Word) (s : State), Live s ∧ s.pathOpen p (a.toNat / 256) = true ∧ reservedPage (a.toNat / 256) = false ∧
      a.toNat % 256 ≠ 0xFE ∧ isWindow a.toNat = false ∧ (a.toNat % 256 = 0xE0 → hasWindow (a.toNat / 256) = false) ∧ regFields a.toNat ≠ none ∧ (8 ≤
      a.toNat % 256 ∧ a.toNat % 256 < 0x40 ∨ a.toNat % 256 = 2) ∧ s.expert (a.toNat / 256) = true) ∧
    (∃ (p : Path) (a : BitVec 14) (v : Word) (s : State), Live s ∧ s.pathOpen p (a.toNat / 256) = true ∧ reservedPage (a.toNat / 256) = false ∧
      a.toNat % 256 ≠ 0xFE ∧ isWindow a.toNat = false ∧ (a.toNat % 256 = 0xE0 → hasWindow (a.toNat / 256) = false) ∧ regFields a.toNat ≠ none ∧ 0x40
      ≤ a.toNat % 256 ∧ a.toNat % 256 < 0xE0 ∧ s.expert (a.toNat / 256) = false) ∧
    (∃ (p : Path) (a : BitVec 14) (v : Word) (s : State), Live s ∧ s.pathOpen p (a.toNat / 256) = true ∧ reservedPage (a.toNat / 256) = false ∧
      a.toNat % 256 ≠ 0xFE ∧ isWindow a.toNat = false ∧ (a.toNat % 256 = 0xE0 → hasWindow (a.toNat / 256) = false) ∧ a.toNat ∈ [Reg.EVENT_BASIC,
      Reg.SELFTEST_BASIC, 0x2D0B, Reg.XMEM_WIN_BASE] ∧ s.expert (a.toNat / 256) = false ∧ s.locked p (a.toNat / 256) = false) ∧
    (∃ (p : Path) (a : BitVec 14) (v : Word) (s : State), Live s ∧ s.pathOpen p (a.toNat / 256) = true ∧ reservedPage (a.toNat / 256) = false ∧
      a.toNat % 256 ≠ 0xFE ∧ isWindow a.toNat = false ∧ (a.toNat % 256 = 0xE0 → hasWindow (a.toNat / 256) = false) ∧ a.toNat % 256 = 4 ∧ a.toNat /
      256 ≠ 0x05 ∧ a.toNat / 256 ≠ 0x1A ∧ a.toNat / 256 ≠ 0x2B) :=
  ⟨⟨.ring, 0x00DF, 1, State.reset, by decide +kernel⟩,
   ⟨.ring, BitVec.ofNat 14 Reg.COMB_BASIC, 1, (resetWith [(·.setReg 0x1007 1)]), by decide +kernel⟩,
   ⟨.ring, BitVec.ofNat 14 Reg.COMB_X_CTRL, 1, State.reset, by decide +kernel⟩,
   ⟨.ring, 0x2D0B, 1, State.reset, by decide +kernel⟩,
   ⟨.ring, 0x1004, 1, State.reset, by decide +kernel⟩⟩

theorem witness_LockedWritesKeepTheLockedFields :
    (∃ (p q : Path) (a : BitVec 14) (v : Word) (s : State), Live s ∧ s.pathOpen p (a.toNat / 256) = true ∧ s.pathOpen q (a.toNat / 256) = true ∧
      s.locked p (a.toNat / 256) = true ∧ s.locked q (a.toNat / 256) = false ∧ reservedPage (a.toNat / 256) = false ∧ a.toNat % 256 ≠ 0xFE ∧ isWindow
      a.toNat = false ∧ (a.toNat % 256 = 0xE0 → hasWindow (a.toNat / 256) = false) ∧ State.lockMask a.toNat ≠ 0 ∧ ((8 ≤ a.toNat % 256 ∧ a.toNat % 256
      < 0x40 ∨ a.toNat % 256 = 2) → s.expert (a.toNat / 256) = false) ∧ (0x40 ≤ a.toNat % 256 → a.toNat % 256 < 0xE0 → s.expert (a.toNat / 256) =
      true) ∧ State.freeMask a.toNat = 0) ∧
    (∃ (p q : Path) (a : BitVec 14) (v : Word) (s : State), Live s ∧ s.pathOpen p (a.toNat / 256) = true ∧ s.pathOpen q (a.toNat / 256) = true ∧
      s.locked p (a.toNat / 256) = true ∧ s.locked q (a.toNat / 256) = false ∧ reservedPage (a.toNat / 256) = false ∧ a.toNat % 256 ≠ 0xFE ∧ isWindow
      a.toNat = false ∧ (a.toNat % 256 = 0xE0 → hasWindow (a.toNat / 256) = false) ∧ State.lockMask a.toNat ≠ 0 ∧ ((8 ≤ a.toNat % 256 ∧ a.toNat % 256
      < 0x40 ∨ a.toNat % 256 = 2) → s.expert (a.toNat / 256) = false) ∧ (0x40 ≤ a.toNat % 256 → a.toNat % 256 < 0xE0 → s.expert (a.toNat / 256) =
      true) ∧ State.freeMask a.toNat ≠ 0) :=
  ⟨⟨.ring, .twi, BitVec.ofNat 14 Reg.COMB_BASIC, 1, (resetWith [(·.setReg 0x1006 1)]), by decide +kernel⟩,
   ⟨.ring, .twi, 0x1108, 1, (resetWith [(·.setReg 0x1106 1)]), by decide +kernel⟩⟩

theorem witness_LevelAndLockWrites :
    (∃ (p : Path) (page : BitVec 6) (v : Word) (s : State), Live s ∧ s.pathOpen p page.toNat = true ∧ reservedPage page.toNat = false ∧ s.locked p
      page.toNat = false ∧ hasExpert page.toNat = true ∧ s.expert page.toNat = false ∧ bitAt v 0 = true) ∧
    (∃ (p : Path) (page : BitVec 6) (v : Word) (s : State), Live s ∧ s.pathOpen p page.toNat = true ∧ reservedPage page.toNat = false ∧ s.locked p
      page.toNat = false ∧ hasExpert page.toNat = false ∧ bitAt v 0 = true) ∧
    (∃ (p : Path) (page : BitVec 6) (v : Word) (s : State), Live s ∧ s.pathOpen p page.toNat = true ∧ reservedPage page.toNat = false ∧ s.locked p
      page.toNat = false ∧ bitAt v 0 = s.expert page.toNat ∧ (bitAt v 0 = true → hasExpert page.toNat = true)) ∧
    (∃ (p : Path) (page : BitVec 6) (v : Word) (s : State) (x : Fin 2), Live s ∧ s.pathOpen p page.toNat = true ∧ reservedPage page.toNat = false ∧
      s.locked p page.toNat = false ∧ page.toNat = 3 + x ∧ s.expert page.toNat = true ∧ bitAt v 0 = false) ∧
    (∃ (p : Path) (page : BitVec 6) (v : Word) (s : State), Live s ∧ s.pathOpen p page.toNat = true ∧ reservedPage page.toNat = false ∧ s.locked p
      page.toNat = true ∧ (s.expert page.toNat = true → hasExpert page.toNat = true)) :=
  ⟨⟨.ring, 0x10, 1, State.reset, by decide +kernel⟩,
   ⟨.ring, 0, 1, State.reset, by decide +kernel⟩,
   ⟨.ring, 0x10, 0, State.reset, by decide +kernel⟩,
   ⟨.ring, 4, 0, (resetWith [(·.setReg 0x0407 1)]), 1, by decide +kernel⟩,
   ⟨.ring, 0x10, 0, (resetWith [(·.setReg 0x1006 7)]), by decide +kernel⟩⟩

theorem witness_WindowsAndPageSelection :
    (∃ (p : Path) (page : BitVec 6) (w : Option Word) (s : State), Live s ∧ hasWindow page.toNat = true ∧ s.pathOpen p page.toNat = true ∧ readOpen s
      p page.toNat = true ∧ winSize s page.toNat (bitsOf (s.winCtl p page.toNat) 40 8) ≤ bitsOf (s.winCtl p page.toNat) 0 24 ∧ bitsOf (s.winCtl p
      page.toNat) 0 24 < 16777215 ∧ bitAt (s.winCtl p page.toNat) 39 = true ∧ p = .fabric ∧ w = none) ∧
    (∃ (p : Path) (page : BitVec 6) (w : Option Word) (s : State), Live s ∧ hasWindow page.toNat = true ∧ s.pathOpen p page.toNat = true ∧ readOpen s
      p page.toNat = true ∧ winSize s page.toNat (bitsOf (s.winCtl p page.toNat) 40 8) ≤ bitsOf (s.winCtl p page.toNat) 0 24 ∧ bitsOf (s.winCtl p
      page.toNat) 0 24 < 16777215 ∧ bitAt (s.winCtl p page.toNat) 39 = true ∧ (p ≠ .fabric ∨ w ≠ none)) ∧
    (∃ (p : Path) (k : Fin 29) (v : Word) (s : State), Live s ∧ s.pathOpen p 0x12 = true ∧ bitAt (s.winCtl p 0x12) 39 = false ∧ bitsOf (s.winCtl p
      0x12) 40 8 = 1 ∧ bitsOf (s.winCtl p 0x12) 0 24 + (k.val - 1) < 128) ∧
    (∃ (p : Path) (page : BitVec 6) (v : Word) (s : State), Live s ∧ s.pathOpen p page.toNat = true ∧ reservedPage page.toNat = false ∧ p ≠ .twi) ∧
    (∃ (p : Path) (page : BitVec 6) (v : Word) (s : State), Live s ∧ s.pathOpen p page.toNat = true ∧ reservedPage page.toNat = false ∧ p = .twi ∧
      reservedPage (bitsOf v 0 6) = true) ∧
    (∃ (p : Path) (page : BitVec 6) (v : Word) (s : State), Live s ∧ s.pathOpen p page.toNat = true ∧ reservedPage page.toNat = false ∧ p = .twi ∧
      reservedPage (bitsOf v 0 6) = false) :=
  ⟨⟨.fabric, 0x12, none, (resetWith [inClock (fun c => { c with writesOn := true }), (fun s => s.putWinCtl .fabric 0x12 (packWord
     [(40,8,1),(39,1,1),(0,24,128)]))]), by decide +kernel⟩,
   ⟨.ring, 0x12, none, (resetWith [(fun s => s.putWinCtl .ring 0x12 (packWord [(40,8,1),(39,1,1),(0,24,128)]))]), by decide +kernel⟩,
   ⟨.ring, 28, 7, (resetWith [(fun s => s.putWinCtl .ring 0x12 (packWord [(40,8,1),(0,24,100)]))]), by decide +kernel⟩,
   ⟨.ring, 0x10, 0x3F, State.reset, by decide +kernel⟩,
   ⟨.twi, 0x10, 0x3F, State.reset, by decide +kernel⟩,
   ⟨.twi, 0x10, 0x12, State.reset, by decide +kernel⟩⟩

end Whole

namespace Comb
def inComb (f : CombState → CombState) (s : State) : State := { s with comb := f s.comb }
def inPipe (f : PipeState → PipeState) (s : State) : State := { s with pipe := f s.pipe }
def inCommit (f : CommitState → CommitState) (s : State) : State := { s with commit := f s.commit }
def cellWord (tys : List (Nat × Nat)) (common plane dwell : Nat) : Word := packWord ((tys.map fun e => (24+3*e.1, 3, e.2)) ++ [(20,4,common),(16,4,plane),(4,12,dwell)])
def putMem (a : Nat) (ws : List Word) (s : State) : State := { s with fabric := { s.fabric with mem := Table.putList (fun _ => 0) s.fabric.mem a ws } }
def layoutBody : List Word := [packWord [(32,16,0x434D),(24,8,1),(12,12,3)], packWord [(0,24,48000)], cellWord [(0,1)] 0 0 100, cellWord [(0,1),(3,2)] 1 0 4000, cellWord [(0,1)] 2 0 4000 ||| 3]
def layout : List Word := layoutBody ++ [BitVec.ofNat 48 (crc32cWords layoutBody).toNat]
def fullBank (s : State) : State := (List.range 3).foldl (fun s i => s.setCell s.shadowBank i (packWord [(4,12,4000),(1,1,if i = 2 then 1 else 0)])) s
def sets : List LocalSet := [⟨true, 1, none, true, false⟩, ⟨false, 0x80, some 2, false, false⟩]

theorem witness_ShadowBankOperations :
    (∃ (p : Path) (s : State), Live s ∧ s.pathOpen p 0x10 = true ∧ s.expert 0x10 = true ∧ s.shadowState ≠ bankChecking ∧ s.shadowState ≠ bankFilling) ∧
    (∃ (p : Path) (s : State), Live s ∧ s.pathOpen p 0x10 = true ∧ s.expert 0x10 = true ∧ s.shadowState = bankFilling) ∧
    (∃ (p : Path) (tile : BitVec 12) (s : State), Live s ∧ MayWriteBasic p 0x10 s ∧ s.shadowState ≠ bankChecking ∧ s.shadowState ≠ bankFilling) ∧
    (∃ s : State, Live s ∧ s.shadowState = bankChecking ∧ (checkCause s s.shadowBank).1 = 0) ∧
    (∃ s : State, Live s ∧ s.shadowState = bankChecking ∧ (checkCause s s.shadowBank).1 ≠ 0) ∧
    (∃ (tile : Nat) (lock : Bool) (s : State), Live s ∧ s.comb.op = .load tile lock ∧ s.shadowState = bankFilling ∧ s.tileState tile ≠ tileGood) ∧
    (∃ (tile : Nat) (lock : Bool) (s : State), Live s ∧ s.comb.op = .load tile lock ∧ s.shadowState = bankFilling ∧ s.tileState tile = tileGood ∧
      layoutCause s tile ≠ 0) ∧
    (∃ (tile : Nat) (lock : Bool) (s : State), Live s ∧ s.comb.op = .load tile lock ∧ s.shadowState = bankFilling ∧ s.tileState tile = tileGood ∧
      layoutCause s tile = 0) ∧
    (∃ s : State, Live s ∧ s.comb.op = .copy ∧ s.shadowState = bankFilling) ∧
    (∃ (p : Path) (s : State), Live s ∧ s.pathOpen p 0x10 = true ∧ s.shadowState ≠ bankUnchecked) ∧
    (∃ (p : Path) (s : State), Live s ∧ s.pathOpen p 0x10 = true ∧ s.shadowState = bankUnchecked) ∧
    (∃ (p : Path) (i : Fin 384) (v : Word) (s : State), Live s ∧ s.pathOpen p 0x10 = true ∧ s.expert 0x10 = false) ∧
    (∃ (p : Path) (i : Fin 384) (v : Word) (s : State), Live s ∧ s.pathOpen p 0x10 = true ∧ s.expert 0x10 = true ∧ s.shadowState = bankFilling) ∧
    (∃ (p : Path) (i : Fin 384) (v : Word) (s : State), Live s ∧ s.pathOpen p 0x10 = true ∧ s.expert 0x10 = true ∧ s.shadowState ≠ bankFilling) ∧
    (∃ (i : BitVec 9) (v : Word) (s : State), Live s ∧ writesOn s = false) ∧
    (∃ (i : BitVec 9) (v : Word) (s : State), Live s ∧ writesOn s = true ∧ (s.flag Fld.COMB_X_CTRL_PORT_EN = false ∨ 384 ≤ i.toNat)) ∧
    (∃ (i : BitVec 9) (v : Word) (s : State), Live s ∧ s.flag Fld.COMB_X_CTRL_PORT_EN = true ∧ writesOn s = true ∧ i.toNat < 384 ∧ s.shadowState ≠
      bankFilling) ∧
    (∃ (p : Path) (n : BitVec 24) (s : State), Live s ∧ s.pathOpen p 0x10 = true ∧ s.expert 0x10 = true ∧ s.shadowState ≠ bankFilling) :=
  ⟨⟨.ring, (resetWith [(·.setReg 0x1007 1)]), by decide +kernel⟩,
   ⟨.ring, (resetWith [(·.setReg 0x1007 1), (·.set Fld.COMB_STATUS_SHADOW_STATE 4)]), by decide +kernel⟩,
   ⟨.ring, 0x29, State.reset, by decide +kernel⟩,
   ⟨(resetWith [fullBank, (fun s => s.set Fld.COMB_STATUS_SHADOW_STATE 1)]), by decide +kernel⟩,
   ⟨(resetWith [(fun s => s.set Fld.COMB_STATUS_SHADOW_STATE 1)]), by decide +kernel⟩,
   ⟨5, true, (resetWith [inComb (fun c => { c with op := .load 5 true, priorState := 3 }), (·.setTileState 5 1), (·.set Fld.COMB_STATUS_SHADOW_STATE
     4)]), by decide +kernel⟩,
   ⟨5, false, (resetWith [(·.set Fld.COMB_STATUS_SHADOW_STATE 2), (fun s =>
     ({ s with comb := { s.comb with op := .load 5 (s.regs.length % 4 == 2), priorState := 3 } }.set Fld.COMB_STATUS_SHADOW_STATE 4))]),
     by decide +kernel⟩,
   ⟨5, true, (resetWith [inComb (fun c => { c with op := .load 5 true, priorState := 3 }), putMem 5120 layout, (·.set Fld.COMB_STATUS_SHADOW_STATE
     4)]), by decide +kernel⟩,
   ⟨(resetWith [(·.set Fld.COMB_STATUS_SHADOW_STATE 4), inComb (fun c => { c with op := .copy, priorState := 2 })]), by decide +kernel⟩,
   ⟨.ring, (resetWith [(·.set Fld.COMB_STATUS_SHADOW_STATE 4)]), by decide +kernel⟩,
   ⟨.ring, State.reset, by decide +kernel⟩,
   ⟨.waggle, 383, 0, State.reset, by decide +kernel⟩,
   ⟨.fabric, 38, 0xaaaabaaa, (resetWith [(·.setReg 0x1007 1), (fun s => { s with clock := { s.clock with writesOn := true } }), (·.set
     Fld.COMB_STATUS_SHADOW_STATE 4)]), by decide +kernel⟩,
   ⟨.waggle, 179, 0, (resetWith [(·.setReg 0x1007 1)]), by decide +kernel⟩,
   ⟨5, 0xaaaaaaaa, State.reset, by decide +kernel⟩,
   ⟨0x1ff, 0xabaaaaaa, (resetWith [(fun s => { s with clock := { s.clock with writesOn := true } })]), by decide +kernel⟩,
   ⟨5, 0xaaaaaaaa, (resetWith [(·.set Fld.COMB_X_CTRL_PORT_EN 1), (fun s => { s with clock := { s.clock with writesOn := true } })]),
     by decide +kernel⟩,
   ⟨.ring, 5, (resetWith [(·.setReg 0x1007 1)]), by decide +kernel⟩⟩

theorem witness_CellsAdvanceAndFramesEnd :
    (∃ (r : Readings) (s : State), Live s ∧ s.runState = combRunning ∧ s.comb.frameEnded = false ∧ s.inStandby = false ∧ s.get
      Fld.COMB_STATUS_CUR_CELL ≠ (frameEndOf s s.activeBank).getD 383) ∧
    (∃ (r : Readings) (s : State), Live s ∧ s.runState = combRunning ∧ s.comb.frameEnded = false ∧ s.inStandby = false ∧ s.get
      Fld.COMB_STATUS_CUR_CELL = (frameEndOf s s.activeBank).getD 383 ∧ activePeriod s = 0) ∧
    (∃ (r : Readings) (s : State), Live s ∧ s.runState = combRunning ∧ s.comb.frameEnded = false ∧ s.inStandby = false ∧ s.get
      Fld.COMB_STATUS_CUR_CELL = (frameEndOf s s.activeBank).getD 383 ∧ activePeriod s ≠ 0) ∧
    (∃ (r : Readings) (s : State), Live s ∧ (s.runState ≠ combRunning ∨ s.comb.frameEnded = true)) ∧
    (∃ (f : List (Nat × BitVec 32)) (s : State), Live s ∧ s.pipe.passed = true) ∧
    (∃ (f : List (Nat × BitVec 32)) (s : State), Live s ∧ s.runState = combRunning ∧ s.inStandby = false ∧ s.pipe.passed = false ∧ s.commit.frozen =
      false) :=
  ⟨⟨someClosed, (resetWith [(fun s => s.set Fld.COMB_STATUS_RUN_STATE 1)]), by decide +kernel⟩,
   ⟨someClosed, (resetWith [(·.set Fld.COMB_STATUS_RUN_STATE 1), (·.set Fld.COMB_STATUS_CUR_CELL 383)]), by decide +kernel⟩,
   ⟨someClosed, (resetWith [inComb (fun c => { c with period0 := 48000, period1 := 192000 }), (·.set Fld.COMB_STATUS_CUR_CELL 383), (fun s => s.set
     Fld.COMB_STATUS_RUN_STATE 1)]), by decide +kernel⟩,
   ⟨someClosed, State.reset, by decide +kernel⟩,
   ⟨[(3000, 0x38f)], (resetWith [inPipe (fun c => { c with passed := true })]), by decide +kernel⟩,
   ⟨[(30, 0x17f)], (resetWith [(fun s => s.set Fld.COMB_STATUS_RUN_STATE 1)]), by decide +kernel⟩⟩

theorem witness_FreezePointsCommitClocksAndStarts :
    (∃ (vled : List Nat) (s : State), Live s ∧ (s.commit.frozen = true ∨ commitTime s = none)) ∧
    (∃ (vled : List Nat) (s : State), ∃ c, Live s ∧ s.commit.frozen = false ∧ commitTime s = some c) ∧
    (∃ (r : Readings) (s : State), Live s ∧ s.runState = combRunning ∧ s.comb.frameEnded = true ∧ s.inStandby = false ∧ s.commit.frozen = true) ∧
    (∃ (r : Readings) (s : State), Live s ∧ s.runState = combAligning ∧ s.commit.frozen = true ∧ s.flag Fld.COMB_X_CTRL_RUN = true ∧ s.inStandby =
      false ∧ s.get Fld.CLOCK_POWER_REQ ≠ powerStandby) ∧
    (∃ (r : Readings) (s : State), Live s ∧ s.runState = combWaiting ∧ s.shadowState = bankPassed ∧ s.mcReady = true ∧ s.inStandby = false) ∧
    (∃ (r : Readings) (s : State), Live s ∧ (s.runState ≠ combWaiting ∨ s.shadowState ≠ bankPassed ∨ s.mcReady = false)) ∧
    (∃ s : State, Live s ∧ s.inStandby = true ∧ s.runState = combRunning ∧ s.comb.frameEnded = true ∧ s.flag Fld.CLOCK_POWER_LEAVING = false ∧ s.tick
      < 192000000) ∧
    (∃ (r : Readings) (c : Nat) (s : State), Live s ∧ s.inStandby = true ∧ s.runState ≠ combRunning ∧ commitTime s = some c) :=
  ⟨⟨[2330, 31024, 7], State.reset, by decide +kernel⟩,
   ⟨[31024], (resetWith [(fun s => (({ s with clock := { s.clock with leaveAt := some 30000 } }.set Fld.CLOCK_POWER_STATE powerStandby).set
     Fld.CLOCK_POWER_LEAVING 1).setPeriod s.activeBank 0)]), 31024, by decide +kernel⟩,
   ⟨someClosed, (resetWith [(·.set Fld.COMB_STATUS_RUN_STATE 1), inCommit (fun c => { c with frozen := true }), inComb (fun c =>
     { c with frameEnded := true })]), by decide +kernel⟩,
   ⟨someClosed, (resetWith [(·.set Fld.COMB_STATUS_RUN_STATE 3), (·.set Fld.COMB_X_CTRL_RUN 1), inCommit (fun c => { c with frozen := true })]),
     by decide +kernel⟩,
   ⟨someClosed, (resetWith [(·.set Fld.COMB_STATUS_RUN_STATE 2), (·.set Fld.UPDATE_STATUS_MC_READY 1), (·.set Fld.COMB_STATUS_SHADOW_STATE 2)]),
     by decide +kernel⟩,
   ⟨someClosed, State.reset, by decide +kernel⟩,
   ⟨(resetWith [(·.set Fld.COMB_STATUS_RUN_STATE 1), inComb (fun c => { c with frameEnded := true }), (·.set Fld.CLOCK_POWER_STATE 2)]),
     by decide +kernel⟩,
   ⟨someClosed, 31024, (resetWith [(fun s => (({ s with clock := { s.clock with leaveAt := some 30000 } }.set Fld.CLOCK_POWER_STATE powerStandby).set
     Fld.CLOCK_POWER_LEAVING 1).setPeriod s.activeBank 0)]), by decide +kernel⟩⟩

theorem witness_CommitRequestsAndFrameSettings :
    (∃ (p : Path) (v : Word) (s : State), Live s ∧ s.pathOpen p 0 = true ∧ s.expert 0 = false ∧ s.locked p 0 = false ∧ bitAt v 0 = true ∧
      (s.commit.sets.any (·.bound) = true ∨ bitAt v 40 = true ∧ ctxPending s = true)) ∧
    (∃ (p : Path) (v : Word) (s : State), Live s ∧ s.pathOpen p 0 = true ∧ s.expert 0 = false ∧ s.locked p 0 = false ∧ bitAt v 0 = true ∧
      s.commit.sets.any (·.bound) = false ∧ (bitAt v 40 = true → ctxPending s = false) ∧ (bitAt v 40 = true ∨ bitAt v 36 = true ∨ bitsOf v 28 8 ≠ 0)) ∧
    (∃ (p : Path) (v : Word) (s : State), Live s ∧ s.pathOpen p 0 = true ∧ s.expert 0 = false ∧ s.locked p 0 = false ∧ bitAt v 0 = true ∧
      s.commit.sets.any (·.bound) = false ∧ bitAt v 40 = false ∧ bitAt v 36 = false ∧ bitsOf v 28 8 = 0) ∧
    (∃ (p : Path) (v : Word) (s : State), Live s ∧ s.pathOpen p 0 = true ∧ s.expert 0 = false ∧ s.locked p 0 = false ∧ bitAt v 0 = false) ∧
    (∃ (p : Path) (g : Fin 8) (s : State), Live s ∧ s.pathOpen p 0x11 = true ∧ s.expert 0x11 = false) ∧
    (∃ (p : Path) (n : Fin 4) (v : Word) (s : State), Live s ∧ MayWriteBasic p 0x11 s ∧ (bitsOf v 39 9 < 5 ∨ 510 < bitsOf v 39 9)) ∧
    (∃ (p : Path) (n : Fin 4) (v : Word) (s : State), Live s ∧ MayWriteBasic p 0x11 s ∧ 5 ≤ bitsOf v 39 9 ∧ bitsOf v 39 9 ≤ 510) ∧
    (∃ (p : Path) (v : Word) (s : State), Live s ∧ MayWriteBasic p 0x11 s ∧ (∃ g, g < 8 ∧ (bitsOf v (4 * g) 4 = 0 ∨ 10 < bitsOf v (4 * g) 4))) ∧
    (∃ (p : Path) (v : Word) (s : State), Live s ∧ MayWriteBasic p 0x11 s ∧ (∀ g, g < 8 → 1 ≤ bitsOf v (4 * g) 4 ∧ bitsOf v (4 * g) 4 ≤ 10)) ∧
    (∃ (g : Fin 8) (front flip : Bool) (w : BitVec 7) (v : Word) (s : State), Live s ∧ writesOn s = false) ∧
    (∃ (g : Fin 8) (front flip : Bool) (w : BitVec 7) (v : Word) (s : State), Live s ∧ writesOn s = true) ∧
    (∃ (p : Path) (s : State), Live s ∧ MayWriteBasic p 0x10 s ∧ s.runState = combStopped ∧ s.shadowState = bankPassed) ∧
    (∃ (p : Path) (s : State), Live s ∧ MayWriteBasic p 0x10 s ∧ s.runState = combWaiting) :=
  ⟨⟨.ring, 0x1070000001, (resetWith [inCommit (fun c => { c with sets := sets.map fun x => { x with frozen := true } })]), by decide +kernel⟩,
   ⟨.ring, 0x1070000001, State.reset, by decide +kernel⟩,
   ⟨.ring, 1, State.reset, by decide +kernel⟩,
   ⟨.ring, 0xaaaaaaaa, State.reset, by decide +kernel⟩,
   ⟨.ring, 6, State.reset, by decide +kernel⟩,
   ⟨.ring, 1, 0xabaaaaaa, State.reset, by decide +kernel⟩,
   ⟨.ring, 0, 0x6ad3dd9ea169, State.reset, by decide +kernel⟩,
   ⟨.ring, 0xff8000000000, State.reset, by decide +kernel, by decide +kernel, ⟨0, by decide +kernel⟩⟩,
   ⟨.ring, 0xaaaaaaaa, State.reset, by decide +kernel⟩,
   ⟨7, false, false, 0, 0xaaaabaaa, State.reset, by decide +kernel⟩,
   ⟨6, true, true, 1, 0xff8000000000, (resetWith [(fun s => { s with clock := { s.clock with writesOn := true } })]), by decide +kernel⟩,
   ⟨.ring, (resetWith [(·.set Fld.COMB_STATUS_SHADOW_STATE 2)]), by decide +kernel⟩,
   ⟨.ring, (resetWith [(·.set Fld.COMB_STATUS_RUN_STATE 2)]), by decide +kernel⟩⟩

end Comb

namespace Led
def inGroup (g : Nat) (f : GroupState → GroupState) (s : State) : State := s.modGrp g f
def cellWord (tys : List (Nat × Nat)) (common plane dwell : Nat) : Word := packWord ((tys.map fun e => (24+3*e.1, 3, e.2)) ++ [(20,4,common),(16,4,plane),(4,12,dwell)])
def hot (s : State) : State := ([0,1,2,3,4,5,6,7].foldl (fun s g => (((s.set (Fld.GRP_X_DRIVE_DROP g) 250).set (Fld.GRP_BASIC_DROP g) 250).set (Fld.GRP_X_DRIVE_ISEG g) 159).set (Fld.GRP_LINE_USE_USE g) 0xFFFFFFFFFFFF) s).setCell 0 0 (packWord ((List.range 8).map (fun g => (24+3*g,3,1)) ++ [(4,12,4095)]) ||| 2) |>.set Fld.COMB_STATUS_RUN_STATE 1 |>.set Fld.COMB_STATUS_ACTIVE_BANK 0
def litAll (s : State) : State := { (s.setForce (Reg.GRP_LINE_USE 0) 0xFFFFFFFFFFFF).setForce (Reg.GRP_LINE_USE 3) 0xFFFFFFFFFFFF with pipe := { s.pipe with litNormal := (List.range 32).map (fun k => (k, 1023)) ++ (List.range 32).map (fun k => (1536 + k, 1023)), litSag := (List.range 32).map (fun k => (k, 1023)) ++ (List.range 32).map (fun k => (1536 + k, 1023)) } }

theorem witness_GroupSettingsAndEnables :
    (∃ (p : Path) (g : Fin 8) (s : State), Live s ∧ MayWriteBasic p (8 + g.val) s ∧ s.grpState g = grpOff) ∧
    (∃ (p : Path) (g : Fin 8) (s : State), Live s ∧ MayWriteBasic p (8 + g.val) s ∧ s.grpState g = grpStopping) ∧
    (∃ (p : Path) (g : Fin 8) (s : State), Live s ∧ MayWriteBasic p (8 + g.val) s ∧ s.grpState g = grpOn ∧ s.isLcd g = false ∧ s.get
      (Fld.GRP_X_DRIVE_RAMP_STEP g) = 0 ∧ s.get (Fld.GRP_X_DRIVE_DISCHARGE g) = 0) ∧
    (∃ (p : Path) (g : Fin 8) (s : State) (lcd : Bool), Live s ∧ MayWriteBasic p (8 + g.val) s ∧ lcd ≠ s.isLcd g ∧ s.grpState g ≠ grpOff) ∧
    (∃ (p : Path) (g : Fin 8) (s : State) (lcd : Bool), Live s ∧ MayWriteBasic p (8 + g.val) s ∧ lcd ≠ s.isLcd g ∧ s.grpState g = grpOff ∧ s.flag
      (Fld.GRP_STATUS_START_PENDING g) = false) ∧
    (∃ (p : Path) (g : Fin 8) (s : State) (c : BitVec 8), Live s ∧ MayWriteBasic p (8 + g.val) s ∧ guardOk ((s.nextTck.set (Fld.GRP_BASIC_DROP g)
      c.toNat).set (Fld.GRP_X_DRIVE_DROP g) c.toNat) = true) ∧
    (∃ (p : Path) (g : Fin 8) (s : State) (c : BitVec 8), Live s ∧ MayWriteBasic p (8 + g.val) s ∧ guardOk ((s.nextTck.set (Fld.GRP_BASIC_DROP g)
      c.toNat).set (Fld.GRP_X_DRIVE_DROP g) c.toNat) = false) ∧
    (∃ (p : Path) (g : Fin 8) (s : State) (c : BitVec 8), Live s ∧ MayWriteBasic p (8 + g.val) s ∧ nSWorst ((s.nextTck.set (Fld.GRP_BASIC_ISEG g)
      c.toNat).set (Fld.GRP_X_DRIVE_ISEG g) c.toNat) g * c.toNat ≤ clineLimit ∧ guardOk ((s.nextTck.set (Fld.GRP_BASIC_ISEG g) c.toNat).set
      (Fld.GRP_X_DRIVE_ISEG g) c.toNat) = true) ∧
    (∃ (p : Path) (g : Fin 8) (s : State) (c : BitVec 8), Live s ∧ MayWriteBasic p (8 + g.val) s ∧ (clineLimit < nSWorst ((s.nextTck.set
      (Fld.GRP_BASIC_ISEG g) c.toNat).set (Fld.GRP_X_DRIVE_ISEG g) c.toNat) g * c.toNat ∨ guardOk ((s.nextTck.set (Fld.GRP_BASIC_ISEG g) c.toNat).set
      (Fld.GRP_X_DRIVE_ISEG g) c.toNat) = false)) ∧
    (∃ (p : Path) (g : Fin 8) (s : State) (v : Word), Live s ∧ MayWriteBasic p (8 + g.val) s ∧ nSWritten (s.nextTck.setReg (Reg.GRP_LINE_USE g) v) g
      * larger (s.nextTck.setReg (Reg.GRP_LINE_USE g) v) (Fld.GRP_X_DRIVE_ISEG g) ≤ clineLimit ∧ guardOk (s.nextTck.setReg (Reg.GRP_LINE_USE g) v) =
      true) ∧
    (∃ (p : Path) (g : Fin 8) (s : State) (v : Word), Live s ∧ MayWriteBasic p (8 + g.val) s ∧ (clineLimit < nSWritten (s.nextTck.setReg
      (Reg.GRP_LINE_USE g) v) g * larger (s.nextTck.setReg (Reg.GRP_LINE_USE g) v) (Fld.GRP_X_DRIVE_ISEG g) ∨ guardOk (s.nextTck.setReg
      (Reg.GRP_LINE_USE g) v) = false)) ∧
    (∃ (p : Path) (g : Fin 8) (s : State) (v : Word), Live s ∧ MayWriteBasic p (8 + g.val) s ∧ bitsOf v 43 5 = bitsOf (s.reg (Reg.GRP_LCD g)) 43 5) ∧
    (∃ (p : Path) (g : Fin 8) (s : State) (v : Word), Live s ∧ MayWriteBasic p (8 + g.val) s ∧ bitsOf v 43 5 ≠ bitsOf (s.reg (Reg.GRP_LCD g)) 43 5 ∧
      s.grpState g ≠ grpOff) ∧
    (∃ (p : Path) (g : Fin 8) (s : State) (v : Word), Live s ∧ MayWriteBasic p (8 + g.val) s ∧ bitsOf v 43 5 ≠ bitsOf (s.reg (Reg.GRP_LCD g)) 43 5 ∧
      s.grpState g = grpOff ∧ s.flag (Fld.GRP_STATUS_START_PENDING g) = false) :=
  ⟨⟨.ring, 6, State.reset, by decide +kernel⟩,
   ⟨.waggle, 3, (resetWith [(·.set (Fld.GRP_STATUS_STATE 3) 2)]), by decide +kernel⟩,
   ⟨.ring, 7, (resetWith [(·.set (Fld.GRP_STATUS_STATE 7) 1), (·.set (Fld.GRP_X_DRIVE_RAMP_STEP 7) 0), (·.set (Fld.GRP_X_DRIVE_DISCHARGE 7) 0)]),
     by decide +kernel⟩,
   ⟨.ring, 7, (resetWith [(·.set (Fld.GRP_STATUS_STATE 7) 1)]), true, by decide +kernel⟩,
   ⟨.ring, 4, State.reset, true, by decide +kernel⟩,
   ⟨.ring, 7, State.reset, 8, by decide +kernel⟩,
   ⟨.ring, 0, (resetWith [hot]), 0x14, by decide +kernel⟩,
   ⟨.ring, 7, State.reset, 8, by decide +kernel⟩,
   ⟨.ring, 0, (resetWith [hot]), 0x14, by decide +kernel⟩,
   ⟨.ring, 7, State.reset, 0xff0000ffff, by decide +kernel⟩,
   ⟨.ring, 0, (resetWith [hot]), 0x500000000000, by decide +kernel⟩,
   ⟨.ring, 4, State.reset, 0, by decide +kernel⟩,
   ⟨.ring, 7, (resetWith [(·.set (Fld.GRP_STATUS_STATE 7) 1)]), 0x500000000000, by decide +kernel⟩,
   ⟨.ring, 6, State.reset, 0xe37000000000, by decide +kernel⟩⟩

theorem witness_GroupRampsAndReports :
    (∃ (g : Fin 8) (s : State), Live s ∧ (s.grp g).phase = .ramp ∧ 2 ≤ s.get (Fld.GRP_STATUS_DAC_NOW g)) ∧
    (∃ (g : Fin 8) (s : State), Live s ∧ (s.grp g).phase ≠ .ramp) ∧
    (∃ (g : Fin 8) (s : State), Live s ∧ (s.grp g).phase = .discharge) ∧
    (∃ (g : Fin 8) (s : State), Live s ∧ (s.grp g).phase ≠ .discharge) ∧
    (∃ (g : Fin 8) (s : State), Live s ∧ (s.grpState g = grpOff ∨ s.grpState g = grpStopping)) ∧
    (∃ (g : Fin 8) (s : State), Live s ∧ s.grpState g = grpOn) ∧
    (∃ (g : Fin 8) (c : Fin 16) (s : State), Live s ∧ s.grpState g ≠ grpOn) ∧
    (∃ (g : Fin 8) (c : Fin 16) (s : State), Live s ∧ s.grpState g = grpOn) ∧
    (∃ (g : Fin 8) (lines : BitVec 32) (s : State), Live s ∧ (cellDrives s = false ∨ cellType (drivingCell s) g ≠ slotLed ∨ ledLit s g = false ∨
      s.get (Fld.GRP_STATUS_DAC_NOW g) = 0 ∨ lines = 0)) ∧
    (∃ (g : Fin 8) (lines : BitVec 32) (s : State), ∃ low, Live s ∧ low = lines.toNat &&& (bitsOf (encodedWord s g (cellCommon (drivingCell s))
      (cellPlane (drivingCell s))) 16 32 &&& (s.linesOn g / 65536)) ∧ cellDrives s = true ∧ cellType (drivingCell s) g = slotLed ∧ ledLit s g = true
      ∧ s.get (Fld.GRP_STATUS_DAC_NOW g) ≠ 0 ∧ low ≠ 0) :=
  ⟨⟨0, (resetWith [(·.set (Fld.GRP_STATUS_DAC_NOW 0) 3), (inGroup 0 fun x => { x with phase := .ramp, due := 5000, rampStep := 77 })]),
     by decide +kernel⟩,
   ⟨6, State.reset, by decide +kernel⟩,
   ⟨3, (resetWith [(inGroup 3 fun x => { x with phase := .discharge, due := 5000, rampStep := 77 })]), by decide +kernel⟩,
   ⟨6, State.reset, by decide +kernel⟩,
   ⟨6, State.reset, by decide +kernel⟩,
   ⟨0, (resetWith [(·.set (Fld.GRP_STATUS_STATE 0) 1)]), by decide +kernel⟩,
   ⟨6, 6, State.reset, by decide +kernel⟩,
   ⟨3, 1, (resetWith [(·.set (Fld.GRP_STATUS_STATE 3) 1)]), by decide +kernel⟩,
   ⟨6, 6, State.reset, by decide +kernel⟩,
   ⟨3, 9, (resetWith [(·.set (Fld.GRP_STATUS_STATE 3) 1), (·.set (Fld.GRP_STATUS_DAC_NOW 3) 1), (·.setCell 0 0 (cellWord
     [(0,1),(3,1),(7,2),(4,7),(6,7)] 0 0 100)), litAll, (·.set Fld.COMB_STATUS_RUN_STATE 1)]), 9, by decide +kernel⟩⟩

theorem witness_LcdBiasGenerator :
    (∃ (p : Path) (s : State), Live s ∧ MayWriteBasic p 0x13 s ∧ biasState s = biasOff) ∧
    (∃ (p : Path) (s : State), Live s ∧ MayWriteBasic p 0x13 s ∧ biasState s = biasStopping ∧ s.flag Fld.LCDB_STATUS_SAFE = false) ∧
    (∃ (p : Path) (s : State), Live s ∧ MayWriteBasic p 0x13 s ∧ biasState s = biasOn ∧ lcdGroupsOn s = []) ∧
    (∃ s : State, Live s ∧ biasState s ≠ biasStarting) ∧
    (∃ s : State, Live s ∧ biasState s ≠ biasOn) ∧
    (∃ s : State, Live s ∧ biasState s = biasStarting) ∧
    (∃ s : State, Live s ∧ biasState s = biasOn) ∧
    (∃ (v : BitVec 10) (s : State), Live s ∧ biasState s = biasStopping ∧ s.flag Fld.LCDB_STATUS_DISCHARGING = true ∧ v.toNat < 10) ∧
    (∃ (v : BitVec 10) (s : State), Live s ∧ 10 ≤ v.toNat) ∧
    (∃ (v : BitVec 10) (s : State), Live s ∧ s.tick < 192000000) ∧
    (∃ (p : Path) (b : BitVec 3) (v : BitVec 8) (s : State), Live s ∧ MayWriteBasic p 0x13 s ∧ b.toNat = s.get Fld.LCDB_BASIC_BIAS ∧ 2 ≤ b.toNat ∧
      b.toNat ≤ 5 ∧ 50 ≤ v.toNat ∧ v.toNat ≤ 240) ∧
    (∃ (p : Path) (b : BitVec 3) (v : BitVec 8) (s : State), Live s ∧ MayWriteBasic p 0x13 s ∧ (b.toNat < 2 ∨ 5 < b.toNat) ∧ (v.toNat < 50 ∨ 240 <
      v.toNat)) ∧
    (∃ (p : Path) (b : BitVec 3) (v : BitVec 8) (s : State), Live s ∧ MayWriteBasic p 0x13 s ∧ biasState s = biasOff ∧ b.toNat ≠ s.get
      Fld.LCDB_BASIC_BIAS ∧ 2 ≤ b.toNat ∧ b.toNat ≤ 5 ∧ 50 ≤ v.toNat ∧ v.toNat ≤ 240) :=
  ⟨⟨.ring, State.reset, by decide +kernel⟩,
   ⟨.ring, (resetWith [(·.set Fld.LCDB_STATUS_STATE 3), (·.set Fld.LCDB_STATUS_SAFE 0)]), by decide +kernel⟩,
   ⟨.ring, (resetWith [(·.set Fld.LCDB_STATUS_STATE 2)]), by decide +kernel⟩,
   ⟨State.reset, by decide +kernel⟩,
   ⟨State.reset, by decide +kernel⟩,
   ⟨(resetWith [(·.set Fld.LCDB_STATUS_STATE 1)]), by decide +kernel⟩,
   ⟨(resetWith [(·.set Fld.LCDB_STATUS_STATE 2)]), by decide +kernel⟩,
   ⟨2, (resetWith [(·.set Fld.LCDB_STATUS_STATE 3), (·.set Fld.LCDB_STATUS_DISCHARGING 1)]), by decide +kernel⟩,
   ⟨0x31, State.reset, by decide +kernel⟩,
   ⟨9, State.reset, by decide +kernel⟩,
   ⟨.ring, 4, 0x7c, State.reset, by decide +kernel⟩,
   ⟨.ring, 7, 5, State.reset, by decide +kernel⟩,
   ⟨.ring, 3, 0xf0, State.reset, by decide +kernel⟩⟩

end Led

namespace Strings
def inString (g : Nat) (f : StringState → StringState) (s : State) : State := s.modStr g f
def cellWord (tys : List (Nat × Nat)) (common plane dwell : Nat) : Word := packWord ((tys.map fun e => (24+3*e.1, 3, e.2)) ++ [(20,4,common),(16,4,plane),(4,12,dwell)])
def lit (s : State) : State := (((((((({ s with now := 0, comb := { s.comb with frameEnded := false, cellStart := 0 } } : State).set Fld.COMB_STATUS_RUN_STATE combRunning).set Fld.COMB_STATUS_CUR_CELL 0).set (Fld.STRING_STAT_STATE 0) 1).setCell 0 0 (cellWord [(0,1),(4,7)] 0 0 100)).setCell 0 1 (cellWord [(4,7)] 0 1 60 ||| 2)).set (Fld.STRING_CTRL_PLANES 0) 4).setForce (Reg.STRING_CTRL 0) (s.reg (Reg.STRING_CTRL 0) ||| (4#48 <<< 26))).modStr 0 fun x => { x with plane := some 1, planeStart := 0, lit := true }

theorem witness_StringSettingsAndEnables :
    (∃ (p : Path) (n : Fin 4) (s : State), Live s ∧ MayWriteBasic p 0x14 s ∧ s.strState n = grpOff) ∧
    (∃ (p : Path) (n : Fin 4) (s : State), Live s ∧ MayWriteBasic p 0x14 s ∧ s.strState n = grpStopping ∧ s.flag (Fld.STRING_STAT_SAFE n) = false) ∧
    (∃ (p : Path) (n : Fin 4) (s : State), Live s ∧ MayWriteBasic p 0x14 s ∧ s.strState n = grpOn ∧ s.flag (Fld.STRING_STAT_DARK n) = false ∧ s.get
      (Fld.STRING_STAT_IREF_NOW n) ≠ 0) ∧
    (∃ (p : Path) (n : Fin 4) (s : State) (i : BitVec 8) (r : BitVec 9), Live s ∧ MayWriteBasic p 0x14 s ∧ 10 * r.toNat ≤ 200 * i.toNat ∧ 200 *
      i.toNat ≤ 350 * r.toNat ∧ 50 ≤ r.toNat ∧ r.toNat ≤ 500 ∧ guardOk ((s.set (Fld.STRING_CTRL_IREF n) i.toNat).set (Fld.STRING_CTRL_RSNS n)
      r.toNat) = true) ∧
    (∃ (p : Path) (n : Fin 4) (s : State) (i : BitVec 8) (r : BitVec 9), Live s ∧ MayWriteBasic p 0x14 s ∧ (200 * i.toNat < 10 * r.toNat ∨ 350 *
      r.toNat < 200 * i.toNat ∨ r.toNat < 50 ∨ 500 < r.toNat)) ∧
    (∃ (p : Path) (n : Fin 4) (s : State) (v k : BitVec 10), Live s ∧ MayWriteBasic p 0x14 s ∧ guardOk ((s.set (Fld.STRING_SUP_VLOW n) v.toNat).set
      (Fld.STRING_SUP_K n) k.toNat) = true) ∧
    (∃ (p : Path) (n : Fin 4) (s : State) (v k : BitVec 10), Live s ∧ MayWriteBasic p 0x14 s ∧ guardOk ((s.set (Fld.STRING_SUP_VLOW n) v.toNat).set
      (Fld.STRING_SUP_K n) k.toNat) = false) ∧
    (∃ (p : Path) (n : Fin 4) (s : State) (v : BitVec 6), Live s ∧ s.pathOpen p 0x14 = true ∧ s.expert 0x14 = true ∧ guardOk (s.set
      (Fld.STRING_X_SEQ_HMARGIN n) v.toNat) = true) ∧
    (∃ (p : Path) (n : Fin 4) (s : State) (v : BitVec 6), Live s ∧ s.pathOpen p 0x14 = true ∧ s.expert 0x14 = true ∧ guardOk (s.set
      (Fld.STRING_X_SEQ_HMARGIN n) v.toNat) = false) :=
  ⟨⟨.ring, 3, State.reset, by decide +kernel⟩,
   ⟨.ring, 3, (resetWith [(·.set (Fld.STRING_STAT_STATE 3) 2), (·.set (Fld.STRING_STAT_SAFE 3) 0)]), by decide +kernel⟩,
   ⟨.ring, 2, (resetWith [(·.set (Fld.STRING_STAT_STATE 2) 1), (·.set (Fld.STRING_STAT_IREF_NOW 2) 7)]), by decide +kernel⟩,
   ⟨.ring, 1, State.reset, 0x7c, 0xa0, by decide +kernel⟩,
   ⟨.ring, 3, State.reset, 1, 0xf, by decide +kernel⟩,
   ⟨.ring, 3, State.reset, 1, 0xf, by decide +kernel⟩,
   ⟨.waggle, 3, (resetWith [(·.set (Fld.STRING_CTRL_IREF 3) 100)]), 7, 0x3ff, by decide +kernel⟩,
   ⟨.ring, 3, (resetWith [(·.setReg 0x1407 1)]), 9, by decide +kernel⟩,
   ⟨.ring, 3, (resetWith [(·.set (Fld.STRING_CTRL_IREF 3) 100), (·.set (Fld.STRING_SUP_K 3) 1000), (·.setReg 0x1407 1)]), 0x3f, by decide +kernel⟩⟩

theorem witness_StringRampsSamplesAndFaults :
    (∃ (n : Fin 4) (s : State), Live s ∧ s.strState n ≠ grpOff ∧ s.get (Fld.STRING_STAT_IREF_NOW n) < stringGoal s n) ∧
    (∃ (n : Fin 4) (s : State), Live s ∧ s.strState n ≠ grpOff ∧ stringGoal s n < s.get (Fld.STRING_STAT_IREF_NOW n) ∧ 2 ≤ s.get
      (Fld.STRING_STAT_IREF_NOW n)) ∧
    (∃ (n : Fin 4) (s : State), Live s ∧ (s.strState n = grpOff ∨ s.get (Fld.STRING_STAT_IREF_NOW n) = stringGoal s n)) ∧
    (∃ (n : Fin 4) (s : State), Live s ∧ (s.str n).phase = .discharge ∧ 2 ≤ s.get (Fld.STRING_STAT_IH_NOW n)) ∧
    (∃ (n : Fin 4) (s : State), Live s ∧ (s.str n).phase = .discharge ∧ s.get (Fld.STRING_STAT_IH_NOW n) ≤ 1) ∧
    (∃ (n : Fin 4) (s : State), Live s ∧ (s.str n).phase ≠ .discharge) ∧
    (∃ (n : Fin 4) (s : State), Live s) ∧
    (∃ (n : Fin 4) (s : State), Live s ∧ s.get (Fld.STRING_STAT_IREF_NOW n) = 0) ∧
    (∃ (n : Fin 4) (s : State), Live s ∧ s.get (Fld.STRING_STAT_IREF_NOW n) ≠ 0) ∧
    (∃ (n : Fin 4) (s : State) (mv : Nat) (lamps : List Nat), Live s ∧ (s.str n).plane = none) ∧
    (∃ (n : Fin 4) (s : State) (mv : Nat) (lamps : List Nat) (b hold left : Nat), Live s ∧ (s.str n).plane = some b ∧ planeHold s n = some (hold,
      left) ∧ (s.str n).lit = true ∧ 128 ≤ hold) :=
  ⟨⟨0, (resetWith [(·.set (Fld.STRING_CTRL_IREF 0) 7), lit]), by decide +kernel⟩,
   ⟨0, (resetWith [(·.set (Fld.STRING_STAT_IREF_NOW 0) 7), lit]), by decide +kernel⟩,
   ⟨3, State.reset, by decide +kernel⟩,
   ⟨2, (resetWith [(·.set (Fld.STRING_STAT_IH_NOW 2) 7), (inString 2 fun x => { x with phase := .discharge, due := 50 })]), by decide +kernel⟩,
   ⟨0, (resetWith [(inString 0 fun x => { x with phase := .discharge, due := 50 })]), by decide +kernel⟩,
   ⟨2, State.reset, by decide +kernel⟩,
   ⟨2, State.reset, by decide +kernel⟩,
   ⟨3, State.reset, by decide +kernel⟩,
   ⟨2, (resetWith [(·.set (Fld.STRING_STAT_IREF_NOW 2) 1)]), by decide +kernel⟩,
   ⟨3, State.reset, 400, [1], by decide +kernel⟩,
   ⟨0, (resetWith [lit]), 1466, [0], 1, 400, 400, by decide +kernel⟩⟩

end Strings

namespace Keys
def inKlock (f : KlockState → KlockState) (s : State) : State := { s with klock := f s.klock }
def inEvents (f : EventState → EventState) (s : State) : State := { s with events := f s.events }
def inCombo (n : Nat) (f : ComboState → ComboState) (s : State) : State := inKlock (fun k => { k with combos := k.combos.setIfInBounds n (f (k.combos.getD n {})) }) s
def keyEvent : Ev := ⟨5, 0x100000000007, 9⟩
def lastEvent : Ev := ⟨6, 0xE00000000007, 0xFFFFFFFFFFFF⟩
def firstAction : ComboAction := ⟨900, 1, 2⟩
def lastAction : ComboAction := ⟨90000, 3, 2⟩

theorem witness_KeySettingsEntriesAndTicks :
    (∃ (p : Path) (g : Fin 8) (v : Word) (s : State), Live s ∧ MayWriteBasic p 0x18 s ∧ bitsOf v 42 6 = 0) ∧
    (∃ (p : Path) (g : Fin 8) (v : Word) (s : State), Live s ∧ MayWriteBasic p 0x18 s ∧ bitsOf v 42 6 ≠ 0) ∧
    (∃ (p : Path) (n : Fin 8) (v : Word) (s : State), Live s ∧ MayWriteBasic p 0x18 s ∧ profileBad (bitsOf v 40 8) (bitsOf v 32 8) (bitsOf v 30 2)
      (bitsOf v 22 8) (bitsOf v 16 6) (bitsOf v 8 8) = true) ∧
    (∃ (p : Path) (n : Fin 8) (v : Word) (s : State), Live s ∧ MayWriteBasic p 0x18 s ∧ profileBad (bitsOf v 40 8) (bitsOf v 32 8) (bitsOf v 30 2)
      (bitsOf v 22 8) (bitsOf v 16 6) (bitsOf v 8 8) = false) ∧
    (∃ (i : Fin 4096) (v : Word) (s : State), Live s ∧ s.heldInReset 0x18 = false ∧ s.get Fld.CLOCK_POWER_STATE ≠ 3 ∧ bitAt v 29 = true) ∧
    (∃ (i : Fin 4096) (v : Word) (s : State), Live s ∧ s.heldInReset 0x18 = false ∧ s.get Fld.CLOCK_POWER_STATE ≠ 3 ∧ bitAt v 29 = false) ∧
    (∃ s : State, Live s ∧ s.heldInReset 0x18 = false ∧ s.tick < 192000000) :=
  ⟨⟨.waggle, 7, 8, State.reset, by decide +kernel⟩,
   ⟨.ring, 6, 0xff96ec334090, State.reset, by decide +kernel⟩,
   ⟨.waggle, 7, 8, State.reset, by decide +kernel⟩,
   ⟨.ring, 4, 0xe8f8bb11a93e, State.reset, by decide +kernel⟩,
   ⟨1842, 0x27ff0a01, State.reset, by decide +kernel⟩,
   ⟨1833, 0x500500900b, State.reset, by decide +kernel⟩,
   ⟨State.reset, by decide +kernel⟩⟩

theorem witness_EventQueueEntersAndLeaves :
    (∃ (e : Ev) (r : List Ev) (s : State), Live s ∧ s.events.waiting = e :: r ∧ (s.get Fld.EVENT_BASIC_TYPE_MASK).testBit (bitsOf e.word 45 3) =
      false) ∧
    (∃ (e : Ev) (r : List Ev) (s : State), Live s ∧ s.events.waiting = e :: r ∧ (s.get Fld.EVENT_BASIC_TYPE_MASK).testBit (bitsOf e.word 45 3) = true
      ∧ s.events.queued.length + s.events.flight.length < 256) ∧
    (∃ (e : Ev) (r : List Ev) (s : State), Live s ∧ s.events.waiting = e :: r ∧ (s.get Fld.EVENT_BASIC_TYPE_MASK).testBit (bitsOf e.word 45 3) = true
      ∧ 256 ≤ s.events.queued.length + s.events.flight.length) ∧
    (∃ (e : Ev) (r : List Ev) (s : State), Live s ∧ s.late = [] ∧ s.heldInReset 0x1A = false ∧ s.get Fld.CLOCK_POWER_STATE ≠ 3 ∧ s.events.queued = e
      :: r) ∧
    (∃ s : State, Live s ∧ s.late = [] ∧ s.heldInReset 0x1A = false ∧ s.get Fld.CLOCK_POWER_STATE ≠ 3 ∧ s.events.queued = []) :=
  ⟨⟨{ time := 6, word := 0xe00000000007#48, ext := 0xffffffffffff#48 }, [], (resetWith [inEvents (fun e => { e with waiting := [lastEvent] }), (·.set
     Fld.EVENT_BASIC_TYPE_MASK 1)]), by decide +kernel⟩,
   ⟨{ time := 6, word := 0xe00000000007#48, ext := 0xffffffffffff#48 }, [], (resetWith [inEvents (fun e => { e with waiting := [lastEvent] })]),
     by decide +kernel⟩,
   ⟨{ time := 6, word := 0xe00000000007#48, ext := 0xffffffffffff#48 }, [], (resetWith [inEvents (fun e => { e with waiting := [lastEvent] }),
     inEvents (fun e => { e with flight := List.replicate 200 (3, keyEvent), queued := List.replicate 56 keyEvent })]), by decide +kernel⟩,
   ⟨{ time := 6, word := 0xe00000000007#48, ext := 0xffffffffffff#48 }, [], (resetWith [inEvents (fun e => { e with queued := [lastEvent] })]),
     by decide +kernel⟩,
   ⟨State.reset, by decide +kernel⟩⟩

theorem witness_KeyLockAndCombinations :
    (∃ (p : Path) (on : Bool) (s : State), Live s ∧ MayWriteBasic p 0x1B s ∧ on = s.flag Fld.KLOCK_CTRL_LOCK) ∧
    (∃ (p : Path) (on : Bool) (s : State), Live s ∧ MayWriteBasic p 0x1B s ∧ on ≠ s.flag Fld.KLOCK_CTRL_LOCK) ∧
    (∃ (p : Path) (s : State), Live s ∧ s.pathOpen p 0x1B = true ∧ s.expert 0x1B = false) ∧
    (∃ (p : Path) (k : Fin 3) (v : Word) (s : State), Live s ∧ s.pathOpen p 0x1B = true ∧ s.expert 0x1B = false ∧ s.flag Fld.KLOCK_STATUS_SEALED =
      true) ∧
    (∃ (p : Path) (k : Fin 3) (v : Word) (s : State), Live s ∧ s.pathOpen p 0x1B = true ∧ s.expert 0x1B = false ∧ s.flag Fld.KLOCK_STATUS_SEALED =
      false ∧ k = 0) ∧
    (∃ (p : Path) (k : Fin 3) (v : Word) (s : State), Live s ∧ s.pathOpen p 0x1B = true ∧ s.expert 0x1B = false ∧ s.flag Fld.KLOCK_STATUS_SEALED =
      false ∧ k = 1) ∧
    (∃ (p : Path) (k : Fin 3) (v : Word) (s : State), Live s ∧ s.pathOpen p 0x1B = true ∧ s.expert 0x1B = false ∧ s.flag Fld.KLOCK_STATUS_SEALED =
      false ∧ k = 2 ∧ bitsOf v 0 4 ≤ 8) ∧
    (∃ (p : Path) (k : Fin 3) (v : Word) (s : State), Live s ∧ s.pathOpen p 0x1B = true ∧ s.expert 0x1B = false ∧ s.flag Fld.KLOCK_STATUS_SEALED =
      false ∧ k = 2 ∧ 8 < bitsOf v 0 4) ∧
    (∃ (p : Path) (n : Fin 4) (v : Word) (s : State), Live s ∧ MayWriteBasic p 0x1B s ∧ s.flag Fld.KLOCK_STATUS_SEALED = true) ∧
    (∃ (p : Path) (n : Fin 4) (v : Word) (s : State), Live s ∧ MayWriteBasic p 0x1B s ∧ s.flag Fld.KLOCK_STATUS_SEALED = false ∧ comboDistinct v
      (s.reg (Reg.KLOCK_COMBO_CTRL n)) = true) ∧
    (∃ (p : Path) (n : Fin 4) (v : Word) (s : State), Live s ∧ MayWriteBasic p 0x1B s ∧ s.flag Fld.KLOCK_STATUS_SEALED = false ∧ (bitsOf v 34 8 < 10
      ∨ 250 < bitsOf v 34 8 ∨ bitsOf v 44 2 = 3)) ∧
    (∃ (p : Path) (v : Word) (s : State), Live s ∧ MayWriteBasic p 0x1B s ∧ (bitsOf v 26 6 = 0 ∨ bitsOf v 8 8 < 10 ∨ bitsOf v 0 8 = 0)) ∧
    (∃ (p : Path) (v : Word) (s : State), Live s ∧ MayWriteBasic p 0x1B s ∧ bitsOf v 26 6 ≠ 0 ∧ 10 ≤ bitsOf v 8 8 ∧ bitsOf v 0 8 ≠ 0) ∧
    (∃ s : State, Live s ∧ 0 < s.get Fld.KLOCK_STATUS_SEQ_POS ∧ s.get Fld.KLOCK_BASIC_GAP * 10 < s.klock.gapTicks) ∧
    (∃ s : State, Live s ∧ (s.get Fld.KLOCK_STATUS_SEQ_POS = 0 ∨ s.klock.gapTicks ≤ s.get Fld.KLOCK_BASIC_GAP * 10)) ∧
    (∃ s : State, Live s ∧ s.flag Fld.KLOCK_STATUS_LOCKOUT = true ∧ s.klock.lockout = 0) ∧
    (∃ s : State, Live s ∧ (s.flag Fld.KLOCK_STATUS_LOCKOUT = false ∨ s.klock.lockout ≠ 0)) ∧
    (∃ s : State, Live s ∧ (∀ n : Fin 4, comboDue s n = false)) ∧
    (∃ (n : Fin 4) (s : State), Live s ∧ comboDue s n = true ∧ (∀ m : Fin 4, m ≠ n → comboDue s m = false)) ∧
    (∃ (a : ComboAction) (r : List ComboAction) (s : State), s.clock.coreStopped = false ∧ s.klock.actions = a :: r ∧ a.action = 1) ∧
    (∃ (a : ComboAction) (r : List ComboAction) (s : State), s.clock.coreStopped = false ∧ s.klock.actions = a :: r ∧ a.action = 3 ∧ s.inHold =
      false) ∧
    (∃ (u : Nat) (s : State), s.clock.coreStopped = false ∧ s.klock.panelUntil = some u) :=
  ⟨⟨.waggle, false, State.reset, by decide +kernel⟩,
   ⟨.ring, true, State.reset, by decide +kernel⟩,
   ⟨.ring, State.reset, by decide +kernel⟩,
   ⟨.waggle, 2, 8, (resetWith [(·.set Fld.KLOCK_STATUS_SEALED 1)]), by decide +kernel⟩,
   ⟨.ring, 0, 0x5000901, State.reset, by decide +kernel⟩,
   ⟨.ring, 1, 0x4000901, State.reset, by decide +kernel⟩,
   ⟨.waggle, 2, 0x7ff0a01, State.reset, by decide +kernel⟩,
   ⟨.ring, 2, 0x500500900b, State.reset, by decide +kernel⟩,
   ⟨.waggle, 3, 8, (resetWith [(·.set Fld.KLOCK_STATUS_SEALED 1)]), by decide +kernel⟩,
   ⟨.waggle, 3, 0x7ff0a01, State.reset, by decide +kernel⟩,
   ⟨.ring, 3, 0x5000901, State.reset, by decide +kernel⟩,
   ⟨.ring, 9, State.reset, by decide +kernel⟩,
   ⟨.ring, 0x7ff0a01, State.reset, by decide +kernel⟩,
   ⟨(resetWith [(·.set Fld.KLOCK_STATUS_SEQ_POS 3), inKlock (fun k => { k with gapTicks := 5000 })]), by decide +kernel⟩,
   ⟨State.reset, by decide +kernel⟩,
   ⟨(resetWith [(·.set Fld.KLOCK_STATUS_LOCKOUT 1)]), by decide +kernel⟩,
   ⟨State.reset, by decide +kernel⟩,
   ⟨State.reset, by decide +kernel⟩,
   ⟨0, (resetWith [inCombo 0 (fun c => { c with armed := true, timer := some 900 })]), by decide +kernel⟩,
   ⟨{ due := 900, action := 1, combo := 2 }, [], (resetWith [inKlock (fun k => { k with actions := [firstAction] })]), by decide +kernel⟩,
   ⟨{ due := 90000, action := 3, combo := 2 }, [], (resetWith [inKlock (fun k => { k with actions := [lastAction] })]), by decide +kernel⟩,
   ⟨700, (resetWith [inKlock (fun k => { k with panelUntil := some 700 })]), by decide +kernel⟩⟩

end Keys

namespace Ring
def inPort (x : Nat) (f : PortState → PortState) (s : State) : State := s.modPort x f
def inRing (f : RingState → RingState) (s : State) : State := { s with ring := f s.ring }
def sealed (w : Word) : Word := withBits w 0 8 (crc8 ((wordBytes w).take 5)).toNat
def linkWord (letter : Nat) : Word := sealed (packWord [(44,4,1),(43,1,letter),(42,1,1),(32,7,3),(25,7,9)])
def p1 : Packet := mkPacket 5 9 planeControl 3 7 [1,2]
def p2 : Packet := mkPacket 9 5 planeData 1 7 [1,2]
def p3 : Packet := mkPacket 9 5 planeControl 1 0 []
def p5 : Packet := mkPacket 12 5 planeManagement 1 3 [4,5,6,7]
def aligned : State := resetWith [(·.set (Fld.RING_STATUS_PORT_STATE 1) 1), (·.set Fld.UPDATE_STATUS_MC_READY 1), (·.set Fld.HIVE_ALIGN_STATE 3)]
def forwarding (ms : List (State → State)) : State := resetWith ([(·.set (Fld.RING_STATUS_PORT_STATE 1) 1), (·.set (Fld.RING_STATUS_LINK 1) 2), putWrap 1,
  (·.set Fld.UPDATE_STATUS_MC_READY 1), (·.set Fld.HIVE_ROLE_ADDR 9), (·.elapse 300)] ++ ms)

theorem witness_MaintenanceSetsGoOut :
    (∃ (x : Port) (s : State), ∃ due, Live s ∧ portLives s (portNo x) = true ∧ due = dueAt (s.port (portNo x)).lswDue 1920 s.now) ∧
    (∃ (x : Port) (s : State) (sub : BitVec 8) (due : Nat), Live s ∧ portLives s (portNo x) = true ∧ due = dueAt (s.port (portNo x)).timeDue 8192
      s.now ∧ dueBy (s.port (portNo x)).lswDue 1920 (wordBoundary s (portNo x) due) = false) ∧
    (∃ (x : Port) (s : State) (sub : BitVec 8) (due : Nat), Live s ∧ portLives s (portNo x) = true ∧ due = dueAt (s.port (portNo x)).timeDue 8192
      s.now ∧ dueBy (s.port (portNo x)).lswDue 1920 (wordBoundary s (portNo x) due) = true) ∧
    (∃ (x : Port) (s : State) (sub : BitVec 8) (u : State), Live s ∧ portLives s (portNo x) = true ∧ (s.timeState = timeSource ∨ s.timeState =
      timeAligned) ∧ s.tick < ticksPerSecond ∧ s.seconds < 4294967296 ∧ u = s.elapse (s.toNextGrid 1920000 (s.port (portNo x)).epochDue)) :=
  ⟨⟨.b, (resetWith [(·.set (Fld.RING_STATUS_PORT_STATE 1) 1), (·.set Fld.UPDATE_STATUS_MC_READY 1)]), 0, by decide +kernel⟩,
   ⟨.b, (resetWith [(·.set (Fld.RING_STATUS_PORT_STATE 1) 1), (·.set Fld.UPDATE_STATUS_MC_READY 1)]), 0, 0, by decide +kernel⟩,
   ⟨.b, (resetWith [(·.set (Fld.RING_STATUS_PORT_STATE 1) 1), (·.set Fld.UPDATE_STATUS_MC_READY 1), inPort 1 (fun q => { q with lswDue := some 0 }),
     (·.elapse 2000)]), 0, 2000, by decide +kernel⟩,
   ⟨.b, aligned, 0, (aligned.elapse (aligned.toNextGrid 1920000 (aligned.port (portNo .b)).epochDue)), by decide +kernel⟩⟩

theorem witness_ReceiveLinksTrainAndFall :
    (∃ (x : Port) (s : State), Live s ∧ portLives s (portNo x) = true ∧ s.link (portNo x) = linkDown) ∧
    (∃ (x : Port) (w : Word) (s : State) (n : BitVec 12), Live s ∧ portLives s (portNo x) = true ∧ s.link (portNo x) = linkTraining ∧ (bitsOf w 44 4
      ≠ 1 ∨ bitsOf w 0 8 ≠ (crc8 ((wordBytes w).take 5)).toNat)) ∧
    (∃ (x : Port) (w : Word) (s : State), Live s ∧ portLives s (portNo x) = true ∧ s.link (portNo x) = linkTraining ∧ bitsOf w 44 4 = 1 ∧ bitsOf w 0
      8 = (crc8 ((wordBytes w).take 5)).toNat ∧ bitsOf w 43 1 = portNo x) ∧
    (∃ (x : Port) (w : Word) (s : State), Live s ∧ portLives s (portNo x) = true ∧ s.link (portNo x) = linkTraining ∧ bitsOf w 44 4 = 1 ∧ bitsOf w 0
      8 = (crc8 ((wordBytes w).take 5)).toNat ∧ bitsOf w 43 1 ≠ portNo x ∧ 2 ≤ (s.port (portNo x)).lswRun) ∧
    (∃ (x : Port) (w : Word) (s : State), Live s ∧ portLives s (portNo x) = true ∧ s.link (portNo x) = linkUp ∧ bitsOf w 44 4 = 1 ∧ bitsOf w 0 8 =
      (crc8 ((wordBytes w).take 5)).toNat ∧ bitsOf w 43 1 ≠ portNo x) ∧
    (∃ (x : Port) (s : State), ∃ a, Live s ∧ s.link (portNo x) = linkUp ∧ (s.port (portNo x)).lastLsw = some a) ∧
    (∃ (x : Port) (s : State), Live s ∧ s.link (portNo x) = linkUp) ∧
    (∃ (x : Port) (a : Nat) (s : State), Live s ∧ (s.port (portNo x)).holdSince = some a ∧ s.timePort ≠ some (portNo x)) ∧
    (∃ (x : Port) (a : Nat) (s : State), Live s ∧ (s.port (portNo x)).holdSince = some a ∧ s.timePort = some (portNo x) ∧ s.onRing = true) :=
  ⟨⟨.b, (resetWith [(·.set (Fld.RING_STATUS_PORT_STATE 1) 1), (·.set Fld.UPDATE_STATUS_MC_READY 1)]), by decide +kernel⟩,
   ⟨.b, 0xc34b620000, (resetWith [(·.set (Fld.RING_STATUS_PORT_STATE 1) 1), (·.set (Fld.RING_STATUS_LINK 1) 1), (·.set Fld.UPDATE_STATUS_MC_READY
     1)]), 0x29, by decide +kernel⟩,
   ⟨.b, 0x1c03120000ea, (resetWith [(·.set (Fld.RING_STATUS_PORT_STATE 1) 1), (·.set (Fld.RING_STATUS_LINK 1) 1), (·.set Fld.UPDATE_STATUS_MC_READY
     1)]), by decide +kernel⟩,
   ⟨.a, linkWord 1, (resetWith [(·.set (Fld.RING_STATUS_PORT_STATE 0) 1), (·.set Fld.UPDATE_STATUS_MC_READY 1), (·.set (Fld.RING_STATUS_LINK 0) 1),
     inPort 0 (fun q => { q with lswRun := 2 })]), by decide +kernel⟩,
   ⟨.b, 0x1403120000f3, (resetWith [(·.set (Fld.RING_STATUS_PORT_STATE 1) 1), (·.set (Fld.RING_STATUS_LINK 1) 2), (·.set Fld.UPDATE_STATUS_MC_READY
     1)]), by decide +kernel⟩,
   ⟨.b, (resetWith [(·.set (Fld.RING_STATUS_LINK 1) 2), inPort 1 (fun q => { q with lastLsw := some 900, holdSince := some 700 })]), 900,
     by decide +kernel⟩,
   ⟨.b, (resetWith [(·.set (Fld.RING_STATUS_LINK 1) 2)]), by decide +kernel⟩,
   ⟨.b, 700, (resetWith [inPort 1 (fun q => { q with lastLsw := some 900, holdSince := some 700 })]), by decide +kernel⟩,
   ⟨.b, 700, (resetWith [(·.set Fld.HIVE_ALIGN_TIME_PORT 1), (·.set Fld.CLOCK_STATUS_CUR_SRC 2), (·.set Fld.HIVE_ALIGN_PORT_VALID 1), inPort 1 (fun q
     => { q with lastLsw := some 900, holdSince := some 700 })]), by decide +kernel⟩⟩

theorem witness_PacketsStartAndArrive :
    (∃ (x : Port) (s : State), ∃ k, ∃ r, Live s ∧ portLives s (portNo x) = true ∧ sends s.wrap (portNo x) = true ∧ (s.port (portNo x)).forward = k ::
      r ∧ pktPlane k = planeControl) ∧
    (∃ (x : Port) (s : State), ∃ a, ∃ b, Live s ∧ portLives s (portNo x) = true ∧ sends s.wrap (portNo x) = true ∧ (s.port (portNo x)).forward = [a,
      b] ∧ pktPlane a = planeData ∧ pktPlane b = planeManagement ∧ s.ring.own = []) ∧
    (∃ (x : Port) (s : State), Live s ∧ portLives s (portNo x) = true ∧ sends s.wrap (portNo x) = true ∧ (s.port (portNo x)).forward = [] ∧
      s.ring.own = []) ∧
    (∃ (x : Port) (k : Packet) (ago : BitVec 16) (s : State), Live s ∧ portLives s (portNo x) = true ∧ s.link (portNo x) = linkUp ∧ s.wrap ≠
      wrapListening ∧ s.now < s.ring.openedAt + ago.toNat) ∧
    (∃ (x : Port) (k : Packet) (ago : BitVec 16) (s : State), Live s ∧ portLives s (portNo x) = true ∧ s.link (portNo x) = linkUp ∧ s.wrap ≠
      wrapListening ∧ s.ring.openedAt + ago.toNat ≤ s.now ∧ (pktPlane k = planeData ∨ pktPlane k = planeControl ∨ pktPlane k = planeManagement) ∧
      reservedAddress (pktDest k) = false ∧ pktLen k ≤ 768 ∧ goesOn s (portNo x) k = false) ∧
    (∃ (x : Port) (k : Packet) (ago : BitVec 16) (s : State), ∃ c, Live s ∧ portLives s (portNo x) = true ∧ s.link (portNo x) = linkUp ∧ s.wrap ≠
      wrapListening ∧ s.ring.openedAt + ago.toNat ≤ s.now ∧ (pktPlane k = planeData ∨ pktPlane k = planeControl ∨ pktPlane k = planeManagement) ∧
      reservedAddress (pktDest k) = false ∧ pktLen k ≤ 768 ∧ goesOn s (portNo x) k = false ∧ k.payload.length = pktLen k ∧ c ≠ packetCrc k) ∧
    (∃ (x : Port) (k : Packet) (ago : BitVec 16) (s : State), ∃ y, ∃ copy, Live s ∧ portLives s (portNo x) = true ∧ s.link (portNo x) = linkUp ∧
      s.wrap ≠ wrapListening ∧ s.ring.openedAt + ago.toNat ≤ s.now ∧ (pktPlane k = planeData ∨ pktPlane k = planeControl ∨ pktPlane k =
      planeManagement) ∧ reservedAddress (pktDest k) = false ∧ pktLen k ≤ 768 ∧ goesOn s (portNo x) k = true ∧ forwardPort s (portNo x) = some y ∧
      copy = { k with payload := k.payload.take (pktLen k), aborts := true } ∧ idleFrom s y (s.now - ago.toNat + 48) = false ∧ queueWords s y
      (pktPlane k) + 1 + min (pktLen k) k.payload.length ≤ 1538) ∧
    (∃ (x : Port) (k : Packet) (ago : BitVec 16) (s : State), ∃ y, ∃ copy, Live s ∧ portLives s (portNo x) = true ∧ s.link (portNo x) = linkUp ∧
      s.wrap ≠ wrapListening ∧ s.ring.openedAt + ago.toNat ≤ s.now ∧ (pktPlane k = planeData ∨ pktPlane k = planeControl ∨ pktPlane k =
      planeManagement) ∧ reservedAddress (pktDest k) = false ∧ pktLen k ≤ 768 ∧ goesOn s (portNo x) k = true ∧ forwardPort s (portNo x) = some y ∧
      copy = { k with payload := k.payload.take (pktLen k), aborts := true } ∧ idleFrom s y (s.now - ago.toNat + 48) = true) ∧
    (∃ (x : Port) (k : Packet) (ago : BitVec 16) (s : State), Live s ∧ portLives s (portNo x) = true ∧ s.link (portNo x) = linkUp ∧ s.wrap ≠
      wrapListening ∧ s.ring.openedAt + ago.toNat ≤ s.now ∧ (pktPlane k = planeData ∨ pktPlane k = planeControl ∨ pktPlane k = planeManagement) ∧
      reservedAddress (pktDest k) = false ∧ pktLen k ≤ 768 ∧ k.payload.length = pktLen k ∧ s.isQueen = false ∧ pktSource k ≠ 0 ∧ pktSource k ≠ s.addr
      ∧ s.addr ≠ 0 ∧ pktDest k ≠ broadcast ∧ knownType (pktPlane k) (pktType k) = true ∧ deliveringPort s = some (portNo x) ∧ pktDest k = s.addr) ∧
    (∃ (x : Port) (k : Packet) (ago : BitVec 16) (s : State), ∃ y, Live s ∧ portLives s (portNo x) = true ∧ s.link (portNo x) = linkUp ∧ s.wrap ≠
      wrapListening ∧ s.ring.openedAt + ago.toNat ≤ s.now ∧ (pktPlane k = planeData ∨ pktPlane k = planeControl ∨ pktPlane k = planeManagement) ∧
      reservedAddress (pktDest k) = false ∧ pktLen k ≤ 768 ∧ k.payload.length = pktLen k ∧ s.isQueen = false ∧ pktSource k ≠ 0 ∧ pktSource k ≠ s.addr
      ∧ s.addr ≠ 0 ∧ pktDest k ≠ broadcast ∧ knownType (pktPlane k) (pktType k) = true ∧ deliveringPort s = some (portNo x) ∧ pktDest k ≠ s.addr ∧
      forwardPort s (portNo x) = some y ∧ idleFrom s y (s.now - ago.toNat + 48) = false ∧ queueWords s y (pktPlane k) + 1 + k.payload.length ≤ 1538) :=
  ⟨⟨.b, (resetWith [(·.set (Fld.RING_STATUS_PORT_STATE 1) 1), putWrap 1, (·.set Fld.UPDATE_STATUS_MC_READY 1), inPort 1 (fun q =>
     { q with forward := [p1, p3, p2] })]), { header := 0x0a2483007002#48, payload := [0x000000000001#48, 0x000000000002#48] },
     [{ header := 0x121481000000#48, payload := [] }, { header := 0x121441007002#48, payload := [0x000000000001#48, 0x000000000002#48] }],
     by decide +kernel⟩,
   ⟨.b, (resetWith [(·.set (Fld.RING_STATUS_PORT_STATE 1) 1), putWrap 1, (·.set Fld.UPDATE_STATUS_MC_READY 1), inPort 1 (fun q =>
     { q with forward := [p2, p5], wordAt := 400, sendEnd := 800, sending := some p5 })]),
     { header := 0x121441007002#48, payload := [0x000000000001#48, 0x000000000002#48], aborts := false },
     { header := 0x1814c1003004#48, payload := [0x000000000004#48, 0x000000000005#48, 0x000000000006#48, 0x000000000007#48], aborts := false },
     by decide +kernel⟩,
   ⟨.b, (resetWith [(·.set (Fld.RING_STATUS_PORT_STATE 1) 1), putWrap 1, (·.set Fld.UPDATE_STATUS_MC_READY 1)]), by decide +kernel⟩,
   ⟨.b, { header := 0xca1481000000#48, payload := [], aborts := false }, 5, (resetWith [(·.set (Fld.RING_STATUS_PORT_STATE 1) 1), (·.set
     (Fld.RING_STATUS_LINK 1) 2), putWrap 1, (·.set Fld.UPDATE_STATUS_MC_READY 1)]), by decide +kernel⟩,
   ⟨.b, { header := 0x121441007002#48, payload := [0x000000000001#48, 0x000000000002#48], aborts := false }, 0, (resetWith [(·.set
     (Fld.RING_STATUS_PORT_STATE 1) 1), (·.set (Fld.RING_STATUS_LINK 1) 2), putWrap 1, (·.set Fld.UPDATE_STATUS_MC_READY 1), (·.set
     Fld.HIVE_ROLE_ADDR 9)]), by decide +kernel⟩,
   ⟨.b, { header := 0x121441007002#48, payload := [0x000000000001#48, 0x000000000002#48], aborts := false }, 0, (resetWith [(·.set
     (Fld.RING_STATUS_PORT_STATE 1) 1), (·.set (Fld.RING_STATUS_LINK 1) 2), putWrap 1, (·.set Fld.UPDATE_STATUS_MC_READY 1), (·.set
     Fld.HIVE_ROLE_ADDR 9)]), 1, by decide +kernel⟩,
   ⟨.b, p5, 100, (forwarding [inPort 0 (fun q => { q with forward := [p1] })]), 0, { p5 with aborts := true }, by decide +kernel⟩,
   ⟨.b, p5, 100, (forwarding []), 0, { p5 with aborts := true }, by decide +kernel⟩,
   ⟨.b, { header := 0x121441007002#48, payload := [0x000000000001#48, 0x000000000002#48], aborts := false }, 0, (resetWith [(·.set
     (Fld.RING_STATUS_PORT_STATE 1) 1), (·.set (Fld.RING_STATUS_LINK 1) 2), putWrap 1, (·.set Fld.UPDATE_STATUS_MC_READY 1), (·.set
     Fld.HIVE_ROLE_ADDR 9)]), by decide +kernel⟩,
   ⟨.b, { header := 0x1814c1003004#48, payload := [0x000000000004#48, 0x000000000005#48, 0x000000000006#48, 0x000000000007#48], aborts := false }, 5,
     (resetWith [(·.set (Fld.RING_STATUS_PORT_STATE 1) 1), (·.set (Fld.RING_STATUS_LINK 1) 2), putWrap 1, (·.set Fld.UPDATE_STATUS_MC_READY 1),
     (·.set Fld.HIVE_ROLE_ADDR 9), inRing (fun r => { r with own := [p2] }), (·.elapse 1919999)]), 0, by decide +kernel⟩⟩

theorem witness_PortsWrapAndBypass :
    (∃ (p : Path) (x : Port) (s : State), Live s ∧ MayWriteBasic p (3 + portNo x) s ∧ s.portState (portNo x) = portOff) ∧
    (∃ (p : Path) (x : Port) (s : State), Live s ∧ MayWriteBasic p (3 + portNo x) s ∧ s.portState (portNo x) = portStopping) ∧
    (∃ (p : Path) (x : Port) (s : State), Live s ∧ MayWriteBasic p (3 + portNo x) s ∧ s.onRing = true ∧ s.timePort = some (portNo x)) ∧
    (∃ (p : Path) (x : Port) (s : State), Live s ∧ MayWriteBasic p (3 + portNo x) s ∧ s.onRing = false ∧ s.portState (portNo x) = portOn ∧ s.bypass ≠
      bypassClosed) ∧
    (∃ (p : Path) (v : Word) (s : State), Live s ∧ MayWriteBasic p 3 s ∧ 192000000 ≤ bitsOf v 0 28) ∧
    (∃ (p : Path) (v : Word) (s : State), Live s ∧ MayWriteBasic p 3 s ∧ bitsOf v 0 28 < 192000000 ∧ bothOn s = false) ∧
    (∃ s : State, Live s ∧ s.bypass = bypassClosed ∧ s.flag Fld.RINGA_BYPASS_INSERT = true ∧ waitsForTick s = false ∧ bothOn s = true ∧ s.isQueen =
      true) ∧
    (∃ s : State, Live s ∧ s.bypass = bypassOpening) ∧
    (∃ s : State, Live s ∧ s.bypass = bypassOpen ∧ s.flag Fld.RINGA_BYPASS_INSERT = false ∧ waitsForTick s = false) :=
  ⟨⟨.ring, .b, State.reset, by decide +kernel⟩,
   ⟨.ring, .a, (resetWith [(·.set (Fld.RING_STATUS_PORT_STATE 0) 2)]), by decide +kernel⟩,
   ⟨.ring, .a, (resetWith [(·.set Fld.CLOCK_STATUS_CUR_SRC 2), (·.set Fld.HIVE_ALIGN_PORT_VALID 1)]), by decide +kernel⟩,
   ⟨.ring, .b, (resetWith [(·.set (Fld.RING_STATUS_PORT_STATE 1) 1), (·.set Fld.RINGA_BYPASS_STATE 2)]), by decide +kernel⟩,
   ⟨.waggle, 0x677a7c9d5ff1, State.reset, by decide +kernel⟩,
   ⟨.ring, 0x5000003fffff, State.reset, by decide +kernel⟩,
   ⟨(resetWith [(·.set (Fld.RING_STATUS_PORT_STATE 1) 1), (·.set (Fld.RING_STATUS_PORT_STATE 0) 1), (·.set Fld.HIVE_STATUS_QUEEN 1), (·.set
     Fld.RINGA_BYPASS_INSERT 1)]), by decide +kernel⟩,
   ⟨(resetWith [(·.set Fld.RINGA_BYPASS_STATE 1)]), by decide +kernel⟩,
   ⟨(resetWith [(·.set Fld.RINGA_BYPASS_STATE 2)]), by decide +kernel⟩⟩

theorem witness_HiveTimeIsSetAndReceived :
    (∃ (p : Path) (v : BitVec 32) (s : State), Live s ∧ s.pathOpen p 5 = true ∧ s.locked p 5 = false ∧ s.expert 5 = false ∧ (s.timeState = timeSource
      ∨ s.timeState = timeFree)) ∧
    (∃ (p : Path) (v : BitVec 32) (s : State), Live s ∧ s.pathOpen p 5 = true ∧ s.locked p 5 = false ∧ s.expert 5 = false ∧ s.timeState ≠ timeSource
      ∧ s.timeState ≠ timeFree) ∧
    (∃ s : State, Live s ∧ s.tick < 192000000) ∧
    (∃ (x : Port) (w : Word) (sub : BitVec 8) (s : State), Live s ∧ portLives s (portNo x) = true ∧ s.link (portNo x) = linkUp ∧ bitsOf w 0 22 =
      0x3FFFFF) ∧
    (∃ (x : Port) (w : Word) (sub : BitVec 8) (s : State), ∃ dep, Live s ∧ portLives s (portNo x) = true ∧ s.link (portNo x) = linkUp ∧ bitsOf w 0 22
      ≠ 0x3FFFFF ∧ (s.port (portNo x)).departures.head? = some (bitsOf w 44 2, dep) ∧ s.flag (Fld.RING_LINK_MEASURED (portNo x)) = false ∧ s.timePort
      = none ∧ s.timeState = timeFree) ∧
    (∃ (x : Port) (w : Word) (s : State), Live s ∧ bitsOf w 0 8 ≠ (crc8 ((wordBytes w).take 5)).toNat) ∧
    (∃ (x : Port) (w : Word) (s : State), Live s ∧ portLives s (portNo x) = true ∧ s.link (portNo x) = linkUp ∧ bitsOf w 0 8 = (crc8 ((wordBytes
      w).take 5)).toNat ∧ bitAt w 8 = true ∧ s.timePort = some (portNo x) ∧ s.timeState = timeAligned ∧ timeGood s (portNo x) = true) :=
  ⟨⟨.ring, 6, State.reset, by decide +kernel⟩,
   ⟨.ring, 0x12c, (resetWith [(fun s => (((((((s.set Fld.HIVE_ALIGN_PORT_VALID 1).set (Fld.RING_LINK_MEASURED 0) 1).set Fld.HIVE_ALIGN_STATE 3).set
     (Fld.RING_STATUS_LINK 0) 2).set (Fld.RING_STATUS_PORT_STATE 0) 1).set Fld.UPDATE_STATUS_MC_READY 1).set Fld.HIVE_ALIGN_TIME_PORT 0).set
     (Fld.RING_STATUS_RCLK_HOLDOVER 0) 0)]), by decide +kernel⟩,
   ⟨State.reset, by decide +kernel⟩,
   ⟨.b, 0x5000003fffff, 0x80, (resetWith [(·.set (Fld.RING_STATUS_PORT_STATE 1) 1), (·.set (Fld.RING_STATUS_LINK 1) 2), (fun s => (((((((s.set
     Fld.HIVE_ALIGN_PORT_VALID 1).set (Fld.RING_LINK_MEASURED 0) 1).set Fld.HIVE_ALIGN_STATE 3).set (Fld.RING_STATUS_LINK 0) 2).set
     (Fld.RING_STATUS_PORT_STATE 0) 1).set Fld.UPDATE_STATUS_MC_READY 1).set Fld.HIVE_ALIGN_TIME_PORT 0).set (Fld.RING_STATUS_RCLK_HOLDOVER 0) 0)]),
     by decide +kernel⟩,
   ⟨.a, packWord [(46,2,1),(44,2,1),(0,22,50)], 0, (resetWith [(·.set (Fld.RING_STATUS_PORT_STATE 0) 1), (·.set Fld.UPDATE_STATUS_MC_READY 1), (·.set
     (Fld.RING_STATUS_LINK 0) 2), inPort 0 (fun q => { q with departures := [(1, 4194300), (0, 5)] })]), 4194300, by decide +kernel⟩,
   ⟨.b, 0x5000003ffbff, State.reset, by decide +kernel⟩,
   ⟨.b, 0x300003096f5c, (resetWith [(·.set (Fld.RING_STATUS_PORT_STATE 1) 1), (·.set (Fld.RING_STATUS_LINK 1) 2), (·.set Fld.UPDATE_STATUS_MC_READY
     1), (·.set Fld.HIVE_ALIGN_TIME_PORT 1), (·.set (Fld.RING_LINK_MEASURED 1) 1), (·.set Fld.HIVE_ALIGN_STATE 3), (·.set Fld.HIVE_ALIGN_PORT_VALID
     1)]), by decide +kernel⟩⟩

end Ring

namespace Hive
def inRing (f : RingState → RingState) (s : State) : State := { s with ring := f s.ring }
def inHive (f : HiveState → HiveState) (s : State) : State := { s with hive := f s.hive }
def heldFirst : Held := ⟨0, 5, mkPacket 3 9 1 3 5 [1]⟩
def heldLast : Held := ⟨9, 4095, mkPacket 9 3 1 1 4095 [1]⟩
def answerNow : Answer := ⟨mkPacket 3 9 planeManagement 0x23 5 [1], none⟩
def answerAll : Answer := ⟨mkPacket 127 9 planeManagement 0x23 5 [1], some 5⟩
def foc2 (k j : Nat) (f : State → State) (s : State) : State := if (s.regs.length + s.hive.acks.length) % k = j then f s else s
def join : Packet := mkPacket 127 0 planeControl 0x23 0 [5,6,(7<<<16)+3]
def writeRequest : Packet := mkPacket 9 3 planeManagement 2 7 [packWord [(32,8,1),(24,2,1),(0,14,0x1802)], 0x155]
def writeAll : Packet := mkPacket 127 3 planeManagement 2 7 [packWord [(32,8,1),(24,2,1),(0,14,0x1802)], 0x155]
def writeTwo : Packet := mkPacket 127 3 planeManagement 2 7 [packWord [(32,8,2),(24,2,1),(0,14,0x1802)], 0x155, 0x156]
def writeFrom : State := [putWrap 1, (·.set Fld.HIVE_ROLE_ADDR 9)].foldl (fun s m => m s) State.reset
def halfWritten : State := { State.reset with ring := { State.reset.ring with request := some ⟨writeTwo, true, 1, 0, []⟩ } }
def dataPacket (n : Nat) : Packet := mkPacket 9 3 planeData 1 n [packWord [(26,22,4194303)], 7]

theorem witness_QueenRoleLeavingAndCensus :
    (∃ (p : Path) (s : State), Live s ∧ MayWriteBasic p 5 s ∧ s.isQueen = false ∧ s.onRing = true) ∧
    (∃ (p : Path) (s : State), Live s ∧ MayWriteBasic p 5 s ∧ s.isQueen = false ∧ s.onRing = false ∧ liveClean s 0 = false ∧ liveClean s 1 = false) ∧
    (∃ (p : Path) (s : State), Live s ∧ MayWriteBasic p 5 s ∧ s.isQueen = true) ∧
    (∃ (p : Path) (s : State), Live s ∧ s.pathOpen p 5 = true ∧ s.expert 5 = false) ∧
    (∃ (n : Fin 388) (v : Word) (s : State), Live s ∧ s.get Fld.CLOCK_POWER_STATE ≠ 3 ∧ s.isQueen = false) ∧
    (∃ (n : Fin 388) (v : Word) (s : State), Live s ∧ s.get Fld.CLOCK_POWER_STATE ≠ 3 ∧ s.isQueen = true ∧ n.val % 4 = 0 ∧ bitsOf v 45 3 = 0 ∧
      (s.entState (n.val / 4) = entBound ∨ s.entState (n.val / 4) = entGone)) ∧
    (∃ (n : Fin 388) (v : Word) (s : State), Live s ∧ s.get Fld.CLOCK_POWER_STATE ≠ 3 ∧ s.isQueen = true ∧ (n.val % 4 ≠ 0 ∨ bitsOf v 45 3 ≠ 0 ∨
      s.entState (n.val / 4) = entPresent ∨ s.entState (n.val / 4) = entFree)) :=
  ⟨⟨.ring, (resetWith [(·.set Fld.CLOCK_STATUS_CUR_SRC 2)]), by decide +kernel⟩,
   ⟨.ring, State.reset, by decide +kernel⟩,
   ⟨.ring, (resetWith [(·.set Fld.HIVE_STATUS_QUEEN 1)]), by decide +kernel⟩,
   ⟨.ring, State.reset, by decide +kernel⟩,
   ⟨361, 0x872e6d2a03fa, State.reset, by decide +kernel⟩,
   ⟨36, 0xc143237b43f, (resetWith [(·.set Fld.HIVE_STATUS_QUEEN 1), inHive (fun h =>
     { h with census := [(20, packWord [(45,3,1)]), (36, packWord [(45,3,3)])] })]), by decide +kernel⟩,
   ⟨366, 0xecb0800587d8, (resetWith [(·.set Fld.HIVE_STATUS_QUEEN 1)]), by decide +kernel⟩⟩

theorem witness_PresenceJoiningAndLeaving :
    (∃ s : State, Live s ∧ s.isQueen = true ∧ MaySend broadcast s ∧ s.tick < 192000000) ∧
    (∃ (k : Packet) (r : List Packet) (s : State), Live s ∧ Arrived planeControl 8 k r s ∧ s.isQueen = false ∧ s.addr ≠ 0 ∧ bitsOf (pktWord k 0) 32
      16 = s.get Fld.HIVE_STATUS_EPOCH) ∧
    (∃ (due : Nat) (s : State), Live s ∧ s.hive.presentAt = some due ∧ MaySend s.queenOf s) ∧
    (∃ (k : Packet) (r : List Packet) (s : State), Live s ∧ Arrived planeControl 0x24 k r s ∧ s.isQueen = true ∧ s.bound (pktSource k) = true) ∧
    (∃ (a : Fin 97) (s : State), Live s ∧ s.isQueen = true ∧ s.bound a = true ∧ s.entState a ≠ entGone ∧ a.val ≠ s.addr ∧ s.get Fld.HIVE_ROLE_GONE_N
      ≤ Table.get (fun _ => 0) s.hive.silent a) ∧
    (∃ s : State, Live s ∧ s.addr = 0 ∧ s.timeState = timeAligned ∧ s.bypass = bypassOpen ∧ s.hive.beaconFrom.isSome = true ∧ s.isQueen = false ∧
      s.hive.joinSent = none ∧ s.wrap ≠ wrapIsolated) ∧
    (∃ (k : Packet) (r : List Packet) (s : State), Live s ∧ Arrived planeControl 0x23 k r s ∧ s.isQueen = true ∧ MaySend broadcast s ∧ boundTo s
      (k.payload.take 3) = none ∧ s.flag Fld.HIVE_ROLE_ADMIT = true) ∧
    (∃ (k : Packet) (r : List Packet) (s : State), ∃ a, Live s ∧ Arrived planeControl 0x23 k r s ∧ s.isQueen = true ∧ MaySend broadcast s ∧ boundTo s
      (k.payload.take 3) = none ∧ s.flag Fld.HIVE_ROLE_ADMIT = false ∧ freeAddress s = some a) ∧
    (∃ (k : Packet) (r : List Packet) (s : State), Live s ∧ Arrived planeControl 0x11 k r s ∧ sameUnit s.unitId (k.payload.take 3) = false) ∧
    (∃ (k : Packet) (r : List Packet) (s : State), Live s ∧ Arrived planeControl 0x11 k r s ∧ sameUnit s.unitId (k.payload.take 3) = true ∧ bitsOf
      (pktWord k 3) 41 7 ≠ 0 ∧ bitAt (pktWord k 3) 40 = true ∧ s.addr = 0 ∧ s.events.flight = []) ∧
    (∃ s : State, Live s ∧ s.flag Fld.HIVE_STATUS_LEAVING = true ∧ s.events.flight = [] ∧ s.hive.leaveSent = false ∧ MaySend s.queenOf s) ∧
    (∃ (k : Packet) (r : List Packet) (s : State), Live s ∧ Arrived planeControl 0x25 k r s ∧ s.isQueen = true ∧ s.bound (pktSource k) = true) :=
  ⟨⟨(resetWith [(·.set Fld.HIVE_ROLE_ADDR 9), (·.set Fld.HIVE_STATUS_QUEEN 1)]), by decide +kernel⟩,
   ⟨{ header := 0xfe0c88000001#48, payload := [0x030900372000#48], aborts := false }, [], (resetWith [putWrap 1, (·.set Fld.HIVE_ALIGN_STATE 1),
     (·.set Fld.RINGA_BYPASS_STATE 2), (·.set Fld.HIVE_STATUS_LEAVING 1), (·.set Fld.HIVE_ROLE_QUEEN_EN 1), (·.set Fld.HIVE_RX_HEAD 16380), foc2 4 1
     (fun s => (((s.set Fld.HIVE_STATUS_QUEEN 0).set Fld.HIVE_ROLE_ADDR 9).set Fld.HIVE_STATUS_EPOCH 777).withInbox [mkPacket 127 3 2 8 0 [packWord
     [(32,16,777),(16,16,55),(12,4,2)]]])]), by decide +kernel⟩,
   ⟨300, (resetWith [(·.set Fld.HIVE_ROLE_ADDR 9), inHive (fun h => { h with presentAt := some 300 })]), by decide +kernel⟩,
   ⟨{ header := 0x0624a4000001#48, payload := [0x501800000000#48] }, [], (resetWith [(·.set Fld.HIVE_STATUS_QUEEN 1), inHive (fun h =>
     { h with census := [(20, packWord [(45,3,1)]), (36, packWord [(45,3,3)])] }), (·.withInbox [mkPacket 3 9 2 0x24 0 [packWord
     [(44,4,5),(35,9,3)]]])]), by decide +kernel⟩,
   ⟨5, (resetWith [(·.set Fld.HIVE_STATUS_QUEEN 1), inHive (fun h => { h with census := [(20, packWord [(45,3,1)]), (36, packWord [(45,3,3)])] }),
     inHive (fun h => { h with silent := [(5,3),(9,3),(96,200)] })]), by decide +kernel⟩,
   ⟨(resetWith [(·.set Fld.HIVE_ALIGN_STATE 3), (·.set Fld.RINGA_BYPASS_STATE 2), inHive (fun h => { h with beaconFrom := some 3 })]),
     by decide +kernel⟩,
   ⟨join, [], (resetWith [putWrap 1, (·.set Fld.HIVE_ROLE_ADDR 9), (·.set Fld.HIVE_STATUS_QUEEN 1), (·.set Fld.HIVE_ROLE_ADMIT 1), (·.withInbox
     [join])]), by decide +kernel⟩,
   ⟨{ header := 0xfe00a3000003#48, payload := [0x00000000000f#48, 0x000000000006#48, 0x000000000007#48], aborts := false }, [], (resetWith [putWrap
     1, (·.set Fld.UPDATE_STATUS_MC_READY 1), (·.set Fld.HIVE_ALIGN_STATE 3), (·.set Fld.HIVE_STATUS_EPOCH 777), (·.set Fld.HIVE_MODE_CUR 3), (·.set
     Fld.HIVE_ROLE_QUEEN_ADDR 3), (·.set Fld.RINGA_BYPASS_STATE 2), (·.set Fld.HIVE_RX_TAIL 100), (·.set Fld.HIVE_GONE_DROPPED 4095), foc2 4 0 (fun s
     => ((((s.set Fld.HIVE_STATUS_QUEEN 1).set Fld.HIVE_ROLE_ADMIT 0).set Fld.HIVE_ROLE_ADDR 3) |> putWrap 1).withInbox [mkPacket 127 0 2 0x23 0
     [15,6,7]])]), 1, by decide +kernel⟩,
   ⟨{ header := 0xfe0c91000004#48, payload := [0x000000000005#48, 0x000000000000#48, 0x000000000000#48, 0x130309000000#48], aborts := false }, [],
     (resetWith [(·.withInbox [mkPacket 127 3 2 0x11 0 [5,0,0,packWord [(41,7,9),(40,1,1),(24,16,777)]]])]), by decide +kernel⟩,
   ⟨{ header := 0xfe0c91000004#48, payload := [0x000000000000#48, 0x000000000000#48, 0x000000000000#48, 0x130309000000#48], aborts := false }, [],
     (resetWith [(·.withInbox [mkPacket 127 3 2 0x11 0 [0,0,0,packWord [(41,7,9),(40,1,1),(24,16,777)]]])]), by decide +kernel⟩,
   ⟨(resetWith [(·.set Fld.HIVE_ROLE_ADDR 9), (·.set Fld.HIVE_MODE_CUR 3), (·.set Fld.HIVE_STATUS_LEAVING 1), (·.set Fld.HIVE_RX_TAIL 16380), (·.set
     Fld.HIVE_GONE_DROPPED 4095)]), by decide +kernel⟩,
   ⟨{ header := 0x0624a5000001#48, payload := [0x0000100001f4#48], aborts := false }, [], (resetWith [(·.set Fld.HIVE_STATUS_QUEEN 1), inHive (fun h
     => { h with census := [(20, packWord [(45,3,1)]), (36, packWord [(45,3,3)])] }), (·.withInbox [mkPacket 3 9 2 0x25 0 [packWord
     [(28,1,1),(0,28,500)]]])]), by decide +kernel⟩⟩

theorem witness_DataPlaneSequencesAndAcknowledges :
    (∃ (k : Packet) (w : Word) (ws : List Word) (r : List Packet) (s : State), Live s ∧ Arrived planeData 1 k r s ∧ k.payload = w :: ws ∧ pktSeq k =
      s.nextSeqOf (s.peerKey (pktSource k)) ∧ bitsOf w 26 22 + ws.length ≤ 4194304) ∧
    (∃ (k : Packet) (w : Word) (ws : List Word) (r : List Packet) (s : State), Live s ∧ Arrived planeData 1 k r s ∧ k.payload = w :: ws ∧ s.nextSeqOf
      (s.peerKey (pktSource k)) = (pktSeq k + 1) % 4096 ∧ pktSource k ∉ s.hive.acks) ∧
    (∃ (k : Packet) (w : Word) (ws : List Word) (r : List Packet) (s : State), Live s ∧ Arrived planeData 1 k r s ∧ k.payload = w :: ws ∧ pktSeq k =
      (s.nextSeqOf (s.peerKey (pktSource k)) + 1) % 4096) ∧
    (∃ (k : Packet) (r : List Packet) (s : State), Live s ∧ Arrived planeData 3 k r s ∧ s.isQueen = false) ∧
    (∃ (k : Packet) (r : List Packet) (s : State), Live s ∧ Arrived planeData 3 k r s ∧ s.isQueen = true ∧ pktSeq k = s.nextSeqOf (pktSource k) ∧
      rxFits s k = true) ∧
    (∃ (k : Packet) (r : List Packet) (s : State), Live s ∧ Arrived planeData 2 k r s ∧ s.isQueen = true ∧ pktSource k ≠ 0) ∧
    (∃ (a : Nat) (r : List Nat) (s : State), Live s ∧ s.hive.acks = a :: r ∧ MaySend a s) ∧
    (∃ (a : Fin 97) (h : Held) (s : State), Live s ∧ s.heldOf a = [h] ∧ h.packet ∉ s.ring.own ∧ MaySend (pktDest h.packet) s) ∧
    (∃ s : State, Live s ∧ s.flag Fld.EVENT_BASIC_RING_EN = true ∧ s.addr ≠ 0 ∧ s.flag Fld.HIVE_STATUS_LEAVING = false ∧ s.isQueen = false ∧
      (s.heldOf 0).length < 16 ∧ (deliveringPort s).isSome = true) :=
  ⟨⟨dataPacket 4095, packWord [(26,22,4194303)], [7], [], (resetWith [inHive (fun h => { h with nextSeq := [(0, 4095)] }), (·.withInbox [dataPacket
     4095])]), by decide +kernel⟩,
   ⟨dataPacket 4095, packWord [(26,22,4194303)], [7], [], (resetWith [(·.withInbox [dataPacket 4095])]), by decide +kernel⟩,
   ⟨dataPacket 0, packWord [(26,22,4194303)], [7], [], (resetWith [inHive (fun h => { h with nextSeq := [(0, 4095)] }), (·.withInbox [dataPacket
     0])]), by decide +kernel⟩,
   ⟨{ header := 0x062443005000#48, payload := [], aborts := false }, [], (resetWith [(·.withInbox [mkPacket 3 9 1 3 5 []])]), by decide +kernel⟩,
   ⟨{ header := 0x062443005000#48, payload := [] }, [], (resetWith [(·.set Fld.HIVE_STATUS_QUEEN 1), inHive (fun h =>
     { h with sendSeq := [(0,4095),(9,5)], nextSeq := [(0,4095),(9,5),(5,7)] }), (·.withInbox [mkPacket 3 9 1 3 5 []])]), by decide +kernel⟩,
   ⟨{ header := 0x062442000001#48, payload := [0x000000000006#48] }, [], (resetWith [(·.set Fld.HIVE_STATUS_QUEEN 1), (·.withInbox [mkPacket 3 9 1 2
     0 [packWord [(0,12,6)]]])]), by decide +kernel⟩,
   ⟨3, [], (resetWith [(·.set Fld.HIVE_ROLE_ADDR 9), inHive (fun h => { h with acks := [3] })]), by decide +kernel⟩,
   ⟨9, { peer := 9, seq := 4095, packet := { header := 0x120c41fff001#48, payload := [0x000000000001#48], aborts := false } }, (resetWith [(·.set
     Fld.HIVE_ROLE_ADDR 9), inHive (fun h => { h with held := [heldLast, heldFirst] })]), by decide +kernel⟩,
   ⟨(resetWith [putWrap 1, (·.set Fld.HIVE_ROLE_ADDR 9)]), by decide +kernel⟩⟩

theorem witness_SubmissionsAndTheQuietWindow :
    (∃ (p : Path) (v : Word) (f : Option (BitVec 32)) (s : State), Live s ∧ s.pathOpen p 5 = true ∧ s.expert 5 = false ∧ bitAt v 0 = false) ∧
    (∃ (p : Path) (v : Word) (f : Option (BitVec 32)) (s : State), Live s ∧ s.pathOpen p 5 = true ∧ s.expert 5 = false ∧ bitAt v 0 = true ∧ s.flag
      Fld.HIVE_TX_STAT_BUSY = false ∧ s.isQueen = false) ∧
    (∃ (a b : Nat) (s : State), Live s ∧ s.hive.quiet = some (a, b) ∧ s.hive.txWaiting = none) ∧
    (∃ (a b : Nat) (k : Packet) (s : State), Live s ∧ s.hive.quiet = some (a, b) ∧ s.hive.txWaiting = some k ∧ sequenced k = false ∧ pktPlane k =
      planeManagement ∧ MaySend (pktDest k) s) :=
  ⟨⟨.ring, 0x55d35200000, none, State.reset, by decide +kernel⟩,
   ⟨.ring, 0xa39f1ea3539, none, State.reset, by decide +kernel⟩,
   ⟨5, 300, (resetWith [inHive (fun h => { h with quiet := some (5, 300) })]), by decide +kernel⟩,
   ⟨5, 300, { header := 0x1824c1007001#48, payload := [0x000000000005#48], aborts := false }, (resetWith [(·.set Fld.HIVE_ROLE_ADDR 9), (fun s =>
     { s with hive := { s.hive with quiet := some (5, 300), txWaiting := some (mkPacket 12 9 planeManagement 1 7 [5]) } })]), by decide +kernel⟩⟩

theorem witness_ModeCommitsAndWaggles :
    (∃ (k : Packet) (r : List Packet) (s : State), Live s ∧ Arrived planeControl 1 k r s ∧ s.addr ≠ 0 ∧ s.armState = armIdle ∧ bitAt (s.modeEntry
      (bitsOf (pktWord k 0) 12 4)) 46 = false) ∧
    (∃ s : State, Live s ∧ s.armState = armPreparing ∧ stillPreparing s = false ∧ MaySend s.queenOf s ∧ prepareCause s = 0) ∧
    (∃ s : State, Live s ∧ s.armState = armPreparing ∧ stillPreparing s = false ∧ MaySend s.queenOf s ∧ prepareCause s ≠ 0) ∧
    (∃ (k : Packet) (r : List Packet) (s : State), Live s ∧ Arrived planeControl 2 k r s ∧ (s.armState ≠ armLag ∨ bitsOf (pktWord k 0) 0 12 ≠ s.get
      Fld.HIVE_MODE_TXN)) ∧
    (∃ (k : Packet) (r : List Packet) (s : State), Live s ∧ Arrived planeControl 2 k r s ∧ s.armState = armLag ∧ bitsOf (pktWord k 0) 0 12 = s.get
      Fld.HIVE_MODE_TXN ∧ bitAt (s.modeEntry (s.get Fld.HIVE_MODE_TARGET)) 46 = false) ∧
    (∃ (k : Packet) (r : List Packet) (s : State), Live s ∧ Arrived planeControl 3 k r s ∧ bitsOf (pktWord k 0) 0 12 ≠ s.get Fld.HIVE_MODE_TXN) ∧
    (∃ (k : Packet) (r : List Packet) (s : State), Live s ∧ Arrived planeControl 3 k r s ∧ bitsOf (pktWord k 0) 0 12 = s.get Fld.HIVE_MODE_TXN ∧
      s.addr ≠ 0 ∧ s.armState = armUnarmed) ∧
    (∃ (due : Nat) (s : State), Live s ∧ s.hive.arming.time = some due ∧ s.armState = armUnarmed) ∧
    (∃ (due : Nat) (s : State), Live s ∧ s.hive.reportAt = some due ∧ MaySend s.queenOf s) ∧
    (∃ (k : Packet) (r : List Packet) (s : State), Live s ∧ Arrived planeControl 0x21 k r s ∧ s.isQueen = true ∧ s.bound (pktSource k) = true ∧
      bitsOf (pktWord k 0) 0 12 = s.get Fld.HIVE_MODE_CENSUS_TXN ∧ bitsOf (pktWord k 0) 44 4 ≠ 0) ∧
    (∃ (k : Packet) (r : List Packet) (s : State), Live s ∧ Arrived planeControl 6 k r s) ∧
    (∃ (due : Nat) (s : State), Live s ∧ s.hive.hiveReset = some due ∧ s.commit.last ≠ some s.now ∧ s.inHold = false) :=
  ⟨⟨{ header := 0xfe0c81000002#48, payload := [0x00000005204d#48, 0x0000000001f4#48], aborts := false }, [], (resetWith [(fun s => ((((s.set
     Fld.HIVE_MODE_ARM_STATE 0).set Fld.HIVE_ROLE_ADDR 5)).withInbox [mkPacket 127 3 2 1 0 [packWord [(16,32,5),(12,4,2),(0,12,77)], 500]]))]),
     by decide +kernel⟩,
   ⟨(resetWith [(·.set Fld.HIVE_ROLE_ADDR 9), (·.set Fld.HIVE_MODE_ARM_STATE 1)]), by decide +kernel⟩,
   ⟨(resetWith [(·.set Fld.HIVE_ROLE_ADDR 9), inHive (fun h => { h with early := 1 }), (·.set Fld.HIVE_MODE_ARM_STATE 1)]), by decide +kernel⟩,
   ⟨{ header := 0xfe0c82000001#48, payload := [0x00000000004d#48], aborts := false }, [], (resetWith [(·.withInbox [mkPacket 127 3 2 2 0 [packWord
     [(0,12,77)]]])]), by decide +kernel⟩,
   ⟨{ header := 0xfe0c82000001#48, payload := [0x00000000004d#48], aborts := false }, [], (resetWith [(fun s => ((((s.set Fld.HIVE_MODE_TXN 77).set
     Fld.HIVE_MODE_TARGET 2).set Fld.HIVE_MODE_ARM_STATE 4).withInbox [mkPacket 127 3 2 2 0 [packWord [(0,12,77)]]]))]), by decide +kernel⟩,
   ⟨{ header := 0xfe0c83000001#48, payload := [0x00000000004d#48], aborts := false }, [], (resetWith [(·.withInbox [mkPacket 127 3 2 3 0 [packWord
     [(0,12,77)]]])]), by decide +kernel⟩,
   ⟨{ header := 0xfe0c83000001#48, payload := [0x00000000004d#48], aborts := false }, [], (resetWith [(·.set Fld.HIVE_ROLE_ADDR 9), (fun s =>
     (((s.set Fld.HIVE_MODE_TXN 77).set Fld.HIVE_MODE_ARM_STATE 3).withInbox [mkPacket 127 3 2 3 0 [packWord [(0,12,77)]]]))]), by decide +kernel⟩,
   ⟨700, (resetWith [inHive (fun h => { h with arming := { flips := 5, time := some 700 } }), (fun s => (((s.set Fld.HIVE_MODE_TXN 77).set
     Fld.HIVE_MODE_ARM_STATE 3).withInbox [mkPacket 127 3 2 3 0 [packWord [(0,12,77)]]]))]), by decide +kernel⟩,
   ⟨700, (resetWith [(·.set Fld.HIVE_ROLE_ADDR 9), inHive (fun h => { h with reportAt := some 700 })]), by decide +kernel⟩,
   ⟨{ header := 0x0624a1000001#48, payload := [0x20000000204d#48], aborts := false }, [], (resetWith [(·.set Fld.HIVE_STATUS_QUEEN 1), inHive (fun h
     => { h with census := [(20, packWord [(45,3,1)]), (36, packWord [(45,3,3)])] }), (·.withInbox [mkPacket 3 9 2 0x21 0 [packWord
     [(44,4,2),(12,4,2),(0,12,77)]]]), (·.set Fld.HIVE_MODE_CENSUS_TXN 77)]), by decide +kernel⟩,
   ⟨{ header := 0xfe0c86000002#48, payload := [0x000000000000#48, 0x000000000003#48], aborts := false }, [], (resetWith [(·.withInbox [mkPacket 127 3
     2 6 0 [0, 3]])]), by decide +kernel⟩,
   ⟨700, (resetWith [inHive (fun h => { h with hiveReset := some 700 })]), by decide +kernel⟩⟩

theorem witness_RegisterAndTelemetryRequests :
    (∃ (k : Packet) (r : List Packet) (s : State), Live s ∧ s.ring.request = none ∧ Arrived planeManagement 1 k r s ∧ pktDest k = broadcast) ∧
    (∃ (k : Packet) (r : List Packet) (s : State), Live s ∧ s.ring.request = none ∧ Arrived planeManagement 1 k r s ∧ pktDest k ≠ broadcast ∧ bitsOf
      (pktWord k 0) 32 8 = 0 ∧ MaySend (pktSource k) s) ∧
    (∃ (k : Packet) (r : List Packet) (s : State), Live s ∧ s.ring.request = none ∧ Arrived planeManagement 1 k r s ∧ pktDest k ≠ broadcast ∧ bitsOf
      (pktWord k 0) 32 8 = 1 ∧ bitsOf (pktWord k 0) 24 2 < 2 ∧ k.payload.length = 1 ∧ MaySend (pktSource k) s ∧ isWindow (bitsOf (pktWord k 0) 0 14)
      = false ∧ bitsOf (pktWord k 0) 0 14 ≠ Reg.EVENT_POP ∧ s.inHold = false) ∧
    (∃ (k : Packet) (r : List Packet) (v : Word) (s : State), ∃ t, Live s ∧ s.ring.request = none ∧ Arrived planeManagement 2 k r s ∧ bitsOf (pktWord
      k 0) 24 2 < 2 ∧ bitsOf (pktWord k 0) 32 8 = 1 ∧ k.payload = [pktWord k 0, v] ∧ t = (serveWrite .ring (bitsOf (pktWord k 0) 0 14) v (s.withInbox
      r).nextTck).keepQueue s ∧ pktDest k = broadcast) ∧
    (∃ (k : Packet) (r : List Packet) (v : Word) (s : State), ∃ t, Live s ∧ s.ring.request = none ∧ Arrived planeManagement 2 k r s ∧ bitsOf (pktWord
      k 0) 24 2 < 2 ∧ bitsOf (pktWord k 0) 32 8 = 1 ∧ k.payload = [pktWord k 0, v] ∧ t = (serveWrite .ring (bitsOf (pktWord k 0) 0 14) v (s.withInbox
      r).nextTck).keepQueue s ∧ pktDest k ≠ broadcast ∧ MaySend (pktSource k) t) ∧
    (∃ (k : Packet) (r : List Packet) (v : Word) (s : State) (u : Word) (t : State), Live s ∧ s.ring.request = none ∧ Arrived planeManagement 2 k r s
      ∧ bitsOf (pktWord k 0) 24 2 < 2 ∧ bitsOf (pktWord k 0) 32 8 = 2 ∧ k.payload = [pktWord k 0, v, u] ∧ t = (serveWrite .ring (bitsOf (pktWord k 0)
      0 14) v (s.withInbox r).nextTck).keepQueue s) ∧
    (∃ (q : RegRequest) (s : State), ∃ t, Live s ∧ s.ring.request = some q ∧ q.write = true ∧ bitsOf (pktWord q.packet 0) 32 8 = q.next + 1 ∧ pktDest
      q.packet = broadcast ∧ t = (serveWrite .ring (requestAddr (pktWord q.packet 0) q.next) (pktWord q.packet (q.next + 1)) s.nextTck).keepQueue s) ∧
    (∃ (k : Packet) (r : List Packet) (s : State), Live s ∧ Arrived planeManagement 3 k r s ∧ k.payload.length = 1 ∧ bitsOf (pktWord k 0) 32 8 = 2 ∧
      (pktDest k = broadcast → s.addr ≠ 0)) ∧
    (∃ (a : Answer) (r : List Answer) (s : State), Live s ∧ s.hive.answers = a :: r ∧ MaySend (pktDest a.packet) s ∧ a.due = none) ∧
    (∃ (a : Answer) (r : List Answer) (s : State), ∃ d, Live s ∧ s.hive.answers = a :: r ∧ MaySend (pktDest a.packet) s ∧ a.due = some d ∧ r = []) :=
  ⟨⟨{ header := 0xfe0cc1007001#48, payload := [0x000100000003#48], aborts := false }, [], (resetWith [(·.withInbox [mkPacket 127 3 planeManagement 1
     7 [packWord [(32,8,1),(24,2,0),(0,14,0x0003)]]])]), by decide +kernel⟩,
   ⟨{ header := 0x120cc1007001#48, payload := [0x000000000003#48] }, [], (resetWith [(·.set Fld.HIVE_ROLE_ADDR 9), (·.withInbox [mkPacket 9 3
     planeManagement 1 7 [packWord [(32,8,0),(24,2,0),(0,14,0x0003)]]])]), by decide +kernel⟩,
   ⟨{ header := 0x120cc1007001#48, payload := [0x000100000503#48], aborts := false }, [], (resetWith [(·.set Fld.HIVE_ROLE_ADDR 9), (·.withInbox
     [mkPacket 9 3 planeManagement 1 7 [packWord [(32,8,1),(24,2,0),(0,14,0x0503)]]])]), by decide +kernel⟩,
   ⟨writeAll, [], 0x155, (resetWith [(·.withInbox [writeAll])]), ((serveWrite .ring 0x1802 0x155 State.reset.nextTck).keepQueue State.reset),
     by decide +kernel⟩,
   ⟨writeRequest, [], 0x155, (resetWith [putWrap 1, (·.set Fld.HIVE_ROLE_ADDR 9), (·.withInbox [writeRequest])]), ((serveWrite .ring 0x1802 0x155
     writeFrom.nextTck).keepQueue writeFrom), by decide +kernel⟩,
   ⟨writeTwo, [], 0x155, (resetWith [(·.withInbox [writeTwo])]), 0x156, ((serveWrite .ring 0x1802 0x155 State.reset.nextTck).keepQueue State.reset),
     by decide +kernel⟩,
   ⟨⟨writeTwo, true, 1, 0, []⟩, halfWritten, ((serveWrite .ring 0x1802 0x156 halfWritten.nextTck).keepQueue halfWritten), by decide +kernel⟩,
   ⟨{ header := 0x120cc3007001#48, payload := [0x000200000000#48], aborts := false }, [], (resetWith [(·.withInbox [mkPacket 9 3 planeManagement 3 7
     [packWord [(32,8,2),(0,14,0)]]])]), by decide +kernel⟩,
   ⟨{ packet := { header := 0x0624e3005001#48, payload := [0x000000000001#48], aborts := false }, due := none },
     [{ packet := { header := 0x0624e3005001#48, payload := [0x000000000001#48], aborts := false }, due := none }], (resetWith [(·.set
     Fld.HIVE_ROLE_ADDR 9), inHive (fun h => { h with answers := [answerNow, answerNow] })]), by decide +kernel⟩,
   ⟨{ packet := { header := 0xfe24e3005001#48, payload := [0x000000000001#48], aborts := false }, due := some 5 }, [], (resetWith [(·.set
     Fld.HIVE_ALIGN_STATE 3), (·.set Fld.HIVE_STATUS_EPOCH 777), (·.set Fld.HIVE_MODE_CUR 3), (·.set Fld.RINGA_BYPASS_STATE 2), (·.set
     Fld.HIVE_ROLE_QUEEN_EN 1), (·.set Fld.HIVE_RX_TAIL 100), (·.set Fld.HIVE_GONE_DROPPED 4095), inHive (fun h =>
     { h with answers := [answerAll] }), foc2 3 0 (fun s => (s.set Fld.HIVE_ROLE_ADDR 9) |> putWrap 1 |> inRing (fun r =>
     { r with request := none }))]), 5, by decide +kernel⟩⟩

end Hive

namespace Ledger
def hot (s : State) : State := ([0,1,2,3,4,5,6,7].foldl (fun s g => (((s.set (Fld.GRP_X_DRIVE_DROP g) 250).set (Fld.GRP_BASIC_DROP g) 250).set (Fld.GRP_X_DRIVE_ISEG g) 159).set (Fld.GRP_LINE_USE_USE g) 0xFFFFFFFFFFFF) s).setCell 0 0 (packWord ((List.range 8).map (fun g => (24+3*g,3,1)) ++ [(4,12,4095)]) ||| 2) |>.set Fld.COMB_STATUS_RUN_STATE 1 |>.set Fld.COMB_STATUS_ACTIVE_BANK 0

theorem witness_SupplyAndMainsMonitors :
    (∃ (v : BitVec 12) (rising : Bool) (s : State), Live s ∧ s.heldInReset 2 = true) ∧
    (∃ (v : BitVec 12) (s : State), Live s ∧ s.heldInReset 2 = false) ∧
    (∃ (rising : Bool) (s : State), Live s ∧ s.heldInReset 2 = false ∧ (s.flag Fld.LEDGER_MON_ZC_EN = false ∨ rising = s.flag Fld.LEDGER_MON_ZC_POL)) ∧
    (∃ (rising : Bool) (s : State) (c : Nat), Live s ∧ s.heldInReset 2 = false ∧ s.ledger.lastCross = some c ∧ s.now < c + 192000) ∧
    (∃ (rising : Bool) (s : State) (c : Nat), Live s ∧ s.heldInReset 2 = false ∧ s.flag Fld.LEDGER_MON_ZC_EN = true ∧ rising ≠ s.flag
      Fld.LEDGER_MON_ZC_POL ∧ s.ledger.lastCross = some c ∧ c + 192000 ≤ s.now) ∧
    (∃ s : State, Live s ∧ s.heldInReset 2 = false ∧ (s.flag Fld.LEDGER_STATUS_ZC_LOCK = false ∨ s.flag Fld.LEDGER_MON_ZC_EN = false)) ∧
    (∃ s : State, Live s ∧ s.heldInReset 2 = false ∧ s.flag Fld.LEDGER_STATUS_ZC_LOCK = true ∧ s.flag Fld.LEDGER_MON_ZC_EN = true) ∧
    (∃ s : State, Live s ∧ s.heldInReset 2 = false ∧ s.get Fld.LEDGER_STATUS_SUP_STATE ≠ 2) ∧
    (∃ s : State, Live s ∧ s.heldInReset 2 = false ∧ s.get Fld.LEDGER_STATUS_SUP_STATE = 2) :=
  ⟨⟨0xb00, true, (resetWith [(fun s => { s with clock := { s.clock with sources := [2] } })]), by decide +kernel⟩,
   ⟨0xb00, State.reset, by decide +kernel⟩,
   ⟨true, State.reset, by decide +kernel⟩,
   ⟨true, (resetWith [(fun s => { s with ledger := { s.ledger with lastCross := some 300 } })]), 300, by decide +kernel⟩,
   ⟨true, (resetWith [(·.set Fld.LEDGER_MON_ZC_EN 1), (fun s => { s with ledger := { s.ledger with lastCross := some 300 } }), (·.elapse 1000300)]),
     300, by decide +kernel⟩,
   ⟨State.reset, by decide +kernel⟩,
   ⟨(resetWith [(·.set Fld.LEDGER_MON_ZC_EN 1), (·.set Fld.LEDGER_STATUS_ZC_LOCK 1)]), by decide +kernel⟩,
   ⟨State.reset, by decide +kernel⟩,
   ⟨(resetWith [(·.set Fld.LEDGER_STATUS_SUP_STATE 2)]), by decide +kernel⟩⟩

theorem witness_LedgerSettingsAndCounters :
    (∃ (p : Path) (v : Word) (s : State), Live s ∧ MayWriteBasic p 2 s ∧ (bitsOf v 20 4 = 0 ∨ bitsOf v 12 8 = 0 ∨ bitsOf v 5 5 = 0 ∨ bitsOf v 24 12 ≤
      bitsOf v 36 12)) ∧
    (∃ (p : Path) (v : Word) (s : State), Live s ∧ MayWriteBasic p 2 s ∧ bitsOf v 20 4 ≠ 0 ∧ bitsOf v 12 8 ≠ 0 ∧ bitsOf v 5 5 ≠ 0 ∧ bitsOf v 36 12 <
      bitsOf v 24 12) ∧
    (∃ (p : Path) (v : Word) (s : State), Live s ∧ s.pathOpen p 2 = true ∧ s.expert 2 = false ∧ s.locked p 2 = true) ∧
    (∃ (p : Path) (h : BitVec 11) (s : State), Live s ∧ MayWriteBasic p 2 s ∧ guardOk (s.set Fld.LEDGER_LIMITS_BASE_HEAT h.toNat) = true) ∧
    (∃ (p : Path) (h : BitVec 11) (s : State), Live s ∧ MayWriteBasic p 2 s ∧ guardOk (s.set Fld.LEDGER_LIMITS_BASE_HEAT h.toNat) = false) ∧
    (∃ (p : Path) (sup heat : Bool) (s : State), Live s ∧ s.pathOpen p 2 = true ∧ s.expert 2 = false) :=
  ⟨⟨.ring, 0, State.reset, by decide +kernel⟩,
   ⟨.ring, 0x307e2840, State.reset, by decide +kernel⟩,
   ⟨.ring, 0x9000b0304ca0, (resetWith [(·.set ⟨0x206, 0, 3⟩ 3)]), by decide +kernel⟩,
   ⟨.ring, 6, State.reset, by decide +kernel⟩,
   ⟨.ring, 2047, (resetWith [hot]), by decide +kernel⟩,
   ⟨.ring, true, true, State.reset, by decide +kernel⟩⟩

end Ledger

namespace Clock
def inClock (f : ClockState → ClockState) (s : State) : State := { s with clock := f s.clock }

theorem witness_ClockSourcesAndSwitches :
    (∃ (src : Fin 4) (count offset : Nat) (s : State), src.val < 2 ∧ 3974 ≤ count ∧ count ≤ 4218 ∧ 8 ≤ Table.get (fun _ => 0) s.clock.good src + 1) ∧
    (∃ (src : Fin 4) (count offset : Nat) (s : State), src.val < 2 ∧ ¬(3974 ≤ count ∧ count ≤ 4218) ∧ 2 ≤ Table.get (fun _ => 0) s.clock.bad src + 1
      ∧ s.flag (readyField src) = true ∧ s.clock.inReset = false) ∧
    (∃ (src : Fin 4) (count offset : Nat) (s : State), 2 ≤ src.val ∧ s.link (src - 2) = linkUp ∧ 65523 ≤ count ∧ count ≤ 65549 ∧ 4 ≤ Table.get (fun _
      => 0) s.clock.good src + 1) ∧
    (∃ (src : Fin 4) (count offset : Nat) (s : State), 2 ≤ src.val ∧ s.link (src - 2) = linkUp ∧ ¬(65523 ≤ count ∧ count ≤ 65549) ∧ s.flag
      (readyField src) = true ∧ s.clock.inReset = false) ∧
    (∃ (src : Fin 4) (count offset : Nat) (s : State), 2 ≤ src.val ∧ s.link (src - 2) ≠ linkUp) ∧
    (∃ s : State, (s.clock.inReset = false ∨ s.clock.deep = false ∨ s.flag Fld.CLOCK_STATUS_PLL_LOCK = true ∨ s.clock.boot = none)) ∧
    (∃ (s : State) (b : Fin 2), s.clock.inReset = true ∧ s.clock.deep = true ∧ s.flag Fld.CLOCK_STATUS_PLL_LOCK = false ∧ s.clock.boot = some b.val) ∧
    (∃ (p : Path) (v : Word) (s : State), Live s ∧ MayWriteBasic p 1 s ∧ bitsOf v 46 2 = s.get Fld.CLOCK_BASIC_SRC) ∧
    (∃ (p : Path) (v : Word) (s : State), Live s ∧ MayWriteBasic p 1 s ∧ bitsOf v 46 2 ≠ s.get Fld.CLOCK_BASIC_SRC ∧ sourceReady s (bitsOf v 46 2) =
      false) ∧
    (∃ (p : Path) (v : Word) (s : State), Live s ∧ MayWriteBasic p 1 s ∧ bitsOf v 46 2 ≠ s.get Fld.CLOCK_BASIC_SRC ∧ switchRefusal s (bitsOf v 46 2)
      ≠ 0) ∧
    (∃ (p : Path) (v : Word) (s : State), Live s ∧ MayWriteBasic p 1 s ∧ bitsOf v 46 2 ≠ s.get Fld.CLOCK_BASIC_SRC ∧ switchRefusal s (bitsOf v 46 2)
      = 0) ∧
    (∃ s : State, Live s ∧ s.clock.switchTo = none) ∧
    (∃ (s : State) (src : Fin 4), Live s ∧ s.clock.switchTo = some src.val) :=
  ⟨⟨0, 3974, 1929, (resetWith [inClock (fun c => { c with good := [(0,7),(1,7),(2,3),(3,3)] })]), by decide +kernel⟩,
   ⟨0, 3, 44, (resetWith [inClock (fun c => { c with bad := [(0,1),(1,1)] })]), by decide +kernel⟩,
   ⟨3, 65549, 0, (resetWith [inClock (fun c => { c with good := [(0,7),(1,7),(2,3),(3,3)] }), (·.set (Fld.RING_STATUS_LINK 1) 2)]),
     by decide +kernel⟩,
   ⟨2, 2050, 0, (resetWith [(·.set Fld.CLOCK_STATUS_RINGA_READY 1), (·.set (Fld.RING_STATUS_LINK 0) 2)]), by decide +kernel⟩,
   ⟨2, 21, 90, State.reset, by decide +kernel⟩,
   ⟨State.reset, by decide +kernel⟩,
   ⟨(resetWith [(·.set Fld.CLOCK_STATUS_PLL_LOCK 0), inClock (fun c => { c with inReset := true, deep := true, sources := [1] }), inClock (fun c =>
     { c with boot := some 0 })]), 0, by decide +kernel⟩,
   ⟨.ring, 0x55d35200000, State.reset, by decide +kernel⟩,
   ⟨.ring, 0x800000000000, State.reset, by decide +kernel⟩,
   ⟨.ring, 0x800000000000, State.reset, by decide +kernel⟩,
   ⟨.waggle, 0xc34b620000, (resetWith [(·.set Fld.CLOCK_BASIC_SRC 1)]), by decide +kernel⟩,
   ⟨State.reset, by decide +kernel⟩,
   ⟨(resetWith [inClock (fun c => { c with switchTo := some 2, coreStopped := false })]), 2, by decide +kernel⟩⟩

theorem witness_GatesAndPowerStates :
    (∃ (p : Path) (v : Word) (s : State), Live s ∧ MayWriteBasic p 1 s ∧ BitVec.ofNat 48 (gatesInUse s) &&& ~~~v = 0) ∧
    (∃ (p : Path) (v : Word) (s : State), Live s ∧ MayWriteBasic p 1 s ∧ BitVec.ofNat 48 (gatesInUse s) &&& ~~~v ≠ 0) ∧
    (∃ (p : Path) (v : Word) (s : State), Live s ∧ MayWriteBasic p 1 s ∧ (bitsOf v 44 2 = 3 ∨ s.inHold = true)) ∧
    (∃ (p : Path) (v : Word) (s : State), Live s ∧ MayWriteBasic p 1 s ∧ bitsOf v 44 2 < 2 ∧ s.power < 2 ∧ bitsOf v 44 2 ≠ s.power) ∧
    (∃ (p : Path) (v : Word) (s : State), Live s ∧ MayWriteBasic p 1 s ∧ bitsOf v 44 2 = 2 ∧ s.power < 2 ∧ s.runState = combStopped) ∧
    (∃ (p : Path) (v : Word) (s : State), Live s ∧ MayWriteBasic p 1 s ∧ bitsOf v 44 2 = 2 ∧ s.power < 2 ∧ s.runState = combRunning) ∧
    (∃ (p : Path) (v : Word) (s : State), Live s ∧ MayWriteBasic p 1 s ∧ bitsOf v 44 2 < 2 ∧ s.inStandby = true ∧ s.flag Fld.CLOCK_POWER_LEAVING =
      false) ∧
    (∃ (p : Path) (s : State), Live s ∧ s.pathOpen p 1 = true ∧ s.expert 1 = false) :=
  ⟨⟨.ring, 0x800000000000, State.reset, by decide +kernel⟩,
   ⟨.ring, 0x200000000000, (resetWith [(·.set Fld.XMEM_BASIC_EN 1)]), by decide +kernel⟩,
   ⟨.ring, 0x7dcc78049b51, State.reset, by decide +kernel⟩,
   ⟨.ring, 0x800000000000, (resetWith [(·.set Fld.CLOCK_POWER_STATE 1)]), by decide +kernel⟩,
   ⟨.ring, 0x200000000000, State.reset, by decide +kernel⟩,
   ⟨.ring, 0x200000000000, (resetWith [(·.set Fld.COMB_STATUS_RUN_STATE 1)]), by decide +kernel⟩,
   ⟨.ring, 0xd80000000000, (resetWith [(·.set Fld.CLOCK_POWER_STATE 2)]), by decide +kernel⟩,
   ⟨.ring, State.reset, by decide +kernel⟩⟩

theorem witness_StartUpOrder :
    (∃ s : State, Live s ∧ s.clock.stepDue = none) ∧
    (∃ (due : Nat) (s : State), Live s ∧ s.clock.stepDue = some due ∧ (startStep s s.clock.stepNo ≠ 0 ∨ managersLocked s = true) ∧ s.clock.stepNo <
      3) ∧
    (∃ (due : Nat) (s : State), Live s ∧ s.clock.stepDue = some due ∧ (startStep s s.clock.stepNo ≠ 0 ∨ managersLocked s = true) ∧ s.clock.stepNo =
      3) ∧
    (∃ (due : Nat) (s : State), Live s ∧ s.clock.stepDue = some due ∧ startStep s s.clock.stepNo = 0 ∧ managersLocked s = false) ∧
    (∃ s : State, Live s ∧ s.clock.lockSince = none) ∧
    (∃ (s : State) (since : Nat), Live s ∧ s.clock.lockSince = some since) ∧
    (∃ (p : Path) (v : Word) (s : State), Live s ∧ MayWriteBasic p 1 s ∧ stepsDiffer v = true) ∧
    (∃ (p : Path) (v : Word) (s : State), Live s ∧ MayWriteBasic p 1 s ∧ stepsDiffer v = false) ∧
    (∃ (r : Fin 8) (s : State), Live s ∧ s.fstate ≠ fabStarting ∧ s.fstate ≠ fabRunning) ∧
    (∃ (r : Fin 8) (s : State), Live s ∧ (managersUsed s).testBit r = false) ∧
    (∃ (r : Fin 8) (s : State), Live s ∧ (s.fstate = fabStarting ∨ s.fstate = fabRunning) ∧ (managersUsed s).testBit r = true) :=
  ⟨⟨State.reset, by decide +kernel⟩,
   ⟨90, (resetWith [inClock (fun c => { c with stepDue := some 90, stepNo := 0, startup := 0x1B0102030000 })]), by decide +kernel⟩,
   ⟨90, (resetWith [inClock (fun c => { c with stepDue := some 90, stepNo := 3, startup := 0x6C0102030000 })]), by decide +kernel⟩,
   ⟨90, (resetWith [inClock (fun c => { c with stepDue := some 90, stepNo := 0, startup := 0x1B0102030000 }), (fun s =>
     { s with config := { s.config with decl := [(1, 0x00000F000000)] } })]), by decide +kernel⟩,
   ⟨State.reset, by decide +kernel⟩,
   ⟨(resetWith [inClock (fun c => { c with lockSince := some 44 })]), 44, by decide +kernel⟩,
   ⟨.ring, 0xd80000000000, State.reset, by decide +kernel⟩,
   ⟨.ring, 0x800000000000, State.reset, by decide +kernel⟩,
   ⟨1, State.reset, by decide +kernel⟩,
   ⟨1, State.reset, by decide +kernel⟩,
   ⟨3, (resetWith [(fun s => { s with config := { s.config with decl := [(1, 0x00000F000000)] } }), (·.set Fld.FABRIC_STATUS_FSTATE 3)]),
     by decide +kernel⟩⟩

theorem witness_ResetsHoldAndRelease :
    (∃ (ns : Nat) (s : State), ns < 200) ∧
    (∃ (ns : Nat) (s : State), 200 ≤ ns ∧ ns < 1000) ∧
    (∃ (ns : Nat) (s : State), 1000 ≤ ns) ∧
    (∃ s : State, Live s ∧ s.inHold = true) ∧
    (∃ s : State, Live s ∧ s.inHold = false) ∧
    (∃ (pins : BitVec 4) (viox : Bool) (s : State), s.clock.coreStopped = false ∧ s.clock.sources = []) ∧
    (∃ (pins : BitVec 4) (viox : Bool) (s : State), s.clock.coreStopped = false ∧ s.clock.deep = true ∧ s.flag Fld.CLOCK_STATUS_PLL_LOCK = false) ∧
    (∃ (pins : BitVec 4) (viox : Bool) (s : State), s.clock.coreStopped = false ∧ s.clock.sources ≠ [] ∧ s.clock.deep = true ∧ s.flag
      Fld.CLOCK_STATUS_PLL_LOCK = true ∧ s.flag Fld.UPDATE_HOLD_ACTIVE = false ∧ s.slot = slotEmpty ∧ (s.fabric.memReady = false ∨ s.flag
      Fld.UPDATE_BOOT_VALID = false)) ∧
    (∃ (pins : BitVec 4) (viox : Bool) (s : State), s.clock.coreStopped = false ∧ s.clock.sources ≠ [] ∧ s.clock.deep = false) :=
  ⟨⟨0, State.reset, by decide +kernel⟩,
   ⟨266, State.reset, by decide +kernel⟩,
   ⟨3973, State.reset, by decide +kernel⟩,
   ⟨(resetWith [(·.set Fld.CLOCK_POWER_STATE 3)]), by decide +kernel⟩,
   ⟨State.reset, by decide +kernel⟩,
   ⟨7, true, State.reset, by decide +kernel⟩,
   ⟨8, false, (resetWith [(·.set Fld.CLOCK_STATUS_PLL_LOCK 0), inClock (fun c => { c with sources := [4, 2], deep := true, hiveStart := 1500 })]),
     by decide +kernel⟩,
   ⟨0xf, true, (resetWith [inClock (fun c => { c with inReset := true, deep := true, sources := [1] })]), by decide +kernel⟩,
   ⟨0, true, (resetWith [inClock (fun c => { c with sources := [2], hiveStart := 1500 })]), by decide +kernel⟩⟩

end Clock

namespace Twi

theorem witness_TwiBytesAndConditions :
    (∃ (mid : Bool) (s : State), Live s ∧ s.twi.bytes = [] ∧ s.twiState = twiIdle) ∧
    (∃ (mid : Bool) (s : State), Live s ∧ s.twiState = twiWrite ∧ s.twi.bytes ≠ []) ∧
    (∃ (b : Byte) (s : State), Live s ∧ s.twiState = twiAddress ∧ s.inHold = false ∧ b.toNat = 0x60 + 2 * s.get Fld.TWI_STATUS_ADDR_PINS) ∧
    (∃ (b : Byte) (s : State), Live s ∧ s.twiState = twiAddress ∧ s.inHold = false ∧ b.toNat = 0x61 + 2 * s.get Fld.TWI_STATUS_ADDR_PINS) ∧
    (∃ (b : Byte) (s : State), Live s ∧ s.twiState = twiAddress ∧ s.inHold = false ∧ b.toNat ≠ 0x60 + 2 * s.get Fld.TWI_STATUS_ADDR_PINS ∧ b.toNat ≠
      0x61 + 2 * s.get Fld.TWI_STATUS_ADDR_PINS) ∧
    (∃ (b : Byte) (s : State), Live s ∧ s.twiState = twiIndex ∧ s.inHold = false) ∧
    (∃ (b : Byte) (s : State), Live s ∧ s.twiState = twiWrite ∧ s.inHold = false ∧ s.twi.bytes.length < 5 ∧ (s.twi.bytes ≠ [] ∨ twiReserved s =
      false)) ∧
    (∃ (b : Byte) (s : State), Live s ∧ s.twiState = twiWrite ∧ s.inHold = false ∧ s.twi.bytes = [] ∧ twiReserved s = true) ∧
    (∃ (b : Byte) (s : State), Live s ∧ s.twiState = twiWrite ∧ s.inHold = false ∧ s.twi.bytes.length = 5 ∧ s.get Fld.TWI_STATUS_INDEX ≠ 0xFE) ∧
    (∃ (b : Byte) (s : State), Live s ∧ s.twiState = twiWrite ∧ s.inHold = false ∧ s.twi.bytes.length = 5 ∧ s.get Fld.TWI_STATUS_INDEX = 0xFE ∧
      s.pathOpen .twi (s.get Fld.TWI_STATUS_PAGE) = true ∧ reservedPage (s.get Fld.TWI_STATUS_PAGE) = false ∧ reservedPage (b.toNat % 64) = false) ∧
    (∃ s : State, Live s ∧ s.twiState = twiRead ∧ s.inHold = false ∧ s.get Fld.TWI_STATUS_BYTE < 5) ∧
    (∃ s : State, Live s ∧ s.twiState = twiRead ∧ s.inHold = false ∧ 5 ≤ s.get Fld.TWI_STATUS_BYTE ∧ s.late = [] ∧ s.twiAddr = Reg.EVENT_POP ∧ bitAt
      s.twi.basic 37 = true) ∧
    (∃ s : State, Live s ∧ s.twiState = twiRead ∧ s.inHold = false ∧ 5 ≤ s.get Fld.TWI_STATUS_BYTE ∧ s.late = [] ∧ s.twiAddr ≠ Reg.EVENT_POP ∧
      isWindow s.twiAddr = false ∧ bitAt s.twi.basic 37 = false) ∧
    (∃ (mid : Bool) (s : State), Live s ∧ s.twiState = twiRead ∧ s.twi.bytes = []) :=
  ⟨⟨true, (resetWith [(·.set Fld.TWI_STATUS_STATE 0)]), by decide +kernel⟩,
   ⟨true, (resetWith [(·.set Fld.TWI_STATUS_STATE 3), (fun s => { s with twi := { s.twi with bytes := [1,2,3] } })]), by decide +kernel⟩,
   ⟨0x60, (resetWith [(·.set Fld.TWI_STATUS_STATE 1)]), by decide +kernel⟩,
   ⟨0x61, (resetWith [(·.set Fld.TWI_STATUS_STATE 1)]), by decide +kernel⟩,
   ⟨5, (resetWith [(·.set Fld.TWI_STATUS_STATE 1)]), by decide +kernel⟩,
   ⟨0xff, (resetWith [(·.set Fld.TWI_STATUS_STATE 2)]), by decide +kernel⟩,
   ⟨6, (resetWith [(·.set Fld.TWI_STATUS_STATE 3)]), by decide +kernel⟩,
   ⟨0xff, (resetWith [(·.set Fld.TWI_STATUS_STATE 3), (·.set Fld.TWI_STATUS_INDEX 0xE1)]), by decide +kernel⟩,
   ⟨0xff, (resetWith [(·.set Fld.TWI_STATUS_STATE 3), (fun s => { s with twi := { s.twi with bytes := [1,2,3,4,5] } })]), by decide +kernel⟩,
   ⟨0, (resetWith [(·.set Fld.TWI_STATUS_STATE 3), (fun s => { s with twi := { s.twi with bytes := [1,2,3,4,5] } }), (·.set Fld.TWI_STATUS_INDEX
     0xFE)]), by decide +kernel⟩,
   ⟨(resetWith [(·.set Fld.TWI_STATUS_STATE 4)]), by decide +kernel⟩,
   ⟨(resetWith [(·.set Fld.TWI_STATUS_STATE 4), (·.set Fld.TWI_STATUS_BYTE 5), (fun s => ((s.set Fld.TWI_STATUS_PAGE 0x1A).set Fld.TWI_STATUS_INDEX
     (Reg.EVENT_POP % 256))), (fun s => { s with twi := { s.twi with basic := packWord [(38,6,3),(37,1,1)] } })]), by decide +kernel⟩,
   ⟨(resetWith [(·.set Fld.TWI_STATUS_STATE 4), (·.set Fld.TWI_STATUS_BYTE 5)]), by decide +kernel⟩,
   ⟨true, (resetWith [(·.set Fld.TWI_STATUS_STATE 4)]), by decide +kernel⟩⟩

theorem witness_TwiTimeoutSleepAndSettings :
    (∃ (held : Nat) (s : State), Live s ∧ s.twi.lowSince = some held) ∧
    (∃ s : State, Live s ∧ s.twiState = twiRecover) ∧
    (∃ s : State, Live s ∧ s.inStandby = true ∧ s.twiState = twiIdle ∧ s.twi.woken = false) ∧
    (∃ s : State, Live s ∧ s.inStandby = true ∧ s.twiState = twiIdle ∧ s.twi.woken = true) ∧
    (∃ (mid : Bool) (s : State), Live s ∧ s.twiState = twiAsleep) ∧
    (∃ (p : Path) (v : Word) (s : State), Live s ∧ MayWriteBasic p 0x06 s ∧ s.twiState = twiWrite) :=
  ⟨⟨60, (resetWith [(fun s => { s with twi := { s.twi with lowSince := some 60 } })]), by decide +kernel⟩,
   ⟨State.reset, by decide +kernel⟩,
   ⟨(resetWith [(·.set Fld.TWI_STATUS_STATE 0), (·.set Fld.CLOCK_POWER_STATE 2)]), by decide +kernel⟩,
   ⟨(resetWith [(·.set Fld.TWI_STATUS_STATE 0), (fun s => { s with twi := { s.twi with woken := true } }), (·.set Fld.CLOCK_POWER_STATE 2)]),
     by decide +kernel⟩,
   ⟨true, (resetWith [(·.set Fld.TWI_STATUS_STATE 6)]), by decide +kernel⟩,
   ⟨.ring, 0x3830ab6ad3dd, (resetWith [(·.set Fld.TWI_STATUS_STATE 3)]), by decide +kernel⟩⟩

end Twi

namespace Fabric
def inFabric (f : FabricState → FabricState) (s : State) : State := { s with fabric := f s.fabric }

theorem witness_MemoryWindowsAndTiles :
    (∃ (w : Fin 32) (k : Fin 4096) (s : State), Live s ∧ s.tileState k ≠ tileGood) ∧
    (∃ (w : Fin 32) (k : Fin 4096) (s : State), Live s ∧ s.tileState k = tileGood ∧ s.reservedTile k = true) ∧
    (∃ (w : Fin 32) (k : Fin 4096) (s : State), Live s ∧ s.tileState k = tileGood ∧ s.reservedTile k = false ∧ writesOn s = false) ∧
    (∃ (w : Fin 32) (k : Fin 4096) (s : State), Live s ∧ s.tileState k = tileGood ∧ s.reservedTile k = false ∧ writesOn s = true) ∧
    (∃ (w : Fin 32) (s : State), Live s ∧ bitsOf (s.winWord w) 46 2 ≠ winChecking) ∧
    (∃ (w : Fin 32) (s : State), Live s ∧ bitsOf (s.winWord w) 46 2 = winChecking ∧ w.val ∉ s.fabric.dirty ∧ s.tileState (bitsOf (s.winWord w) 31 12)
      = tileGood) ∧
    (∃ (w : Fin 32) (s : State), Live s ∧ bitsOf (s.winWord w) 46 2 = winChecking ∧ w.val ∈ s.fabric.dirty ∧ bitsOf (s.winWord w) 28 3 < 4) ∧
    (∃ (w : Fin 32) (s : State), Live s ∧ bitsOf (s.winWord w) 46 2 = winChecking ∧ w.val ∈ s.fabric.dirty ∧ 4 ≤ bitsOf (s.winWord w) 28 3) ∧
    (∃ (w : Fin 32) (a : Fin 1024) (s : State), Live s ∧ bitsOf (s.winWord w) 46 2 ≠ winOpen) ∧
    (∃ (w : Fin 32) (a : Fin 1024) (s : State), Live s ∧ bitsOf (s.winWord w) 46 2 = winOpen ∧ s.late = []) ∧
    (∃ (w : Fin 32) (a : Fin 1024) (s : State) (x : Word), Live s ∧ bitsOf (s.winWord w) 46 2 = winOpen ∧ staged s (bitsOf (s.winWord w) 31 12) =
      false ∧ (s.flag Fld.HIVE_STATUS_QUEEN = false ∨ bitsOf (s.winWord w) 31 12 < 4032) ∧ (s.tileState (bitsOf (s.winWord w) 31 12) = tileTesting ∨
      s.tileState (bitsOf (s.winWord w) 31 12) = tileRetired)) ∧
    (∃ (w : Fin 32) (a : Fin 1024) (s : State) (x : Word), Live s ∧ bitsOf (s.winWord w) 46 2 = winOpen ∧ staged s (bitsOf (s.winWord w) 31 12) =
      false ∧ (s.flag Fld.HIVE_STATUS_QUEEN = false ∨ bitsOf (s.winWord w) 31 12 < 4032) ∧ (s.tileState (bitsOf (s.winWord w) 31 12) = tileGood ∨
      s.tileState (bitsOf (s.winWord w) 31 12) = tileFailed)) ∧
    (∃ (p : Path) (v : Word) (s : State), Live s ∧ MayWriteBasic p 0x38 s ∧ bitAt v 0 = false) ∧
    (∃ (p : Path) (v : Word) (s : State), Live s ∧ MayWriteBasic p 0x38 s ∧ s.tileState (bitsOf v 36 12) ≠ tileFailed) ∧
    (∃ (p : Path) (v : Word) (s : State), Live s ∧ MayWriteBasic p 0x38 s ∧ bitAt v 0 = true ∧ s.tileState (bitsOf v 36 12) = tileFailed) ∧
    (∃ (p : Path) (n : Fin 8) (v : Word) (s : State), Live s ∧ MayWriteBasic p 0x38 s ∧ s.flag Fld.FABRIC_PROT_CTRL_FROZEN = true) ∧
    (∃ (p : Path) (n : Fin 8) (v : Word) (s : State), Live s ∧ MayWriteBasic p 0x38 s ∧ s.flag Fld.FABRIC_PROT_CTRL_FROZEN = false) ∧
    (∃ (p : Path) (s : State), Live s ∧ s.pathOpen p 0x38 = true ∧ s.expert 0x38 = false) :=
  ⟨⟨7, 2, (resetWith [(·.setTileState 2 1)]), by decide +kernel⟩,
   ⟨23, 4095, (resetWith [(·.set Fld.HIVE_STATUS_QUEEN 1)]), by decide +kernel⟩,
   ⟨5, 54, State.reset, by decide +kernel⟩,
   ⟨27, 7, (resetWith [(·.set Fld.FABRIC_STATUS_FSTATE 0)]), by decide +kernel⟩,
   ⟨31, State.reset, by decide +kernel⟩,
   ⟨2, (resetWith [(·.setWin 2 (winEntry 1 0 7 3))]), by decide +kernel⟩,
   ⟨2, (resetWith [(·.setWin 2 (winEntry 1 0 7 3)), inFabric (fun f => { f with dirty := [2] })]), by decide +kernel⟩,
   ⟨2, (resetWith [(·.setWin 2 (winEntry 1 0 7 4)), inFabric (fun f => { f with dirty := [2] })]), by decide +kernel⟩,
   ⟨9, 977, State.reset, by decide +kernel⟩,
   ⟨2, 6, (resetWith [(·.setWin 2 (winEntry 2 0 7 1))]), by decide +kernel⟩,
   ⟨2, 324, (resetWith [(·.setTileState 3 2), (·.setWin 2 (winEntry 2 0 3 1))]), 0x255fc29b634d, by decide +kernel⟩,
   ⟨2, 6, (resetWith [(·.setWin 2 (winEntry 2 0 7 1))]), 0x4000000001, by decide +kernel⟩,
   ⟨.ring, 0x3000000000, State.reset, by decide +kernel⟩,
   ⟨.ring, 0x3000000001, State.reset, by decide +kernel⟩,
   ⟨.ring, 0x3000000001, (resetWith [(·.setTileState 3 1)]), by decide +kernel⟩,
   ⟨.ring, 2, 0x3001000001, (resetWith [(·.set Fld.FABRIC_PROT_CTRL_FROZEN 1)]), by decide +kernel⟩,
   ⟨.ring, 2, 0x3000000001, State.reset, by decide +kernel⟩,
   ⟨.ring, State.reset, by decide +kernel⟩⟩

theorem witness_DmaDescriptors :
    (∃ (srcExt : Bool) (src : BitVec 29) (dstExt : Bool) (dst : BitVec 29) (count : Fin 65536) (s : State), Live s ∧ writesOn s = false) ∧
    (∃ (srcExt : Bool) (src : BitVec 29) (dstExt : Bool) (dst : BitVec 29) (count : Fin 65536) (s : State), Live s ∧ writesOn s = true ∧ 4 ≤
      s.fabric.dma.length) ∧
    (∃ (srcExt : Bool) (src : BitVec 29) (dstExt : Bool) (dst : BitVec 29) (count : Fin 65536) (s : State) (a : Nat), Live s ∧ writesOn s = true ∧
      s.fabric.dma.length < 4 ∧ firstProtected s srcExt src.toNat (count.val + 1) = some a) ∧
    (∃ (srcExt : Bool) (src : BitVec 29) (dstExt : Bool) (dst : BitVec 29) (count : Fin 65536) (s : State), Live s ∧ writesOn s = true ∧
      s.fabric.dma.length < 4 ∧ firstProtected s srcExt src.toNat (count.val + 1) = none ∧ firstProtected s dstExt dst.toNat (count.val + 1) = none) ∧
    (∃ (found : List (Nat × BitVec 32)) (s : State), Live s ∧ s.fabric.dma = []) ∧
    (∃ (d : Dma) (r : List Dma) (s : State), Live s ∧ s.fabric.dma = d :: r ∧ d.srcExt = false ∧ d.dstExt = false ∧ d.done = 0 ∧ d.count = 1 ∧ d.src
      < 4194304 ∧ d.dst < 4194304 ∧ s.tileState (d.src / 1024) = tileGood ∧ s.tileState (d.dst / 1024) = tileGood ∧ staged s (d.dst / 1024) = false ∧
      (s.flag Fld.HIVE_STATUS_QUEEN = false ∨ d.dst / 1024 < 4032)) ∧
    (∃ (d : Dma) (r : List Dma) (s : State), Live s ∧ s.fabric.dma = d :: r ∧ d.srcExt = false ∧ d.dstExt = false ∧ d.done = 0 ∧ d.count = 1 ∧ d.src
      < 4194304 ∧ d.dst < 4194304 ∧ s.tileState (d.src / 1024) ≠ tileGood) :=
  ⟨⟨true, 3, true, 7, 2, State.reset, by decide +kernel⟩,
   ⟨true, 2, true, 0xb7, 2, (resetWith [(·.set Fld.FABRIC_STATUS_FSTATE 0), inFabric (fun f =>
     { f with dma := [⟨false, 0, false, 0, 1, 0⟩,⟨false, 0, false, 0, 1, 0⟩,⟨false, 0, false, 0, 1, 0⟩,⟨false, 0, false, 0, 1, 0⟩] })]),
     by decide +kernel⟩,
   ⟨true, 2, false, 6, 7, (resetWith [(·.set Fld.FABRIC_STATUS_FSTATE 0)]), 2, by decide +kernel⟩,
   ⟨true, 3, true, 2, 5, (resetWith [(·.set Fld.FABRIC_STATUS_FSTATE 0), (·.set (Fld.XMEM_PROT_EN 0) 0)]), by decide +kernel⟩,
   ⟨[(3, 3), (3, 7), (7, 4)], State.reset, by decide +kernel⟩,
   ⟨{ srcExt := false, src := 7173, dstExt := false, dst := 9000, count := 1, done := 0 }, [], (resetWith [inFabric (fun f =>
     { f with dma := [⟨false, 7173, false, 9000, 1, 0⟩] })]), by decide +kernel⟩,
   ⟨{ srcExt := false, src := 3072, dstExt := false, dst := 9000, count := 1, done := 0 }, [], (resetWith [inFabric (fun f =>
     { f with dma := [⟨false, 3072, false, 9000, 1, 0⟩] }), (·.setTileState 3 1)]), by decide +kernel⟩⟩

theorem witness_FabricResetsAndContexts :
    (∃ (p : Path) (s : State), Live s ∧ s.pathOpen p 0x38 = true ∧ s.expert 0x38 = false) ∧
    (∃ s : State, Live s ∧ s.fabric.releaseAt = none) ∧
    (∃ (s : State) (due : Nat), Live s ∧ s.fabric.releaseAt = some due ∧ s.ctxState 0 = ctxVerified) ∧
    (∃ (s : State) (due : Nat), Live s ∧ s.fabric.releaseAt = some due ∧ s.ctxState 0 ≠ ctxVerified ∧ s.flag Fld.UPDATE_BOOT_VALID = false) ∧
    (∃ (p : Path) (v : Word) (s : State), Live s ∧ MayWriteBasic p 0x28 s ∧ bitAt v 0 = false) ∧
    (∃ (p : Path) (v : Word) (s : State), Live s ∧ MayWriteBasic p 0x28 s ∧ bitsOf v 45 3 = s.activeCtx ∧ s.fstate = fabRunning) ∧
    (∃ (p : Path) (v : Word) (s : State), Live s ∧ MayWriteBasic p 0x28 s ∧ bitAt v 0 = true ∧ bitsOf v 45 3 ≠ s.activeCtx ∧ s.ctxState (bitsOf v 45
      3) ≠ ctxVerified) ∧
    (∃ (p : Path) (v : Word) (s : State), Live s ∧ MayWriteBasic p 0x28 s ∧ bitAt v 0 = true ∧ bitsOf v 45 3 ≠ s.activeCtx ∧ s.ctxState (bitsOf v 45
      3) = ctxVerified ∧ ctxPending s = true) ∧
    (∃ (p : Path) (v : Word) (s : State), Live s ∧ MayWriteBasic p 0x28 s ∧ bitAt v 0 = true ∧ bitsOf v 45 3 ≠ s.activeCtx ∧ s.ctxState (bitsOf v 45
      3) = ctxVerified ∧ ctxPending s = false ∧ s.fstate = fabRunning ∧ bitAt v 44 = true) ∧
    (∃ (p : Path) (v : Word) (s : State), Live s ∧ MayWriteBasic p 0x28 s ∧ bitAt v 0 = true ∧ bitsOf v 45 3 ≠ s.activeCtx ∧ s.ctxState (bitsOf v 45
      3) = ctxVerified ∧ ctxPending s = false ∧ s.fstate = fabRunning ∧ bitAt v 44 = false ∧ hiveCtxArmed s = false) ∧
    (∃ s : State, Live s ∧ s.fabric.memReady = true) ∧
    (∃ s : State, Live s ∧ s.fabric.memReady = false ∧ s.inHold = true) ∧
    (∃ s : State, Live s ∧ s.fabric.memReady = false ∧ s.inHold = false ∧ s.flag Fld.UPDATE_BOOT_VALID = false) ∧
    (∃ s : State, Live s ∧ s.fabric.memReady = false ∧ s.inHold = false ∧ s.flag Fld.UPDATE_BOOT_VALID = true ∧ s.config.load = none ∧ stagingBad s =
      false) :=
  ⟨⟨.ring, State.reset, by decide +kernel⟩,
   ⟨State.reset, by decide +kernel⟩,
   ⟨(resetWith [inFabric (fun f => { f with releaseAt := some 100 }), (·.putCtx 0 3)]), 100, by decide +kernel⟩,
   ⟨(resetWith [inFabric (fun f => { f with releaseAt := some 100 })]), 100, by decide +kernel⟩,
   ⟨.ring, 0x55d35200000, State.reset, by decide +kernel⟩,
   ⟨.ring, 0x3200000001, (resetWith [(·.set Fld.FABRIC_STATUS_FSTATE 0)]), by decide +kernel⟩,
   ⟨.ring, 0x600000000001, State.reset, by decide +kernel⟩,
   ⟨.ring, 0x400000000001, (resetWith [(·.putCtx 2 3), (fun s =>
     { s with commit := { s.commit with sets := [⟨false, 1, some 3, false, false⟩] } })]), by decide +kernel⟩,
   ⟨.ring, 0x500400000001, (resetWith [(·.set Fld.FABRIC_STATUS_FSTATE 0), (·.putCtx 2 3)]), by decide +kernel⟩,
   ⟨.fabric, 0x47f353820fbf, (resetWith [(·.set Fld.FABRIC_STATUS_FSTATE 0), (·.putCtx 2 3)]), by decide +kernel⟩,
   ⟨(resetWith [inFabric (fun f => { f with memReady := true })]), by decide +kernel⟩,
   ⟨(resetWith [(·.set Fld.CLOCK_POWER_STATE 3)]), by decide +kernel⟩,
   ⟨State.reset, by decide +kernel⟩,
   ⟨(resetWith [(·.set Fld.UPDATE_BOOT_VALID 1)]), by decide +kernel⟩⟩

end Fabric

namespace Config
def inConfig (f : ConfigState → ConfigState) (s : State) : State := { s with config := f s.config }
def putStore (l off : Nat) (ws : List Word) (s : State) : State := { s with store := { s.store with bytes := Table.putList (fun _ => 0) s.store.bytes (65536 * s.physOf l + off) (ws.flatMap wordBytes) } }
def streamHeader (kind : Nat) (mask : Word) (n id : Nat) : List Word := [packWord [(32,16,0x4353),(24,8,1),(20,4,kind)], mask, packWord [(0,32,n)], packWord [(28,20,id)]]
def load2 : Load := ⟨2, 100, false, false, 6, 5, 9⟩
def load3 : Load := ⟨3, 101, false, false, 6, 2000, 9⟩
def load9 : Load := ⟨9, 3000, false, false, 5000, 3, 0⟩
def load7 : Load := ⟨7, 1791, false, false, 4095, 1500, 1099511627776⟩
def putStaging (a : Nat) (ws : List Word) (s : State) : State := { s with fabric := { s.fabric with mem := Table.putList (fun _ => 0) s.fabric.mem a ws } }

theorem witness_ConfigurationLoads :
    (∃ (p : Path) (v : Word) (s : State), Live s ∧ MayWriteBasic p 0x28 s ∧ bitAt v 0 = false) ∧
    (∃ (p : Path) (v : Word) (s : State), Live s ∧ MayWriteBasic p 0x28 s ∧ bitAt v 0 = true ∧ s.config.load.isSome = true) ∧
    (∃ (p : Path) (v : Word) (s : State), Live s ∧ MayWriteBasic p 0x28 s ∧ bitAt v 0 = true ∧ s.config.load = none ∧ bitsOf v 34 3 = s.activeCtx) ∧
    (∃ (p : Path) (v : Word) (s : State), Live s ∧ MayWriteBasic p 0x28 s ∧ bitAt v 0 = true ∧ s.config.load = none ∧ bitsOf v 34 3 ≠ s.activeCtx ∧
      stagingBad s = true) ∧
    (∃ (p : Path) (v : Word) (s : State), Live s ∧ MayWriteBasic p 0x28 s ∧ bitAt v 0 = true ∧ s.config.load = none ∧ bitsOf v 34 3 ≠ s.activeCtx ∧
      stagingBad s = false) ∧
    (∃ (p : Path) (v : Word) (s : State), Live s ∧ MayWriteBasic p 0x28 s ∧ s.config.load.isSome = true) ∧
    (∃ (p : Path) (v : Word) (s : State), Live s ∧ MayWriteBasic p 0x28 s ∧ s.config.load = none) ∧
    (∃ (s : State) (found : List (Nat × BitVec 32)) (flips : List (Nat × Nat)), Live s ∧ (s.config.load = none ∨ s.loader ≠ loaderCopy)) ∧
    (∃ (s : State) (found : List (Nat × BitVec 32)) (flips : List (Nat × Nat)), Live s ∧ (s.config.load = none ∨ s.loader ≠ loaderCheck)) ∧
    (∃ (s : State) (found : List (Nat × BitVec 32)) (flips : List (Nat × Nat)), Live s ∧ (s.config.load = none ∨ s.loader ≠ loaderWrite)) ∧
    (∃ (s : State) (found : List (Nat × BitVec 32)) (flips : List (Nat × Nat)), Live s ∧ (s.config.load = none ∨ s.loader ≠ loaderVerify)) ∧
    (∃ (l : Load) (s : State), Live s ∧ s.config.load = some l ∧ s.loader = loaderCopy ∧ l.forReset = false ∧ l.forActivation = false ∧ (headerCause
      s l).1 ≠ 0 ∧ (headerCause s l).1 < 16) ∧
    (∃ (l : Load) (s : State), Live s ∧ s.config.load = some l ∧ s.loader = loaderCopy ∧ l.forReset = false ∧ l.forActivation = false ∧ (headerCause
      s l).1 = 0 ∧ (∀ k, k < l.words → s.tileState ((1024 * l.stage + k) / 1024) = tileGood)) ∧
    (∃ (l : Load) (s : State), Live s ∧ s.config.load = some l ∧ s.loader = loaderCheck ∧ l.forReset = false ∧ l.forActivation = false ∧ l.ctx < 8 ∧
      (∀ k, k < ceilDiv l.words 1024 → s.tileState (l.stage + k) = tileGood) ∧ (recordsCause s l).1 < 16) ∧
    (∃ (l : Load) (flips : List (Nat × Nat)) (s : State), Live s ∧ s.config.load = some l ∧ s.loader = loaderWrite ∧ l.forReset = false ∧
      l.forActivation = false ∧ l.ctx < 8 ∧ (writeRecords l flips (recordCount s l) 0 (s.elapseTo (l.start + 65 * recordCount s l))).1 = recordCount
      s l) ∧
    (∃ (l : Load) (flips : List (Nat × Nat)) (s : State), Live s ∧ s.config.load = some l ∧ s.loader = loaderWrite ∧ l.forReset = false ∧
      l.forActivation = false ∧ l.ctx < 8 ∧ (writeRecords l flips (recordCount s l) 0 (s.elapseTo (l.start + 65 * recordCount s l))).1 < recordCount
      s l) ∧
    (∃ (l : Load) (s : State), Live s ∧ s.config.load = some l ∧ s.loader = loaderVerify ∧ verifying s = false ∧ s.slot ≠ slotChecking ∧ s.fstate ≠
      fabLoading) ∧
    (∃ (l : Load) (s : State), Live s ∧ s.config.load = some l ∧ s.loader = loaderVerify ∧ verifying s = false ∧ s.slot ≠ slotChecking ∧ s.fstate =
      fabLoading ∧ s.ctxState 0 = ctxVerified) :=
  ⟨⟨.ring, 0, State.reset, by decide +kernel⟩,
   ⟨.ring, 0xcac00020001, (resetWith [inConfig (fun c => { c with load := some load7})]), by decide +kernel⟩,
   ⟨.waggle, 1, State.reset, by decide +kernel⟩,
   ⟨.ring, 0xc8800000009, (resetWith [(·.set Fld.CONFIG_STAGE_FIRST 4090)]), by decide +kernel⟩,
   ⟨.ring, 0xc8800000001, State.reset, by decide +kernel⟩,
   ⟨.ring, 0, (resetWith [inConfig (fun c => { c with load := some load9})]), by decide +kernel⟩,
   ⟨.ring, 0x55d35200000, State.reset, by decide +kernel⟩,
   ⟨State.reset, [(6, 0xffffffff)], [], by decide +kernel⟩,
   ⟨State.reset, [(6, 0xffffffff)], [], by decide +kernel⟩,
   ⟨State.reset, [(6, 0xffffffff)], [], by decide +kernel⟩,
   ⟨State.reset, [(3, 0x64), (100, 0x64)], [(7, 3)], by decide +kernel⟩,
   ⟨{ ctx := 7, sector := 1791, forReset := false, forActivation := false, stage := 4095, words := 1500, start := 1099511627776 }, (resetWith [(·.set
     Fld.CONFIG_LOAD_STAT_STATE 1), inConfig (fun c => { c with load := some load7})]), by decide +kernel⟩,
   ⟨{ ctx := 2, sector := 100, forReset := false, forActivation := false, stage := 6, words := 5, start := 9 }, (resetWith [inConfig (fun c =>
     { c with load := some load2 }), putStore 100 0 (streamHeader 2 8 16674 0x1D896), (·.putCtx 2 ctxVerified), (·.set Fld.CONFIG_LOAD_STAT_STATE
     1)]), by decide +kernel⟩,
   ⟨{ ctx := 7, sector := 1791, forReset := false, forActivation := false, stage := 4095, words := 1500, start := 1099511627776 }, (resetWith
     [inConfig (fun c => { c with load := some load7}), (·.set Fld.CONFIG_LOAD_STAT_STATE 2)]), by decide +kernel⟩,
   ⟨{ ctx := 7, sector := 1791, forReset := false, forActivation := false, stage := 4095, words := 1500, start := 1099511627776 }, [], (resetWith
     [inConfig (fun c => { c with load := some load7}), (·.set Fld.CONFIG_LOAD_STAT_STATE 3)]), by decide +kernel⟩,
   ⟨{ ctx := 3, sector := 101, forReset := false, forActivation := false, stage := 6, words := 2000, start := 9 }, [(0, 0), (0, 1)], (resetWith
     [inConfig (fun c => { c with load := some load3 }), putStaging 6144 [1,1], (·.set Fld.CONFIG_LOAD_STAT_STATE 3)]), by decide +kernel⟩,
   ⟨{ ctx := 3, sector := 101, forReset := false, forActivation := false, stage := 6, words := 2000, start := 9 }, (resetWith [inConfig (fun c =>
     { c with load := some load3 }), (·.set Fld.CONFIG_LOAD_STAT_STATE 4)]), by decide +kernel⟩,
   ⟨{ ctx := 7, sector := 1791, forReset := false, forActivation := false, stage := 4095, words := 1500, start := 1099511627776 }, (resetWith
     [(·.putCtx 0 3), (·.set Fld.FABRIC_STATUS_FSTATE 2), inConfig (fun c => { c with load := some load7}), (·.set Fld.CONFIG_LOAD_STAT_STATE 4)]),
     by decide +kernel⟩⟩

theorem witness_ScrubberSlotsAndVotes :
    (∃ (flips : List (Fin 3088)) (s : State), Live s ∧ s.config.detours = [] ∧ readable s (slotCtx s) = false ∧ s.config.slot + 1 < 98304) ∧
    (∃ (flips : List (Fin 3088)) (s : State), Live s ∧ s.config.detours = [] ∧ readable s (slotCtx s) = false ∧ s.config.slot + 1 = 98304) ∧
    (∃ s : State, Live s ∧ s.config.detours = [] ∧ readable s (slotCtx s) = true ∧ slotFa s % 256 ≠ 255 ∧ s.config.slot + 1 < 98304 ∧ decodeWords
      (frameWords s (slotCtx s) (slotFa s)) = .clean) ∧
    (∃ (s : State) (pos : Nat), Live s ∧ s.config.detours = [] ∧ readable s (slotCtx s) = true ∧ slotFa s % 256 ≠ 255 ∧ s.config.slot + 1 < 98304 ∧
      decodeWords (frameWords s (slotCtx s) (slotFa s)) = .single pos ∧ s.flag Fld.SCRUB_STATUS_MAP_DONE = false) ∧
    (∃ s : State, Live s ∧ s.config.waits = []) ∧
    (∃ s : State, Live s) ∧
    (∃ (s : State) (k : Fin 3), Live s ∧ s.config.copiesOut = [] ∧ s.fault.tests = []) ∧
    (∃ (p : Path) (v : Word) (s : State), Live s ∧ MayWriteBasic p 0x29 s ∧ bitsOf v 43 2 = 3) ∧
    (∃ (p : Path) (v : Word) (s : State), Live s ∧ MayWriteBasic p 0x29 s ∧ bitsOf v 43 2 ≠ 3) ∧
    (∃ (p : Path) (v : Word) (s : State), Live s ∧ MayWriteBasic p 0x29 s ∧ bitAt v 0 = true) ∧
    (∃ (p : Path) (v : Word) (s : State), Live s ∧ MayWriteBasic p 0x29 s ∧ bitAt v 0 = false) :=
  ⟨⟨[152], State.reset, by decide +kernel⟩,
   ⟨[152], (resetWith [inConfig (fun c => { c with slot := 98303, detours := [] })]), by decide +kernel⟩,
   ⟨(resetWith [(·.putCtx 3 ctxUnverified), inConfig (fun c => { c with slot := 3*12288 + 5, detours := [], base := 0 })]), by decide +kernel⟩,
   ⟨(resetWith [(·.putCtx 3 ctxUnverified), inConfig (fun c => { c with slot := 3*12288 + 5 }), inConfig (fun c =>
     { c with frames := Table.put (fun _ => 0) c.frames ((12288 * 3 + 5)*65 + 3) 1})]), 152, by decide +kernel⟩,
   ⟨State.reset, by decide +kernel⟩,
   ⟨State.reset, by decide +kernel⟩,
   ⟨State.reset, 1, by decide +kernel⟩,
   ⟨.ring, 0x7dcc78049b51, State.reset, by decide +kernel⟩,
   ⟨.ring, 0, State.reset, by decide +kernel⟩,
   ⟨.ring, 0xcac00020001, State.reset, by decide +kernel⟩,
   ⟨.ring, 0, State.reset, by decide +kernel⟩⟩

end Config

namespace Update
def inUpdate (f : UpdateState → UpdateState) (s : State) : State := { s with update := f s.update }
def inStore (f : StoreState → StoreState) (s : State) : State := { s with store := f s.store }
def putImg (a : Nat) (bs : List Byte) (s : State) : State := { s with store := { s.store with bytes := Table.putList (fun _ => 0) s.store.bytes (65536 * s.store.reserved.getD 0 0 + a) bs } }
def imageHeader (cls pieces nsec siv : Nat) : List Word := [packWord [(32,16,0x5549),(24,8,1),(20,4,cls),(15,5,nsec),(0,13,pieces)],0,0,0,0,0,packWord [(32,16,siv),(16,16,siv+1)],packWord [(16,32,pieces*4096)],packWord [(40,8,3)]]
def imageSector (image n target kind ctx : Nat) : List Word := [packWord [(40,8,image),(32,8,n),(21,11,target),(18,3,kind),(15,3,ctx)], packWord [(16,32,5)]]
def image (cls pieces siv target kind ctx : Nat) (s : State) : State := putImg 0 (((imageHeader cls pieces 1 siv) ++ List.replicate 18 0 ++ imageSector 1 1 target kind ctx).flatMap wordBytes) s
def pieceJob : StoreJob := ⟨false, 1, 3, [5,6,7], none⟩
def ctrlJob : StoreJob := ⟨true, 100, 3, [5,6,7], none⟩
def piecePacket (n d sd : Nat) (ix : Nat) : Packet := mkPacket d sd planeManagement 0x10 7 (packWord [(32,16,ix)] :: List.replicate (n-1) 0)
def gx : List Word := let n := 0x6b17d1f2e12c4247f8bce6e563a440f277037d812deb33a0f4a13945d898c2964fe342e2fe1a7f9b8ee7eb4a7c0f9e162bce33576b315ececbb6406837bf51f5 * 65536
  (List.range 11).map fun k => BitVec.ofNat 48 (n / 2^(48*(10-k)))
def fifthPiece : Table Word := [(0, packWord [(32, 16, 5)])]
def fifthPieceCrc : BitVec 32 := crc32c (pieceBytes ((List.range 683).map fun n => Table.get (fun _ => 0) fifthPiece n))
def receiving (c : BitVec 32) : State :=
  (((({ State.reset with
    store := { State.reset.store with
      reserved := [1792, 1800, 1801]
      bytes := [(65536 * 1792 + 4048, c.extractLsb' 24 8), (65536 * 1792 + 4049, c.extractLsb' 16 8), (65536 * 1792 + 4050, c.extractLsb' 8 8),
        (65536 * 1792 + 4051, c.extractLsb' 0 8)] }
    update := { State.reset.update with pieceBuf := fifthPiece } } : State).putSlot 1).set Fld.UPDATE_BASIC_RX_EN 1).set Fld.UPDATE_IMAGE_PIECES 40)
theorem receiving_crc (c : BitVec 32) : pieceCrc (receiving c) 5 bs = decide ((crc32c bs).toNat = c.toNat) := by
  have h : (List.range 4).map (fun k => imageByte (receiving c) (4048 + k)) =
      [c.extractLsb' 24 8, c.extractLsb' 16 8, c.extractLsb' 8 8, c.extractLsb' 0 8] := by
    have j : (receiving c).store.jobs = [] := rfl
    have r : (receiving c).store.reserved = [1792, 1800, 1801] := rfl
    have y : (receiving c).store.bytes = [(117444560, c.extractLsb' 24 8), (117444561, c.extractLsb' 16 8), (117444562, c.extractLsb' 8 8),
        (117444563, c.extractLsb' 0 8)] := rfl
    simp [List.range_succ, imageByte, waitingPiece, State.imageByteStored, j, r, y, Table.get]
  have b : bytes4 [c.extractLsb' 24 8, c.extractLsb' 16 8, c.extractLsb' 8 8, c.extractLsb' 0 8] = c.toNat := by
    simp [bytes4, List.range_succ, Nat.shiftRight_eq_div_pow]; omega
  show decide ((crc32c bs).toNat = bytes4 ((List.range 4).map fun k => imageByte (receiving c) (4048 + k))) = _
  rw [h, b]
theorem fifthPieceIsGood : pieceCrc (receiving fifthPieceCrc) 5 (pieceBytes ((List.range 683).map fun n => Table.get (fun _ => 0) (receiving fifthPieceCrc).update.pieceBuf n)) = true := by
  rw [receiving_crc]
  simp only [decide_eq_true_eq]
  rfl
theorem witness_StorePieceWritesAndReads :
    (∃ (p : Path) (v : Word) (s : State), Live s ∧ MayWriteBasic p 0x2A s ∧ bitAt v 0 = false) ∧
    (∃ (p : Path) (v : Word) (s : State), Live s ∧ MayWriteBasic p 0x2A s ∧ bitAt v 0 = true ∧ opActive s 0x2A = true) ∧
    (∃ (p : Path) (v : Word) (s : State), Live s ∧ MayWriteBasic p 0x2A s ∧ bitAt v 0 = true ∧ opActive s 0x2A = false ∧ bitAt v 32 = true ∧ (bitsOf
      v 37 11 < 80 ∨ 1792 ≤ bitsOf v 37 11 ∨ s.slot = slotActivating)) ∧
    (∃ (p : Path) (v : Word) (s : State), Live s ∧ MayWriteBasic p 0x2A s ∧ bitAt v 0 = true ∧ opActive s 0x2A = false ∧ bitAt v 32 = true ∧ 80 ≤
      bitsOf v 37 11 ∧ bitsOf v 37 11 < 1792 ∧ s.slot ≠ slotActivating) ∧
    (∃ (p : Path) (v : Word) (s : State), Live s ∧ MayWriteBasic p 0x2A s ∧ bitAt v 0 = true ∧ opActive s 0x2A = false ∧ bitAt v 32 = false ∧ bitsOf
      v 37 11 < 16) ∧
    (∃ (p : Path) (v : Word) (s : State), Live s ∧ MayWriteBasic p 0x2A s ∧ bitAt v 0 = true ∧ opActive s 0x2A = false ∧ bitAt v 32 = false ∧ 16 ≤
      bitsOf v 37 11 ∧ bitsOf v 37 11 < 1792) ∧
    (∃ (ok : Bool) (s : State), Live s ∧ s.store.jobs = []) ∧
    (∃ (j : StoreJob) (r : List StoreJob) (s : State), Live s ∧ s.store.jobs = j :: r ∧ s.slot ≠ slotActivating ∧ j.ctrl = true ∧ s.readOnly
      (s.physOf j.sector) = false) ∧
    (∃ (j : StoreJob) (r : List StoreJob) (s : State), Live s ∧ s.store.jobs = j :: r ∧ s.slot ≠ slotActivating ∧ j.ctrl = true ∧ s.readOnly
      (s.physOf j.sector) = true ∧ s.store.pool = []) ∧
    (∃ (j : StoreJob) (r : List StoreJob) (s : State), Live s ∧ s.store.jobs = j :: r ∧ s.slot ≠ slotActivating ∧ j.ctrl = false ∧ s.readOnly
      (s.store.reserved.getD j.sector 0) = false ∧ s.update.sinceCommit + 1 < 64 ∧ (∃ i, i < imagePieces s ∧ i ≠ 16 * j.sector + j.piece ∧
      pieceReceived s i = false)) :=
  ⟨⟨.waggle, 0x54a800000000, State.reset, by decide +kernel⟩,
   ⟨.ring, 0x7dcc78049b51, (resetWith [(opStart · 0x2A 1)]), by decide +kernel⟩,
   ⟨.waggle, 0xe00100000001, State.reset, by decide +kernel⟩,
   ⟨.ring, 0xc8700000001, State.reset, by decide +kernel⟩,
   ⟨.ring, 1, State.reset, by decide +kernel⟩,
   ⟨.ring, 0xc8600000001, State.reset, by decide +kernel⟩,
   ⟨true, State.reset, by decide +kernel⟩,
   ⟨{ ctrl := true, sector := 100, piece := 3, data := [0x000000000005#48, 0x000000000006#48, 0x000000000007#48], request := none }, [], (resetWith
     [inStore (fun x => { x with jobs := [ctrlJob] })]), by decide +kernel⟩,
   ⟨ctrlJob, [], (resetWith [inStore (fun x => { x with jobs := [ctrlJob], pool := [], writes := [(100, 100000)] })]), by decide +kernel⟩,
   ⟨{ ctrl := false, sector := 1, piece := 3, data := [0x000000000005#48, 0x000000000006#48, 0x000000000007#48], request := none },
     [{ ctrl := true, sector := 100, piece := 3, data := [0x000000000005#48, 0x000000000006#48, 0x000000000007#48], request := none }], (resetWith
     [(·.set Fld.UPDATE_IMAGE_PIECES 5), inStore (fun x => { x with jobs := [pieceJob, ctrlJob] })]), by decide +kernel, by decide +kernel,
     by decide +kernel, by decide +kernel, by decide +kernel, by decide +kernel, ⟨0, by decide +kernel⟩⟩⟩

theorem witness_ImagePiecesAndVerification :
    (∃ (k : Packet) (r : List Packet) (s : State), Live s ∧ Arrived planeManagement 0x10 k r s ∧ s.flag Fld.UPDATE_BASIC_RX_EN = false) ∧
    (∃ (k : Packet) (r : List Packet) (s : State), Live s ∧ Arrived planeManagement 0x10 k r s ∧ s.flag Fld.UPDATE_BASIC_RX_EN = true ∧ s.slot =
      slotReceiving ∧ k.payload.length ≠ 683) ∧
    (∃ (p : Path) (s : State), Live s ∧ s.pathOpen p 0x2B = true ∧ s.expert 0x2B = false ∧ (s.slot = slotVerifying ∨ s.slot = slotActivating ∨ s.slot
      = slotChecking)) ∧
    (∃ (p : Path) (s : State), Live s ∧ s.pathOpen p 0x2B = true ∧ s.expert 0x2B = false ∧ s.flag Fld.UPDATE_BASIC_RX_EN = true ∧ s.slot = slotEmpty
      ∧ (s.store.jobs.filter fun j => !j.ctrl).length < 2 ∧ bitsOf (Table.get (fun _ => 0) s.update.pieceBuf 0) 32 16 ≠ 0) ∧
    (∃ (p : Path) (s : State), Live s ∧ s.pathOpen p 0x2B = true ∧ s.expert 0x2B = false ∧ s.flag Fld.UPDATE_BASIC_RX_EN = true ∧ s.slot =
      slotReceiving ∧ 2 ≤ (s.store.jobs.filter fun j => !j.ctrl).length) ∧
    (∃ (p : Path) (s : State) (i : Nat), Live s ∧ s.pathOpen p 0x2B = true ∧ s.expert 0x2B = false ∧ s.flag Fld.UPDATE_BASIC_RX_EN = true ∧ s.slot =
      slotReceiving ∧ (s.store.jobs.filter fun j => !j.ctrl).length < 2 ∧ i = bitsOf (Table.get (fun _ => 0) s.update.pieceBuf 0) 32 16 ∧ i ≠ 0 ∧ i <
      imagePieces s ∧ pieceReceived s i = false ∧ (i < 16 ∨ pieceReceived s (1 + i / 1024) = true) ∧ pieceCrc s i (pieceBytes ((List.range 683).map
      fun n => Table.get (fun _ => 0) s.update.pieceBuf n)) = true) ∧
    (∃ (a : PieceAnswer) (r : List PieceAnswer) (s : State), Live s ∧ s.update.answers = a :: r ∧ a.status < 16 ∧ a.request = none) ∧
    (∃ (a : PieceAnswer) (r : List PieceAnswer) (s : State) (k : Packet), Live s ∧ s.update.answers = a :: r ∧ a.status < 16 ∧ a.request = some k ∧
      pktDest k = broadcast) ∧
    (∃ (a : PieceAnswer) (r : List PieceAnswer) (s : State) (k : Packet), Live s ∧ s.update.answers = a :: r ∧ a.status < 16 ∧ a.request = some k ∧
      pktDest k ≠ broadcast ∧ MaySend (pktSource k) s ∧ a.status = 0 ∧ pktSource k < 128) ∧
    (∃ s : State, Live s ∧ s.update.answers = []) ∧
    (∃ s : State, Live s ∧ s.slot ≠ slotVerifying) ∧
    (∃ s : State, Live s ∧ s.slot = slotVerifying) ∧
    (∃ (p : Path) (s : State), Live s ∧ s.pathOpen p 0x2B = true ∧ s.expert 0x2B = false ∧ (s.slot = slotActivating ∨ s.slot = slotChecking)) ∧
    (∃ (p : Path) (s : State), Live s ∧ s.pathOpen p 0x2B = true ∧ s.expert 0x2B = false ∧ s.slot = slotEmpty) ∧
    (∃ (p : Path) (s : State), Live s ∧ s.pathOpen p 0x2B = true ∧ s.expert 0x2B = false ∧ s.slot ≠ slotActivating ∧ s.slot ≠ slotChecking ∧ s.slot ≠
      slotEmpty) :=
  ⟨⟨{ header := 0xfe14d0007003#48, payload := [0x000500000000#48, 0x000000000000#48, 0x000000000000#48], aborts := false }, [], (resetWith [(fun s =>
     { s with ring := { s.ring with inbox := [piecePacket 3 255 5 5] } })]), by decide +kernel⟩,
   ⟨piecePacket 3 255 5 5, [], (resetWith [(·.putSlot 1), (·.set Fld.UPDATE_BASIC_RX_EN 1), (fun s =>
     { s with ring := { s.ring with inbox := [piecePacket 3 255 5 5] } })]), by decide +kernel⟩,
   ⟨.ring, (resetWith [(·.putSlot 5)]), by decide +kernel⟩,
   ⟨.waggle, (resetWith [(·.set Fld.UPDATE_BASIC_RX_EN 1), inUpdate (fun u => { u with pieceBuf := [(0, packWord [(32,16,17)]), (600, 7)] })]),
     by decide +kernel⟩,
   ⟨.ring, (resetWith [(·.set Fld.UPDATE_BASIC_RX_EN 1), inStore (fun x => { x with jobs := [pieceJob, pieceJob] }), (·.putSlot 1)]),
     by decide +kernel⟩,
   by refine ⟨.ring, (receiving fifthPieceCrc), 5, ⟨rfl, rfl, rfl⟩, ?_, ?_, ?_, ?_, ?_, ?_, ?_, ?_, ?_, ?_, fifthPieceIsGood⟩ <;> decide +kernel,
   ⟨{ request := none, status := 3, index := 70000 }, [], (resetWith [(fun s =>
     { s with update := { s.update with answers := [⟨none, 3, 70000⟩] } })]), by decide +kernel⟩,
   ⟨{ request := some { header := 0xfe24d0007003#48, payload := [0x000300000000#48, 0x000000000000#48, 0x000000000000#48], aborts := false }, status := 0, index := 4 },
     [], (resetWith [(fun s => { s with update := { s.update with answers := [⟨some (piecePacket 3 255 9 3), 0, 4⟩] } })]),
     { header := 0xfe24d0007003#48, payload := [0x000300000000#48, 0x000000000000#48, 0x000000000000#48], aborts := false }, by decide +kernel⟩,
   ⟨{ request := some { header := 0x0a24d0007003#48, payload := [0x000300000000#48, 0x000000000000#48, 0x000000000000#48], aborts := false }, status := 0, index := 4 },
     [], (resetWith [(·.set Fld.HIVE_ROLE_ADDR 9), (fun s =>
     { s with update := { s.update with answers := [⟨some (piecePacket 3 5 9 3), 0, 4⟩] } })]),
     { header := 0x0a24d0007003#48, payload := [0x000300000000#48, 0x000000000000#48, 0x000000000000#48], aborts := false }, by decide +kernel⟩,
   ⟨State.reset, by decide +kernel⟩,
   ⟨State.reset, by decide +kernel⟩,
   ⟨(resetWith [(fun s => s.putSlot 2)]), by decide +kernel⟩,
   ⟨.ring, (resetWith [(·.putSlot 5)]), by decide +kernel⟩,
   ⟨.ring, State.reset, by decide +kernel⟩,
   ⟨.ring, (resetWith [(·.putSlot 3)]), by decide +kernel⟩⟩

theorem witness_ActivationsAndChecks :
    (∃ (p : Path) (s : State), Live s ∧ s.pathOpen p 0x2B = true ∧ s.expert 0x2B = false ∧ s.slot ≠ slotReady) ∧
    (∃ (p : Path) (s : State), Live s ∧ s.pathOpen p 0x2B = true ∧ s.expert 0x2B = false ∧ s.slot = slotReady ∧ s.inHold = false ∧ imageClass s =
      classHive ∧ s.addr ≠ 0) ∧
    (∃ (p : Path) (s : State), Live s ∧ s.pathOpen p 0x2B = true ∧ s.expert 0x2B = false ∧ s.slot = slotReady ∧ s.inHold = false ∧ imageClass s =
      classHive ∧ s.addr = 0) ∧
    (∃ (p : Path) (s : State), Live s ∧ s.pathOpen p 0x2B = true ∧ s.expert 0x2B = false ∧ s.slot = slotReady ∧ s.inHold = false ∧ imageClass s ≠
      classHive ∧ activateCause s ≠ 0) ∧
    (∃ (p : Path) (s : State), Live s ∧ s.pathOpen p 0x2B = true ∧ s.expert 0x2B = false ∧ s.slot = slotReady ∧ s.inHold = false ∧ imageClass s ≠
      classHive ∧ activateCause s = 0 ∧ (s.config.load.isSome = true ∨ opActive s 0x2B = true)) ∧
    (∃ (p : Path) (s : State), Live s ∧ s.pathOpen p 0x2B = true ∧ s.expert 0x2B = false ∧ s.slot = slotReady ∧ s.inHold = false ∧ imageClass s =
      classStation ∧ activateCause s = 0 ∧ s.config.load = none ∧ opActive s 0x2B = false) ∧
    (∃ s : State, Live s ∧ s.hive.activate = none) ∧
    (∃ (s : State) (w : Word), Live s ∧ s.hive.activate = some w ∧ (s.slot ≠ slotReady ∨ imageClass s ≠ classHive ∨ slotImage s % 65536 ≠ bitsOf w 0
      16)) ∧
    (∃ (s : State) (w : Word), Live s ∧ s.hive.activate = some w ∧ s.inHold = false ∧ s.slot = slotReady ∧ imageClass s = classHive ∧ slotImage s %
      65536 = bitsOf w 0 16) ∧
    (∃ s : State, Live s ∧ s.update.activatedAt = none) ∧
    (∃ (s : State) (due : Nat), Live s ∧ s.update.activatedAt = some due ∧ s.update.streams = [] ∧ s.update.bootSector = none ∧ s.config.load = none
      ∧ s.update.requireAccept = true) ∧
    (∃ (s : State) (due : Nat), Live s ∧ s.update.activatedAt = some due ∧ s.update.streams = [] ∧ s.update.bootSector = none ∧ s.config.load = none
      ∧ s.update.requireAccept = false ∧ s.update.marker = false) ∧
    (∃ (p : Path) (s : State), Live s ∧ s.pathOpen p 0x2B = true ∧ s.expert 0x2B = false ∧ (s.slot ≠ slotChecking ∨ s.update.checkStart = none)) ∧
    (∃ (p : Path) (s : State), Live s ∧ s.pathOpen p 0x2B = true ∧ s.expert 0x2B = false ∧ s.slot = slotChecking ∧ s.update.checkStart.isSome = true
      ∧ (s.update.toLoad ≠ [] ∨ s.update.loadFailed = true ∨ s.update.marker = true)) ∧
    (∃ (p : Path) (s : State), Live s ∧ s.pathOpen p 0x2B = true ∧ s.expert 0x2B = false ∧ s.slot = slotChecking ∧ s.update.checkStart.isSome = true
      ∧ s.update.toLoad = [] ∧ s.update.loadFailed = false ∧ s.update.marker = false ∧ s.config.load = none ∧ (∀ e ∈ s.update.streams, s.ctxState e.1
      = ctxVerified) ∧ (∀ since : Nat, s.update.checkStart = some since → s.now < since + 1920000 * s.update.checkTime)) ∧
    (∃ s : State, Live s ∧ (s.update.checkStart = none ∨ s.slot ≠ slotChecking ∨ s.update.marker = true)) ∧
    (∃ (s : State) (since : Nat), Live s ∧ s.update.checkStart = some since ∧ s.slot = slotChecking ∧ s.update.marker = false) ∧
    (∃ (ok : Bool) (s : State), Live s ∧ (s.update.marker = false ∨ s.slot ≠ slotChecking)) ∧
    (∃ (ok : Bool) (s : State), Live s ∧ s.update.marker = true ∧ s.slot = slotChecking ∧ ok = true ∧ s.flag Fld.UPDATE_STATUS_MC_READY = true ∧
      s.now ≤ reportBy s) ∧
    (∃ (ok : Bool) (s : State), Live s ∧ s.update.marker = true ∧ s.slot = slotChecking ∧ (ok = false ∨ s.flag Fld.UPDATE_STATUS_MC_READY = false ∨
      reportBy s < s.now)) ∧
    (∃ (ok : Bool) (s : State), Live s ∧ (s.flag Fld.UPDATE_STATUS_MC_READY = true ∨ s.inHold = true)) ∧
    (∃ (ok : Bool) (s : State), Live s ∧ s.flag Fld.UPDATE_STATUS_MC_READY = false ∧ s.inHold = false ∧ ok = true) ∧
    (∃ (ok : Bool) (s : State), Live s ∧ s.flag Fld.UPDATE_STATUS_MC_READY = false ∧ s.inHold = false ∧ ok = false) :=
  ⟨⟨.ring, State.reset, by decide +kernel⟩,
   ⟨.ring, (resetWith [(·.set Fld.UPDATE_STATUS_CLASS 1), (·.set Fld.HIVE_ROLE_ADDR 9), (fun s => s.putSlot 3)]), by decide +kernel⟩,
   ⟨.ring, (resetWith [(·.set Fld.UPDATE_STATUS_CLASS 1), (fun s => s.putSlot 3)]), by decide +kernel⟩,
   ⟨.ring, (resetWith [image 2 40 0 200 1 0, (fun s => s.putSlot 3)]), by decide +kernel⟩,
   ⟨.ring, (resetWith [(opStart · 0x2B 1), (fun s => s.putSlot 3)]), by decide +kernel⟩,
   ⟨.ring, (resetWith [(·.set Fld.UPDATE_STATUS_CLASS 2), (fun s => s.putSlot 3)]), by decide +kernel⟩,
   ⟨State.reset, by decide +kernel⟩,
   ⟨(resetWith [(fun s => { s with hive := { s.hive with activate := some 0x51235 } })]), 0x51235, by decide +kernel⟩,
   ⟨(resetWith [(·.set Fld.UPDATE_STATUS_CLASS 1), (·.set Fld.UPDATE_IMAGE_IMAGE_ID 0x51234), (fun s =>
     { s with hive := { s.hive with activate := some 0x1234 } }), (fun s => s.putSlot 3)]), 0x1234, by decide +kernel⟩,
   ⟨State.reset, by decide +kernel⟩,
   ⟨(resetWith [inUpdate (fun u => { u with activatedAt := some 700 }), inUpdate (fun u => { u with requireAccept := true })]), 700,
     by decide +kernel⟩,
   ⟨(resetWith [inUpdate (fun u => { u with activatedAt := some 700 })]), 700, by decide +kernel⟩,
   ⟨.ring, State.reset, by decide +kernel⟩,
   ⟨.ring, (resetWith [inUpdate (fun u => { u with marker := true }), inUpdate (fun u => { u with checkStart := some 900 }), (·.putSlot 6)]),
     by decide +kernel⟩,
   ⟨.service, (resetWith [inUpdate (fun u => { u with checkStart := some 900 }), (·.set Fld.CLOCK_POWER_STATE 3), (·.putSlot 6)]), by decide +kernel⟩,
   ⟨State.reset, by decide +kernel⟩,
   ⟨(resetWith [inUpdate (fun u => { u with checkStart := some 900 }), (·.putSlot 6)]), 900, by decide +kernel⟩,
   ⟨true, State.reset, by decide +kernel⟩,
   ⟨true, (resetWith [inUpdate (fun u => { u with marker := true }), (·.set Fld.UPDATE_STATUS_MC_READY 1), (·.putSlot 6)]), by decide +kernel⟩,
   ⟨true, (resetWith [inUpdate (fun u => { u with marker := true }), (·.putSlot 6)]), by decide +kernel⟩,
   ⟨true, (resetWith [(·.set Fld.CLOCK_POWER_STATE 3)]), by decide +kernel⟩,
   ⟨true, State.reset, by decide +kernel⟩,
   ⟨false, State.reset, by decide +kernel⟩⟩

theorem witness_KeyAndBootRecord :
    (∃ (p : Path) (s : State), Live s ∧ s.pathOpen p 0x2B = true ∧ s.expert 0x2B = false ∧ (s.update.key.isSome = true ∨ onCurve (first512
      ((List.range 11).map fun k => Table.get (fun _ => 0) s.update.keyBuf k)) = false)) ∧
    (∃ (p : Path) (s : State), Live s ∧ s.pathOpen p 0x2B = true ∧ s.expert 0x2B = false ∧ s.update.key = none ∧ onCurve (first512 ((List.range
      11).map fun k => Table.get (fun _ => 0) s.update.keyBuf k)) = true) ∧
    (∃ (p : Path) (v : Word) (s : State), Live s ∧ MayWriteBasic p 0x2B s ∧ (bitsOf v 36 11 < 80 ∨ 1792 ≤ bitsOf v 36 11)) ∧
    (∃ (p : Path) (v : Word) (s : State), Live s ∧ MayWriteBasic p 0x2B s ∧ 80 ≤ bitsOf v 36 11 ∧ bitsOf v 36 11 < 1792) :=
  ⟨⟨.ring, State.reset, by decide +kernel⟩,
   ⟨.ring, (resetWith [inUpdate (fun u => { u with keyBuf := Table.putList (fun _ => 0) [] 0 gx })]), by decide +kernel⟩,
   ⟨.waggle, 1, State.reset, by decide +kernel⟩,
   ⟨.ring, 0xc8600000001, State.reset, by decide +kernel⟩⟩

end Update

namespace Service
def inXmem (f : XmemState → XmemState) (s : State) : State := { s with xmem := f s.xmem }
def inService (f : ServiceState → ServiceState) (s : State) : State := { s with service := f s.service }
def memoriesReady (s : State) : State := (((((((s.set Fld.XMEM_BASIC_EN 1).set Fld.XMEM_STATUS_PLL_LOCK 1).set Fld.XMEM_STATUS_ABSENT 0).set Fld.CLOCK_POWER_STATE 0).set (Fld.XMEM_DEV_PRESENT 0) 1).set (Fld.XMEM_DEV_TYPE 0) 1).set (Fld.XMEM_DEV_SIZE_LOG2 0) 21)

theorem witness_ServicePortInstructions :
    (∃ (write ext : Bool) (a : BitVec 14) (b : BitVec 29) (v : Word) (c : BitVec 324) (si : Option (BitVec 324)) (x : Option Bool) (s : State),
      s.service.enabled = false ∧ Live s) ∧
    (∃ (a : BitVec 14) (v : Word) (s : State), Live s ∧ s.service.enabled = true ∧ s.inHold = false) ∧
    (∃ (a : BitVec 14) (v : Word) (s : State), Live s ∧ s.service.enabled = true ∧ s.inHold = true ∧ (a.toNat / 256 = 0 ∨ a.toNat / 256 = 1 ∨ a.toNat
      / 256 = 0x2A ∨ a.toNat / 256 = 0x2B) ∧ isWindow a.toNat = false) ∧
    (∃ (b : BitVec 29) (v : Word) (s : State), Live s ∧ s.service.enabled = true ∧ b.toNat < 4194304 ∧ protectedTile s (b.toNat / 1024) = true) ∧
    (∃ (b : BitVec 29) (v : Word) (s : State), Live s ∧ s.service.enabled = true ∧ b.toNat < 4194304 ∧ protectedTile s (b.toNat / 1024) = false) ∧
    (∃ (b : BitVec 29) (v : Word) (s : State), Live s ∧ s.service.enabled = true ∧ 4194304 ≤ b.toNat) ∧
    (∃ (b : BitVec 29) (v : Word) (s : State), Live s ∧ s.service.enabled = true ∧ (s.extProtectedByte b.toNat = true)) ∧
    (∃ (c : BitVec 324) (si : Option (BitVec 324)) (x : Option Bool) (s : State), s.service.enabled = true) :=
  ⟨⟨true, false, 0, 0x28, 1, 0x103, (some 0x1a), none, State.reset, by decide +kernel⟩,
   ⟨0x3fff, 0x801200001, (resetWith [inService (fun x => { x with enabled := true })]), by decide +kernel⟩,
   ⟨5, 0x3000800001, (resetWith [inService (fun x => { x with enabled := true }), (·.set Fld.CLOCK_POWER_STATE 3)]), by decide +kernel⟩,
   ⟨2, 0x80000, (resetWith [inService (fun x => { x with enabled := true })]), by decide +kernel⟩,
   ⟨6, 0x87e653441015, (resetWith [inService (fun x => { x with enabled := true }), (·.set (Fld.FABRIC_PROT_EN 0) 0)]), by decide +kernel⟩,
   ⟨0x1fffffff, 0x801200001, (resetWith [inService (fun x => { x with enabled := true })]), by decide +kernel⟩,
   ⟨0x1e, 0x85c660d6e917, (resetWith [inService (fun x => { x with enabled := true })]), by decide +kernel⟩,
   ⟨5, none, (some true), (resetWith [inService (fun x => { x with enabled := true })]), by decide +kernel⟩⟩

theorem witness_ExternalMemoryPort :
    (∃ (p : Path) (v : Word) (s : State), Live s ∧ MayWriteBasic p 0x2D s ∧ bitAt v 47 = true ∧ s.flag Fld.XMEM_STATUS_ABSENT = true) ∧
    (∃ (p : Path) (v : Word) (s : State), Live s ∧ MayWriteBasic p 0x2D s ∧ bitAt v 47 = false ∧ s.flag Fld.XMEM_BASIC_EN = true ∧ portBusy s = true) ∧
    (∃ (p : Path) (v : Word) (s : State), Live s ∧ MayWriteBasic p 0x2D s ∧ bitAt v 47 = true ∧ s.flag Fld.XMEM_STATUS_ABSENT = false) ∧
    (∃ (p : Path) (v : Word) (s : State), Live s ∧ MayWriteBasic p 0x2D s ∧ bitAt v 47 = false ∧ (s.flag Fld.XMEM_BASIC_EN = false ∨ portBusy s =
      false)) ∧
    (∃ s : State, Live s ∧ s.flag Fld.XMEM_BASIC_EN = true) ∧
    (∃ s : State, Live s ∧ s.flag Fld.XMEM_BASIC_EN = false) ∧
    (∃ (p : Path) (n : Fin 2) (v : Word) (s : State), Live s ∧ MayWriteBasic p 0x2D s ∧ (devBusy s n = true ∨ bitsOf v 41 5 < 20 ∨ 29 < bitsOf v 41 5
      ∨ sizesBad (s.putWord (Reg.XMEM_DEV n) v) = true)) ∧
    (∃ (p : Path) (n : Fin 2) (v : Word) (s : State), Live s ∧ MayWriteBasic p 0x2D s ∧ devBusy s n = false ∧ 20 ≤ bitsOf v 41 5 ∧ bitsOf v 41 5 ≤ 29
      ∧ sizesBad (s.putWord (Reg.XMEM_DEV n) v) = false) ∧
    (∃ (p : Path) (v : Word) (s : State), Live s ∧ MayWriteBasic p 0x2D s ∧ bitAt v 0 = false) ∧
    (∃ (p : Path) (v : Word) (s : State), Live s ∧ MayWriteBasic p 0x2D s ∧ bitAt v 0 = true ∧ s.flag Fld.XMEM_CMD_BUSY = true) ∧
    (∃ (p : Path) (v : Word) (s : State), Live s ∧ MayWriteBasic p 0x2D s ∧ bitAt v 0 = true ∧ s.flag Fld.XMEM_CMD_BUSY = false ∧ devBusy s (bitsOf v
      39 1) = false ∧ s.portReady = false) ∧
    (∃ (p : Path) (v : Word) (s : State), Live s ∧ MayWriteBasic p 0x2D s ∧ bitAt v 0 = true ∧ s.flag Fld.XMEM_CMD_BUSY = false ∧ devBusy s (bitsOf v
      39 1) = false ∧ s.portReady = true) ∧
    (∃ (data : BitVec 32) (s : State), Live s ∧ s.flag Fld.XMEM_CMD_BUSY = false) ∧
    (∃ (data : BitVec 32) (s : State), Live s ∧ s.flag Fld.XMEM_CMD_BUSY = true ∧ s.flag Fld.XMEM_CMD_READ = false) ∧
    (∃ (data : BitVec 32) (s : State), Live s ∧ s.flag Fld.XMEM_CMD_BUSY = true ∧ s.flag Fld.XMEM_CMD_READ = true ∧ s.get Fld.XMEM_CMD_NBYTES = 4) ∧
    (∃ (p : Path) (w : Option Word) (s : State), Live s ∧ s.pathOpen p 0x2D = true ∧ readOpen s p 0x2D = true ∧ bitsOf (s.winCtl p 0x2D) 40 8 = 1 ∧
      bitsOf (s.winCtl p 0x2D) 0 24 < extEntries s ∧ bitAt (s.winCtl p 0x2D) 39 = false ∧ s.portReady = false) ∧
    (∃ (p : Path) (w : Option Word) (s : State), Live s ∧ s.pathOpen p 0x2D = true ∧ readOpen s p 0x2D = true ∧ bitsOf (s.winCtl p 0x2D) 40 8 = 1 ∧
      bitsOf (s.winCtl p 0x2D) 0 24 < extEntries s ∧ bitAt (s.winCtl p 0x2D) 39 = false ∧ s.portReady = true ∧ s.devAt (s.get Fld.XMEM_WIN_BASE_BYTE
      + 6 * bitsOf (s.winCtl p 0x2D) 0 24) = none) ∧
    (∃ (p : Path) (w : Option Word) (s : State), Live s ∧ s.pathOpen p 0x2D = true ∧ readOpen s p 0x2D = true ∧ bitsOf (s.winCtl p 0x2D) 40 8 = 1 ∧
      bitsOf (s.winCtl p 0x2D) 0 24 < extEntries s ∧ bitAt (s.winCtl p 0x2D) 39 = false ∧ extCause s (s.get Fld.XMEM_WIN_BASE_BYTE + 6 * bitsOf
      (s.winCtl p 0x2D) 0 24) 6 = 0 ∧ s.extProtectedByte (s.get Fld.XMEM_WIN_BASE_BYTE + 6 * bitsOf (s.winCtl p 0x2D) 0 24) = true) ∧
    (∃ (p : Path) (v : Word) (a : Nat) (s : State), Live s ∧ s.pathOpen p 0x2D = true ∧ bitsOf (s.winCtl p 0x2D) 40 8 = 1 ∧ bitsOf (s.winCtl p 0x2D)
      0 24 < extEntries s ∧ bitAt (s.winCtl p 0x2D) 39 = false ∧ a = s.get Fld.XMEM_WIN_BASE_BYTE + 6 * bitsOf (s.winCtl p 0x2D) 0 24 ∧ extCause s a
      6 = 0 ∧ (∀ k, k < 6 → s.extProtectedByte (a + k) = false) ∧ s.xmem.stream = none ∧ a % 65536 + 6 ≤ 65536 ∧ s.isNor a = false ∧ s.regionMode (a
      / 65536) = modePlain) ∧
    (∃ s : State, Live s ∧ s.xmem.stream = none) ∧
    (∃ (s : State) (a since : Nat), Live s ∧ s.xmem.stream = some (a, since) ∧ (∃ e ∈ s.xmem.heldWrites, e.1 = a)) ∧
    (∃ (s : State) (a since : Nat), Live s ∧ s.xmem.stream = some (a, since) ∧ (∀ e ∈ s.xmem.heldWrites, e.1 ≠ a)) :=
  ⟨⟨.ring, 0xba0000000000, (resetWith [(·.set Fld.XMEM_STATUS_ABSENT 1)]), by decide +kernel⟩,
   ⟨.ring, 0, (resetWith [inXmem (fun x => { x with rekeys := [2, 5] }), memoriesReady]), by decide +kernel⟩,
   ⟨.ring, 0xa80000000000, State.reset, by decide +kernel⟩,
   ⟨.ring, 0x8000000001, State.reset, by decide +kernel⟩,
   ⟨(resetWith [memoriesReady]), by decide +kernel⟩,
   ⟨State.reset, by decide +kernel⟩,
   ⟨.ring, 0, 0x800200001, State.reset, by decide +kernel⟩,
   ⟨.ring, 0, 0x6ad3dd9ea169, State.reset, by decide +kernel⟩,
   ⟨.ring, 0, State.reset, by decide +kernel⟩,
   ⟨.ring, 5, (resetWith [(·.set Fld.XMEM_CMD_BUSY 1)]), by decide +kernel⟩,
   ⟨.waggle, 0x201, State.reset, by decide +kernel⟩,
   ⟨.ring, 0x8000000001, (resetWith [memoriesReady]), by decide +kernel⟩,
   ⟨0x1e, State.reset, by decide +kernel⟩,
   ⟨0x5f, (resetWith [(·.set Fld.XMEM_CMD_BUSY 1)]), by decide +kernel⟩,
   ⟨0x2bc, (resetWith [(·.set Fld.XMEM_CMD_BUSY 1), (·.set Fld.XMEM_CMD_READ 1), (·.set Fld.XMEM_CMD_NBYTES 4)]), by decide +kernel⟩,
   ⟨.ring, none, (resetWith [(fun s => s.putWinCtl .ring 0x2D (packWord [(40,8,1),(0,24,21844)]))]), by decide +kernel⟩,
   ⟨.ring, (some 0xdbc1a36ab50f), (resetWith [(·.set Fld.XMEM_BASIC_EN 1), (·.set Fld.XMEM_STATUS_PLL_LOCK 1), (fun s => s.putWinCtl .ring 0x2D
     (packWord [(40,8,1),(0,24,21844)]))]), by decide +kernel⟩,
   ⟨.ring, (some 0x1000a00001), (resetWith [memoriesReady, (fun s => s.putWinCtl .ring 0x2D (packWord [(40,8,1),(0,24,21844)]))]), by decide +kernel⟩,
   ⟨.ring, 0x1800a00001, 262134, (resetWith [(·.set (Fld.XMEM_PROT_EN 0) 0), (·.set Fld.XMEM_WIN_BASE_BYTE 131070), (fun s => s.putWinCtl .ring 0x2D
     (packWord [(40,8,1),(0,24,21844)])), memoriesReady]), by decide +kernel⟩,
   ⟨State.reset, by decide +kernel⟩,
   ⟨(resetWith [inXmem (fun x => { x with stream := some (65536, 70000), heldWrites := [(65536, [1])] })]), 65536, 70000, by decide +kernel⟩,
   ⟨(resetWith [inXmem (fun x => { x with stream := some (65536*31+65535, 70000) })]), 2097151, 70000, by decide +kernel⟩⟩

theorem witness_RegionModesAndRekeys :
    (∃ (p : Path) (v : Word) (s : State), Live s ∧ MayWriteBasic p 0x2C s ∧ bitAt v 0 = false) ∧
    (∃ (p : Path) (v : Word) (s : State), Live s ∧ MayWriteBasic p 0x2C s ∧ bitAt v 0 = true ∧ opActive s 0x2C = true) ∧
    (∃ (p : Path) (v : Word) (s : State), Live s ∧ MayWriteBasic p 0x2C s ∧ bitAt v 0 = true ∧ opActive s 0x2C = false ∧ (bitsOf v 22 13 < bitsOf v
      35 13 ∨ ∃ r, bitsOf v 35 13 ≤ r ∧ r ≤ bitsOf v 22 13 ∧ modeBad s r = true)) ∧
    (∃ (p : Path) (v : Word) (s : State), Live s ∧ MayWriteBasic p 0x2C s ∧ bitAt v 0 = true ∧ bitsOf v 22 13 = bitsOf v 35 13 ∧ modeBad s (bitsOf v
      35 13) = false ∧ (∀ q, s.readOnly q = false) ∧ opActive s 0x2C = false) ∧
    (∃ s : State, Live s ∧ s.xmem.rekeys = []) ∧
    (∃ (r : Nat) (q : List Nat) (s : State), Live s ∧ s.xmem.rekeys = r :: q ∧ r < 8192 ∧ extCause s (r * 65536) 1 ≠ 0) ∧
    (∃ (r : Nat) (q : List Nat) (s : State), Live s ∧ s.xmem.rekeys = r :: q ∧ r < 8192 ∧ extCause s (r * 65536) 1 = 0 ∧ s.isNor (r * 65536) = false
      ∧ s.xmem.position + 1024 < 65536) ∧
    (∃ (r : Nat) (q : List Nat) (s : State), Live s ∧ s.xmem.rekeys = r :: q ∧ r < 8192 ∧ extCause s (r * 65536) 1 = 0 ∧ s.isNor (r * 65536) = false
      ∧ 65536 ≤ s.xmem.position + 1024 ∧ s.xmem.heldWrites = [] ∧ s.regionGen r < 16383) :=
  ⟨⟨.ring, 0, State.reset, by decide +kernel⟩,
   ⟨.ring, 0x8000000001, (resetWith [(opStart · 0x2C 1)]), by decide +kernel⟩,
   ⟨.ring, packWord [(0,1,1),(35,13,2),(22,13,1)], State.reset, by decide +kernel, by decide +kernel, by decide +kernel, by decide +kernel, Or.inl
     (by decide +kernel)⟩,
   ⟨.ring, 0x1000800001, (resetWith [(·.set (Fld.XMEM_DEV_PRESENT 1) 1)]), by decide +kernel, by decide +kernel, by decide +kernel,
     by decide +kernel, by decide +kernel, fun _ => rfl, by decide +kernel⟩,
   ⟨State.reset, by decide +kernel⟩,
   ⟨2, [], (resetWith [inXmem (fun x => { x with rekeys := [2] })]), by decide +kernel⟩,
   ⟨2, [], (resetWith [inXmem (fun x => { x with rekeys := [2] }), memoriesReady]), by decide +kernel⟩,
   ⟨2, [5], (resetWith [(fun s => (let s := memoriesReady s;
     { s with xmem := { s.xmem with rekeys := [2,5], position := 64512, heldWrites := [] } }.putRegion 2 1 5 7))]), by decide +kernel⟩⟩

end Service

namespace SelfTest
def inFault (f : FaultState → FaultState) (s : State) : State := { s with fault := f s.fault }
def inTherm (f : ThermState → ThermState) (s : State) : State := { s with therm := f s.therm }

theorem witness_SelfTestsAndFaultLog :
    (∃ (kind : Nat) (lasting : Bool) (s : State), Live s ∧ (∀ x ∈ s.fault.tests, x.kind ≠ kind)) ∧
    (∃ (k : Fin 4096) (b : Nat) (r : List TestReq) (s : State), Live s ∧ s.fault.tests = ⟨kindMemTile, objTile k, some b⟩ :: r) ∧
    (∃ (p : Path) (v : Word) (s : State), Live s ∧ MayWriteBasic p 0x30 s ∧ bitAt v 0 = false) ∧
    (∃ (p : Path) (v : Word) (s : State), Live s ∧ MayWriteBasic p 0x30 s ∧ bitAt v 0 = true ∧ bitsOf v 43 5 ≠ kindProbe ∧ bitsOf v 43 5 ≠
      kindMemTile ∧ bitsOf v 43 5 ≠ kindRingCrc) ∧
    (∃ (p : Path) (v : Word) (s : State), Live s ∧ MayWriteBasic p 0x30 s ∧ bitAt v 0 = true ∧ bitsOf v 43 5 = kindMemTile ∧ s.tileState (objTileOf
      (bitsOf v 16 24)) ≠ tileFailed) ∧
    (∃ (p : Path) (v : Word) (s : State), Live s ∧ MayWriteBasic p 0x30 s ∧ bitAt v 0 = true ∧ bitsOf v 43 5 = kindMemTile ∧ s.tileState (objTileOf
      (bitsOf v 16 24)) = tileFailed ∧ s.fault.tests = []) ∧
    (∃ (p : Path) (v : Word) (s : State), Live s ∧ MayWriteBasic p 0x31 s ∧ (bitAt v 0 = false ∨ 48 ≤ bitsOf v 39 6 ∨ driveDisabled s (48 * bitsOf v
      45 3 + bitsOf v 39 6) = false)) ∧
    (∃ (p : Path) (v : Word) (s : State), Live s ∧ MayWriteBasic p 0x31 s ∧ bitAt v 0 = true ∧ bitsOf v 39 6 < 48 ∧ driveDisabled s (48 * bitsOf v 45
      3 + bitsOf v 39 6) = true) :=
  ⟨⟨3, false, State.reset, by decide +kernel⟩,
   ⟨3, 70, [], (resetWith [inFault (fun f => { f with tests := [⟨5, objTile 3, some 70⟩] })]), by decide +kernel⟩,
   ⟨.ring, 0x55d35200000, State.reset, by decide +kernel⟩,
   ⟨.ring, 0xf78000000001, State.reset, by decide +kernel⟩,
   ⟨.ring, 0x28fff0000001, State.reset, by decide +kernel⟩,
   ⟨.ring, 0x280030000001, (resetWith [(·.setTileState 3 1)]), by decide +kernel⟩,
   ⟨.ring, 0x28fff0000001, State.reset, by decide +kernel⟩,
   ⟨.ring, 0xf78000000001, (resetWith [(·.set (Fld.GRP_LINE_DISABLED_DIS 7) 0x800000000001)]), by decide +kernel⟩⟩

theorem witness_TemperaturesAndShutDown :
    (∃ (die : List Int) (ntc : List (BitVec 12)) (s : State), Live s ∧ s.heldInReset 0x15 = true) ∧
    (∃ (die : List Int) (ntc : List (BitVec 12)) (s : State), Live s ∧ s.heldInReset 0x15 = false) ∧
    (∃ s : State, Live s ∧ s.therm.hotSince = none) ∧
    (∃ (s : State) (since : Nat), Live s ∧ s.therm.hotSince = some since ∧ (∀ g : Fin 8, s.grpState g = grpOff) ∧ (∀ n : Fin 4, s.strState n =
      grpOff) ∧ biasState s = biasOff) ∧
    (∃ (s : State) (since : Nat) (g : Fin 8), Live s ∧ s.therm.hotSince = some since ∧ s.grpState g = grpOn ∧ s.isLcd g = false ∧ s.get
      (Fld.GRP_X_DRIVE_RAMP_STEP g) = 0 ∧ s.get (Fld.GRP_X_DRIVE_DISCHARGE g) = 0) ∧
    (∃ (p : Path) (v : Word) (s : State), Live s ∧ MayWriteBasic p 0x15 s ∧ (bitsOf v 36 12 < 1000 ∨ bitsOf v 16 12 < 1000 ∨ bitsOf v 28 8 = 0 ∨
      bitsOf v 8 8 = 0)) ∧
    (∃ (p : Path) (v : Word) (s : State), Live s ∧ MayWriteBasic p 0x15 s ∧ 1000 ≤ bitsOf v 36 12 ∧ 1000 ≤ bitsOf v 16 12 ∧ bitsOf v 28 8 ≠ 0 ∧
      bitsOf v 8 8 ≠ 0) :=
  ⟨⟨[125], [], (resetWith [(fun s => { s with clock := { s.clock with sources := [2] } })]), by decide +kernel⟩,
   ⟨[125], [], State.reset, by decide +kernel⟩,
   ⟨State.reset, by decide +kernel⟩,
   ⟨(resetWith [inTherm (fun x => { x with hotSince := some 900 })]), 900, by decide +kernel⟩,
   ⟨(resetWith [inTherm (fun x => { x with hotSince := some 200000 }), (fun s => (((s.set (Fld.GRP_STATUS_STATE 5) grpOn).set
     (Fld.GRP_X_DRIVE_RAMP_STEP 5) 0).set (Fld.GRP_X_DRIVE_DISCHARGE 5) 0))]), 200000, 5, by decide +kernel⟩,
   ⟨.ring, 0x28fff0000001, State.reset, by decide +kernel⟩,
   ⟨.ring, 0x7dcc78049b51, State.reset, by decide +kernel⟩⟩

end SelfTest

namespace Standby

theorem witness_PowerRequestsInStandbyAndHold :
    (∃ (p : Path) (v : Word) (s : State), Live s ∧ MayWriteBasic p 1 s ∧ s.get Fld.CLOCK_POWER_STATE = 2 ∧ s.flag Fld.CLOCK_POWER_LEAVING = false ∧
      bitsOf v 44 2 = 2) ∧
    (∃ (p : Path) (v : Word) (s : State), Live s ∧ MayWriteBasic p 1 s ∧ s.get Fld.CLOCK_POWER_STATE = 3) :=
  ⟨⟨.ring, 0x200001000000, (resetWith [(·.set Fld.CLOCK_POWER_STATE 2)]), by decide +kernel⟩,
   ⟨.service, 0x200000000000, (resetWith [(·.set Fld.CLOCK_POWER_STATE 3)]), by decide +kernel⟩⟩

theorem witness_RecoverIgnoresTheBusUntilFree :
    ∃ (mid : Bool) (b : Byte) (s : State), Live s ∧ s.get Fld.TWI_STATUS_STATE = 7 :=
  ⟨true, 6, State.reset, by decide +kernel⟩

end Standby

end Sys2Proof.Tests
end

section
/-! PROOFS. Drive groups: their ramps, their discharge and what their drivers report (R58, R162, R165, R169, R170, R174, R176). -/
namespace Sys2Proof.GroupDrivers
open Sys2Proof.Machine

/-! ### Reads of registers, fields and groups -/

theorem get_of_regs {s t : State} (h : t.regs = s.regs) (f : Field) : t.get f = s.get f := by
  simp [State.get, State.reg, h]

theorem get_raise_same (s : State) (f : Field) (h : f.lo + f.width ≤ 48) (hw : 1 ≤ f.width) : (s.raise f).get f = 1 := by
  have : 2 ^ 1 ≤ 2 ^ f.width := Nat.pow_le_pow_right (by decide) hw
  rw [State.raise, State.get_set_same s f 1 h, Nat.mod_eq_of_lt (by omega)]

theorem get_raise_apart (s : State) {f g : Field} (h : f.apart g) : (s.raise f).get g = s.get g := State.get_set_apart s 1 h

theorem reg_raise_other (s : State) (f : Field) {a : Nat} (h : a ≠ f.reg) : (s.raise f).reg a = s.reg a := State.reg_set_other s f 1 h

@[simp] theorem reg_modGrp (s : State) (g : Nat) (f : GroupState → GroupState) (a : Nat) : (s.modGrp g f).reg a = s.reg a := rfl
@[simp] theorem get_modGrp (s : State) (g : Nat) (f : GroupState → GroupState) (x : Field) : (s.modGrp g f).get x = s.get x := rfl

@[simp] theorem grpState_modGrp (s : State) (g h : Nat) (f : GroupState → GroupState) : (s.modGrp g f).grpState h = s.grpState h := rfl

@[simp] theorem grp_modGrp_same (s : State) (g : Fin 8) (f : GroupState → GroupState) : (s.modGrp g f).grp g = f (s.grp g) := by
  simp [State.grp, State.modGrp, Vector.getD, g.isLt]

theorem grp_of_groups {s t : State} (h : t.groups = s.groups) (g : Nat) : t.grp g = s.grp g := by simp [State.grp, h]

theorem onlyRegs_refl (as : List Nat) (s : State) : OnlyRegs as s s := ⟨fun _ _ => rfl, rfl⟩

theorem onlyRegs_set {as : List Nat} {s t : State} (h : OnlyRegs as s t) (f : Field) (v : Nat) (hf : f.reg ∈ as) :
    OnlyRegs as s (t.set f v) := by
  obtain ⟨hr, ht⟩ := h
  refine ⟨fun a ha => (State.reg_set_other t f v fun e => ha (by rw [e]; exact hf)).trans (hr a ha), ?_⟩
  rw [ht]
  rfl

/-! ### Operations of other blocks leave the groups' pages

The groups' registers stand on pages 8 to 0xF (R63, R178); the key table, the bias generator, the fault log and the self-tests write pages from
0x10 on. -/

/-- The registers below page 0x10 hold their words. -/
def SameGroupPages (s t : State) : Prop := ∀ a, a < 0x1000 → t.reg a = s.reg a

theorem SameGroupPages.of_regs {s t : State} (h : t.regs = s.regs) : SameGroupPages s t := fun a _ => by simp [State.reg, h]

theorem SameGroupPages.set {s t : State} (h : SameGroupPages s t) (f : Field) (v : Nat) (hf : 0x1000 ≤ f.reg) :
    SameGroupPages s (t.set f v) := fun a ha => by
  rw [State.reg_set_other _ _ _ (by omega), h a ha]

/-- A change outside the register file. -/
theorem SameGroupPages.trans_regs {s t u : State} (h : SameGroupPages s t) (e : u.regs = t.regs) : SameGroupPages s u := fun a ha => by
  rw [← h a ha]; simp [State.reg, e]

theorem SameGroupPages.get {s t : State} (h : SameGroupPages s t) {f : Field} (hf : f.reg < 0x1000) : t.get f = s.get f := by
  rw [State.get, h _ hf, State.get]

theorem grpStatus_lt (g : Fin 8) : Reg.GRP_STATUS g < 0x1000 := by
  unfold Reg.GRP_STATUS
  omega

theorem SameGroupPages.faultPush {s t : State} (h : SameGroupPages s t) (k c m o : Nat) : SameGroupPages s (faultPush t k c m o) := by
  unfold Machine.faultPush faultSync
  dsimp only
  split
  · exact ((((h.trans_regs rfl).set _ 1 (by decide)).set _ 1 (by decide)).set _ _ (by decide)).set _ _ (by decide)
  · exact (((h.trans_regs rfl).set _ 1 (by decide)).set _ _ (by decide)).set _ _ (by decide)

theorem SameGroupPages.faultCount {s t : State} (h : SameGroupPages s t) (k c : Nat) : SameGroupPages s (faultCount t k c) := h.trans_regs rfl

theorem SameGroupPages.beginTest {s t : State} (h : SameGroupPages s t) (k : Nat) (f : FaultState) :
    SameGroupPages s (beginTest k { t with fault := f }) := h.trans_regs rfl

theorem SameGroupPages.busySync {s t : State} (h : SameGroupPages s t) : SameGroupPages s (busySync t) := h.set _ _ (by decide)

theorem SameGroupPages.tileTestProgress {s t : State} (h : SameGroupPages s t) (k : Nat) : SameGroupPages s (tileTestProgress t k) := by
  unfold Machine.tileTestProgress
  split
  · exact fun a ha => (opStart_reg _ _ _ (by omega) (by omega)).trans (h a ha)
  · exact h

theorem startTest_sameGroupPages (s : State) (k o : Nat) : SameGroupPages s (startTest s k o) := by
  have h : SameGroupPages s s := .of_regs rfl
  unfold startTest
  dsimp only
  split
  · exact h.trans_regs rfl
  · split
    · exact ((h.faultPush _ _ _ _).faultCount _ _).set _ 1 (by decide)
    · split
      · exact ((h.faultPush _ _ _ _).beginTest _ _).busySync.tileTestProgress k
      · exact ((h.faultPush _ _ _ _).beginTest _ _).busySync

/-- Steps that leave the register file each leave it together. -/
theorem foldl_regs (is : List Nat) (f : State → Nat → State) (s : State) (hf : ∀ t i, (f t i).regs = t.regs) :
    (is.foldl f s).regs = s.regs :=
  List.foldlRecOn is f (motive := fun t => t.regs = s.regs) rfl fun t h i _ => (hf t i).trans h

theorem putCount_regs (i n : Nat) (s : State) : (putCount i n s).regs = s.regs := rfl

theorem SameGroupPages.frozenSync {s t : State} (h : SameGroupPages s t) : SameGroupPages s (frozenSync t) := h.set _ _ (by decide)

theorem freezeGroupKeys_sameGroupPages (g : Nat) (s : State) : SameGroupPages s (freezeGroupKeys g s) := by
  unfold freezeGroupKeys freezeKeys
  dsimp only
  refine SameGroupPages.frozenSync ?_
  split
  · refine SameGroupPages.set (.of_regs (foldl_regs _ _ _ ?_)) _ 1 (by decide)
    exact fun t i => putCount_regs i 0 t
  · refine .of_regs (foldl_regs _ _ _ ?_)
    exact fun t i => putCount_regs i 0 t

theorem SameGroupPages.putBias {s t : State} (h : SameGroupPages s t) (st : Nat) : SameGroupPages s (putBias st t) :=
  (h.set Fld.LCDB_STATUS_STATE st (by decide)).trans_regs rfl

theorem SameGroupPages.startPump {s t : State} (h : SameGroupPages s t) (b : Bool) : SameGroupPages s (startPump b t) :=
  (((h.putBias biasStarting).set Fld.LCDB_STATUS_SAFE 0 (by decide)).set Fld.LCDB_STATUS_DISCHARGING 0 (by decide)).trans_regs rfl

theorem SameGroupPages.levelEnd {s t : State} (h : SameGroupPages s t) : SameGroupPages s (levelEnd t) := by
  have hl := (h.set Fld.LCDB_STATUS_SAFE 1 (by decide)).set Fld.LCDB_STATUS_ADV_LEFT 0 (by decide)
  unfold Machine.levelEnd
  dsimp only
  split
  · exact hl.startPump true
  · exact hl.set _ 1 (by decide)

theorem checkLevel_sameGroupPages (s : State) : SameGroupPages s (checkLevel s) := by
  have h : SameGroupPages s s := .of_regs rfl
  unfold checkLevel
  split
  · exact h.levelEnd
  · exact h

/-! ### OFF (R170, R176) -/

theorem beginTest_regs (k : Nat) (s : State) : (beginTest k s).regs = s.regs := rfl
theorem zeroLedger_regs (g : Nat) (s : State) : (zeroLedger g s).regs = s.regs := rfl

theorem raise_regs_congr {s t : State} (h : t.regs = s.regs) (f : Field) : (t.raise f).regs = (s.raise f).regs := by
  simp [State.raise, State.set, State.setReg, State.reg, h]

/-- A group that reaches OFF writes STATE, SAFE and STOPPED of its page and no other register. -/
theorem reachOff_regs (g : Nat) (s : State) : (reachOff g s).regs =
    (((s.set (Fld.GRP_STATUS_STATE g) grpOff).set (Fld.GRP_STATUS_SAFE g) 1).raise (Fld.GRP_EVENTS_STOPPED g)).regs := by
  unfold reachOff
  dsimp only
  rw [beginTest_regs]
  refine raise_regs_congr ?_ _
  split
  · exact zeroLedger_regs g _
  · rfl

theorem reachOff_now (g : Nat) (s : State) : (reachOff g s).now = s.now := by
  unfold reachOff
  dsimp only
  split <;> rfl

theorem reachOff_phase (g : Fin 8) (s : State) : ((reachOff g s).grp g).phase = .none := by
  have h : (reachOff g s).groups = (s.modGrp g fun x => { x with phase := .none }).groups := by
    unfold reachOff
    dsimp only
    split <;> rfl
  rw [grp_of_groups h, grp_modGrp_same]

theorem reachOff_reg_other (g : Nat) (s : State) {a : Nat} (hs : a ≠ Reg.GRP_STATUS g) (he : a ≠ Reg.GRP_EVENTS g) :
    (reachOff g s).reg a = s.reg a := by
  unfold State.reg
  rw [reachOff_regs]
  exact ((reg_raise_other _ _ he).trans (State.reg_set_other _ _ _ hs)).trans (State.reg_set_other _ _ _ hs)

theorem reachOff_get_apart (g : Nat) (s : State) {f : Field} (ht : (Fld.GRP_STATUS_STATE g).apart f) (hs : (Fld.GRP_STATUS_SAFE g).apart f)
    (he : (Fld.GRP_EVENTS_STOPPED g).apart f) : (reachOff g s).get f = s.get f := by
  rw [get_of_regs (reachOff_regs g s), get_raise_apart _ he, State.get_set_apart _ _ hs, State.get_set_apart _ _ ht]

theorem reachOff_grpState (g : Nat) (s : State) : (reachOff g s).grpState g = grpOff := by
  rw [State.grpState, get_of_regs (reachOff_regs g s), get_raise_apart _ (by simp [Field.apart]), State.get_set_apart _ _ (by simp [Field.apart]),
    State.get_set_same _ _ _ (by simp)]
  rfl

theorem reachOff_safe (g : Nat) (s : State) : (reachOff g s).flag (Fld.GRP_STATUS_SAFE g) = true := by
  rw [State.flag, get_of_regs (reachOff_regs g s), get_raise_apart _ (by simp [Field.apart]), State.get_set_same _ _ _ (by simp)]
  rfl

theorem reachOff_stopped (g : Nat) (s : State) : (reachOff g s).flag (Fld.GRP_EVENTS_STOPPED g) = true := by
  rw [State.flag, get_of_regs (reachOff_regs g s), get_raise_same _ _ (by simp) (by simp)]
  rfl

/-! ### Stopping (R169, R174, R176, R187) -/

/-- The fields that the stop of a group by the device writes below page 0x10. -/
def stopFields (g : Nat) : List Field :=
  [Fld.GRP_BASIC_ENABLE g, Fld.GRP_X_DRIVE_ENABLE g, Fld.GRP_STATUS_STATE g, Fld.GRP_STATUS_SAFE g, Fld.GRP_STATUS_ADV_LEFT g,
    Fld.GRP_STATUS_DAC_NOW g, Fld.GRP_EVENTS_STOPPED g]

/-- A field below page 0x10 that shares no bit with those that the stop writes. -/
def BesideStop (g : Nat) (f : Field) : Prop := f.reg < 0x1000 ∧ ∀ w ∈ stopFields g, w.apart f

/-- Group `g` is not ON in `t`, and the fields beside its stop read there as in `s`. -/
def StopsTo (g : Nat) (s t : State) : Prop := t.grpState g ≠ grpOn ∧ ∀ f, BesideStop g f → t.get f = s.get f

theorem StopsTo.of_get {g : Nat} {s t u : State} (h : StopsTo g t u) (e : ∀ f, BesideStop g f → t.get f = s.get f) : StopsTo g s u :=
  ⟨h.1, fun f hf => (h.2 f hf).trans (e f hf)⟩

theorem StopsTo.modGrp {g : Nat} {s t : State} (h : StopsTo g s t) (f : GroupState → GroupState) : StopsTo g s (t.modGrp g f) := by
  obtain ⟨hoff, hkeep⟩ := h
  exact ⟨by rwa [grpState_modGrp], fun x hx => by rw [get_modGrp, hkeep x hx]⟩

theorem BesideStop.get_set {g : Nat} {f w : Field} (h : BesideStop g f) (hw : w ∈ stopFields g) (s : State) (v : Nat) :
    (s.set w v).get f = s.get f := State.get_set_apart s v (h.2 w hw)

theorem grpState_set_apart {g : Nat} {f : Field} (h : f.apart (Fld.GRP_STATUS_STATE g)) (s : State) (v : Nat) :
    (s.set f v).grpState g = s.grpState g := State.get_set_apart s v h

theorem grpState_set_stopping (g : Nat) (s : State) : (s.set (Fld.GRP_STATUS_STATE g) grpStopping).grpState g = grpStopping := by
  rw [State.grpState, State.get_set_same _ _ _ (by simp)]
  rfl

theorem reachOff_stopsTo (g : Nat) (s : State) : StopsTo g s (reachOff g s) := by
  refine ⟨by rw [reachOff_grpState]; decide, fun f hf => ?_⟩
  obtain ⟨_, hw⟩ := hf
  exact reachOff_get_apart g s (hw _ (by simp [stopFields])) (hw _ (by simp [stopFields])) (hw _ (by simp [stopFields]))

theorem startDischarge_stopsTo (g : Nat) (s : State) : StopsTo g s (startDischarge g s) := by
  unfold startDischarge
  dsimp only
  split
  · exact reachOff_stopsTo g s
  · refine ⟨?_, fun f hf => hf.get_set (by simp [stopFields]) s _⟩
    rw [grpState_modGrp, grpState_set_stopping]
    decide

theorem accountLed_regs (g : Nat) (w : Word) (n : Nat) (s : State) : (accountLed g w n s).regs = s.regs := by
  unfold accountLed addEnergy
  split <;> rfl

theorem safePoint_stopsTo (g : Nat) (s : State) (h : s.grpState g ≠ grpOn) : StopsTo g s (safePoint g s) := by
  have hr := get_of_regs (accountLed_regs g (drivingCell s) (drivenFor s) s)
  unfold safePoint
  generalize accountLed g (drivingCell s) (drivenFor s) s = a at hr ⊢
  dsimp only
  have hf : ∀ f, BesideStop g f → (((a.set (Fld.GRP_STATUS_DAC_NOW g) 0).set (Fld.GRP_STATUS_SAFE g) 1).modGrp g
      fun x => { x with phase := .none }).get f = s.get f := fun f hf => by
    rw [get_modGrp, hf.get_set (by simp [stopFields]), hf.get_set (by simp [stopFields]), hr f]
  split
  · exact (startDischarge_stopsTo g _).of_get hf
  · refine ⟨?_, hf⟩
    rwa [grpState_modGrp, grpState_set_apart (by simp [Field.apart]), grpState_set_apart (by simp [Field.apart]), State.grpState, hr]

theorem lcdSafe_stopsTo (g : Nat) (s : State) (h : s.grpState g ≠ grpOn) : StopsTo g s (lcdSafe g s) := by
  unfold lcdSafe
  split
  · exact reachOff_stopsTo g s
  · refine ⟨?_, fun f hf => hf.get_set (by simp [stopFields]) s _⟩
    rwa [grpState_set_apart (by simp [Field.apart])]

/-- A group leaves ON: its keys freeze and its state is STOPPING, before its safe point (R176, R245). -/
def leaveOn (g : Nat) (s : State) : State :=
  ((freezeGroupKeys g s).set (Fld.GRP_STATUS_STATE g) grpStopping).set (Fld.GRP_STATUS_SAFE g) 0

theorem leaveOn_stopsTo (g : Fin 8) (s : State) : StopsTo g s (leaveOn g s) := by
  have hk := freezeGroupKeys_sameGroupPages g s
  unfold leaveOn
  refine ⟨?_, fun f hf => ?_⟩
  · rw [grpState_set_apart (by simp [Field.apart]), grpState_set_stopping]
    decide
  · rw [hf.get_set (by simp [stopFields]), hf.get_set (by simp [stopFields]), hk.get hf.1]

/-- An LCD group takes ADV_LEFT, and LEVEL may end with it. -/
def startLcdStop (g : Nat) (s : State) : State := checkLevel (s.set (Fld.GRP_STATUS_ADV_LEFT g) (s.duty g + 1))

theorem startLcdStop_stopsTo (g : Fin 8) (s : State) (h : s.grpState g ≠ grpOn) : StopsTo g s (startLcdStop g s) := by
  have hc := checkLevel_sameGroupPages (s.set (Fld.GRP_STATUS_ADV_LEFT g) (s.duty g + 1))
  unfold startLcdStop
  refine ⟨?_, fun f hf => ?_⟩
  · rwa [State.grpState, hc.get (grpStatus_lt g), State.get_set_apart _ _ (by simp [Field.apart])]
  · rw [hc.get hf.1, hf.get_set (by simp [stopFields])]

theorem stopGroup_eq (g : Nat) (s : State) : stopGroup g s =
    let p := leaveOn g s
    if p.isLcd g then
      let c := startLcdStop g p
      if c.runState = combStopped then lcdSafe g c else c
    else
      let r := p.get (Fld.GRP_X_DRIVE_RAMP_STEP g)
      if r = 0 ∨ p.get (Fld.GRP_STATUS_DAC_NOW g) = 0 then safePoint g p
      else p.modGrp g fun x => { x with phase := .ramp, due := p.now + r, rampStep := r } := rfl

theorem stopGroup_stopsTo (g : Fin 8) (s : State) : StopsTo g s (stopGroup g s) := by
  have hp := leaveOn_stopsTo g s
  rw [stopGroup_eq]
  generalize leaveOn g s = p at hp ⊢
  dsimp only
  split
  · have hc := (startLcdStop_stopsTo g p hp.1).of_get hp.2
    split
    · exact (lcdSafe_stopsTo g _ hc.1).of_get hc.2
    · exact hc
  · split
    · exact (safePoint_stopsTo g p hp.1).of_get hp.2
    · exact hp.modGrp _

theorem putEnable_get (g v : Nat) (s : State) {f : Field} (h : BesideStop g f) : (putEnable g v s).get f = s.get f := by
  unfold putEnable setLive
  split
  · exact h.get_set (by simp [stopFields]) s v
  · rw [h.get_set (by simp [stopFields]), h.get_set (by simp [stopFields])]

/-- A group that is ON leaves it when the device stops it. -/
theorem stopByDevice_stopsTo (g : Fin 8) (s : State) (h : s.grpState g = grpOn) : StopsTo g s (stopByDevice g s) := by
  unfold stopByDevice
  rw [if_pos h]
  exact (stopGroup_stopsTo g _).of_get fun f hf => putEnable_get g 0 s hf

theorem stopByDevice_idle (g : Nat) (s : State) (h : s.grpState g = grpOff ∨ s.grpState g = grpStopping) : stopByDevice g s = s := by
  unfold stopByDevice
  rcases h with h | h <;> rw [h, if_neg (by decide), if_neg (by decide)]

/-! ### The commands as they act on a live device -/

/-- A command that `act` runs on a live device answers its effect with the queue kept. -/
theorem answers_of_act {c : Instr} {s : State} {f : State → State} {P : State → Prop} (hc : exec c s = act s f) (hl : Live s)
    (h : P ((f s).keepQueue s)) : Answers c s P := ⟨_, hc.trans (act_live hl f), h⟩

/-! ### RAMP (R169) -/

/-- A step of RAMP that leaves a current. -/
theorem rampTick_ramping (g : Nat) (s : State) (hp : (s.grp g).phase = .ramp) (hd : 2 ≤ s.get (Fld.GRP_STATUS_DAC_NOW g)) :
    rampTick g s = ((s.elapseTo (s.grp g).due).set (Fld.GRP_STATUS_DAC_NOW g) (s.get (Fld.GRP_STATUS_DAC_NOW g) - 1)).modGrp g
      fun x => { x with due := max s.now (s.grp g).due + x.rampStep } := by
  unfold rampTick
  rw [if_pos hp]
  simp only [State.get_elapseTo, State.elapseTo_now]
  rw [if_neg (by omega)]

theorem rampTick_idle (g : Nat) (s : State) (h : (s.grp g).phase ≠ .ramp) : rampTick g s = s := by
  unfold rampTick
  rw [if_neg h]

theorem rampStepTick_lowers_current (g : Fin 8) (s : State) (hl : Live s) (hp : (s.grp g).phase = .ramp)
    (hd : 2 ≤ s.get (Fld.GRP_STATUS_DAC_NOW g)) : Answers (.rampStepTick g) s fun t =>
      t.get (Fld.GRP_STATUS_DAC_NOW g) = s.get (Fld.GRP_STATUS_DAC_NOW g) - 1 ∧ t.now = max s.now (s.grp g).due ∧
      (t.grp g).due = t.now + (s.grp g).rampStep ∧ (t.grp g).phase = .ramp ∧ RegsBut [Reg.GRP_STATUS g] s t := by
  refine answers_of_act (f := rampTick g) rfl hl ?_
  rw [rampTick_ramping g s hp hd]
  have hlt : s.get (Fld.GRP_STATUS_DAC_NOW g) < 2 ^ 8 := State.get_lt s _
  have hgrp : ((s.elapseTo (s.grp g).due).set (Fld.GRP_STATUS_DAC_NOW g) (s.get (Fld.GRP_STATUS_DAC_NOW g) - 1)).grp g = s.grp g :=
    grp_of_groups (by simp) g
  refine ⟨?_, State.elapseTo_now s _, ?_, ?_, fun a ha => ?_⟩
  · rw [State.get_keepQueue, get_modGrp, State.get_set_same _ _ _ (by simp), Nat.mod_eq_of_lt (by simp only; omega)]
  · rw [grp_of_groups (State.keepQueue_groups _ _), grp_modGrp_same, hgrp, State.keepQueue_now, State.modGrp_now, State.set_now,
      State.elapseTo_now]
  · rw [grp_of_groups (State.keepQueue_groups _ _), grp_modGrp_same, hgrp, hp]
  · rw [State.reg_keepQueue, reg_modGrp, State.reg_set_other _ _ _ (by simpa using ha), State.reg_elapseTo]

/-! ### DISCHARGE (R170) -/

theorem dischargeEnd_idle (g : Nat) (s : State) (h : (s.grp g).phase ≠ .discharge) : Machine.dischargeEnd g s = s := by
  unfold Machine.dischargeEnd
  rw [if_neg h]

theorem dischargeEnd_reaches_off (g : Fin 8) (s : State) (hl : Live s) (hp : (s.grp g).phase = .discharge) :
    Answers (.dischargeEnd g) s fun t => t.grpState g = grpOff ∧ t.flag (Fld.GRP_EVENTS_STOPPED g) = true ∧
      t.flag (Fld.GRP_STATUS_SAFE g) = true ∧ t.now = max s.now (s.grp g).due ∧ (t.grp g).phase = .none ∧
      RegsBut [Reg.GRP_STATUS g, Reg.GRP_EVENTS g] s t := by
  refine answers_of_act (f := Machine.dischargeEnd g) rfl hl ?_
  unfold Machine.dischargeEnd
  rw [if_pos hp]
  refine ⟨reachOff_grpState g _, reachOff_stopped g _, reachOff_safe g _, ?_, reachOff_phase g _, fun a ha => ?_⟩
  · rw [State.keepQueue_now, reachOff_now, State.elapseTo_now]
  · obtain ⟨hs, he⟩ : a ≠ Reg.GRP_STATUS g ∧ a ≠ Reg.GRP_EVENTS g := by simpa using ha
    rw [State.reg_keepQueue, reachOff_reg_other _ _ hs he, State.reg_elapseTo]

/-! ### VLED_LOW (R58, R174) -/

theorem besideStop_vledOk (g : Fin 8) : BesideStop g (Fld.GRP_STATUS_VLED_OK g) := by
  simp [BesideStop, stopFields, Field.apart, Reg.GRP_STATUS, Reg.GRP_EVENTS]; omega

theorem besideStop_vledLow (g : Fin 8) : BesideStop g (Fld.GRP_EVENTS_VLED_LOW g) := by
  simp [BesideStop, stopFields, Field.apart, Reg.GRP_STATUS, Reg.GRP_EVENTS]; omega

theorem besideStop_clineClamp (g : Fin 8) : BesideStop g (Fld.GRP_EVENTS_CLINE_CLAMP g) := by
  simp [BesideStop, stopFields, Field.apart, Reg.GRP_STATUS, Reg.GRP_EVENTS]; omega

theorem grpState_vledFlags (g : Nat) (s : State) :
    ((s.set (Fld.GRP_STATUS_VLED_OK g) 0).raise (Fld.GRP_EVENTS_VLED_LOW g)).grpState g = s.grpState g := by
  rw [State.grpState, get_raise_apart _ (by simp [Field.apart]), State.get_set_apart _ _ (by simp [Field.apart]), State.grpState]

theorem vledLow_idle (g : Nat) (s : State) (h : s.grpState g = grpOff ∨ s.grpState g = grpStopping) :
    Machine.vledLow g s = (s.set (Fld.GRP_STATUS_VLED_OK g) 0).set (Fld.GRP_EVENTS_VLED_LOW g) 1 :=
  stopByDevice_idle g _ (by rwa [grpState_vledFlags])

theorem vledLow_stops (g : Fin 8) (s : State) (hl : Live s) (hon : s.grpState g = grpOn) : Answers (.vledLow g) s fun t =>
    t.grpState g ≠ grpOn ∧ t.flag (Fld.GRP_STATUS_VLED_OK g) = false ∧ t.flag (Fld.GRP_EVENTS_VLED_LOW g) = true := by
  refine answers_of_act (f := Machine.vledLow g) rfl hl ?_
  obtain ⟨hoff, hkeep⟩ := stopByDevice_stopsTo g ((s.set (Fld.GRP_STATUS_VLED_OK g) 0).raise (Fld.GRP_EVENTS_VLED_LOW g))
    (by rwa [grpState_vledFlags])
  refine ⟨hoff, ?_, ?_⟩
  · rw [State.flag_keepQueue, State.flag, Machine.vledLow, hkeep _ (besideStop_vledOk g), get_raise_apart _ (by simp [Field.apart]),
      State.get_set_same _ _ _ (by simp)]
    rfl
  · rw [State.flag_keepQueue, State.flag, Machine.vledLow, hkeep _ (besideStop_vledLow g), get_raise_same _ _ (by simp) (by simp)]
    rfl

/-! ### CLINE_CLAMP (R165) -/

theorem clineClamp_idle (g c : Nat) (s : State) (h : s.grpState g ≠ grpOn) : Machine.clineClamp g c s = s := by
  unfold Machine.clineClamp
  rw [if_neg h]

theorem clineClamp_stops (g : Fin 8) (c : Fin 16) (s : State) (hl : Live s) (hon : s.grpState g = grpOn) : Answers (.clineClamp g c) s fun t =>
    t.grpState g ≠ grpOn ∧ t.flag (Fld.GRP_EVENTS_CLINE_CLAMP g) = true := by
  refine answers_of_act (f := Machine.clineClamp g c) rfl hl ?_
  have ht := startTest_sameGroupPages (s.raise (Fld.GRP_EVENTS_CLINE_CLAMP g)) kindClamp (objClamp g c)
  have hstate : (startTest (s.raise (Fld.GRP_EVENTS_CLINE_CLAMP g)) kindClamp (objClamp g c)).grpState g = grpOn := by
    rw [State.grpState, ht.get (grpStatus_lt g), get_raise_apart _ (by simp [Field.apart])]
    exact hon
  obtain ⟨hoff, hkeep⟩ := stopByDevice_stopsTo g _ hstate
  unfold Machine.clineClamp
  rw [if_pos hon]
  refine ⟨hoff, ?_⟩
  rw [State.flag_keepQueue, State.flag, hkeep _ (besideStop_clineClamp g), ht.get (besideStop_clineClamp g).1,
    get_raise_same _ _ (by simp) (by simp)]
  rfl

/-! ### HEADROOM (R162) -/

/-- Of the reported lines, those that source in the cell now driving: bit 0 for S-line 16. -/
def sourcingLow (s : State) (g : Nat) (lines : BitVec 32) : Nat :=
  lines.toNat &&& (bitsOf (encodedWord s g (cellCommon (drivingCell s)) (cellPlane (drivingCell s))) 16 32 &&& (s.linesOn g / 65536))

theorem sourcingLow_lt (s : State) (g : Nat) (lines : BitVec 32) : sourcingLow s g lines < 2 ^ 32 :=
  Nat.lt_of_le_of_lt Nat.and_le_left lines.isLt

theorem sourcingLow_zero (s : State) (g : Nat) : sourcingLow s g 0 = 0 := by simp [sourcingLow]

/-- The record of lines below headroom joined with `low`, and the common on which they were found. -/
def recordLow (low32 lc : Field) (low common : Nat) (s : State) : State := (s.set low32 (s.get low32 ||| low)).set lc common

/-- The lines join the expert record, at basic level the basic one too, and the flag is raised (R162, R178). -/
theorem headroomLost_eq (g : Nat) (lines : BitVec 32) (s : State) : headroomLost g lines s =
    if cellDrives s = true ∧ cellType (drivingCell s) g = slotLed ∧ ledLit s g = true ∧ s.get (Fld.GRP_STATUS_DAC_NOW g) ≠ 0 ∧
        sourcingLow s g lines ≠ 0 then
      let x := recordLow (Fld.GRP_X_HEADROOM_LOW g) (Fld.GRP_X_HEADROOM_LAST_COMMON g) (sourcingLow s g lines) (cellCommon (drivingCell s)) s
      (if x.expert (grpPage g) then x
        else recordLow (Fld.GRP_HEADROOM_LOW g) (Fld.GRP_HEADROOM_LAST_COMMON g) (sourcingLow s g lines) (cellCommon (drivingCell s)) x).raise
          (Fld.GRP_EVENTS_HEADROOM g)
    else s := rfl

theorem headroomLost_idle (g : Nat) (lines : BitVec 32) (s : State) (h : cellDrives s = false ∨ cellType (drivingCell s) g ≠ slotLed ∨
    ledLit s g = false ∨ s.get (Fld.GRP_STATUS_DAC_NOW g) = 0 ∨ lines = 0) : headroomLost g lines s = s := by
  rw [headroomLost_eq, if_neg]
  rintro ⟨hdrives, htype, hlit, hdac, hlow⟩
  rcases h with h | h | h | h | h
  · simp [h] at hdrives
  · exact h htype
  · simp [h] at hlit
  · exact hdac h
  · exact hlow (h ▸ sourcingLow_zero s g)

theorem recordLow_get_same (low32 lc : Field) (low common : Nat) (s : State) (hf : low32.lo + low32.width ≤ 48) (ha : lc.apart low32)
    (hlow : low < 2 ^ low32.width) : (recordLow low32 lc low common s).get low32 = s.get low32 ||| low := by
  rw [recordLow, State.get_set_apart _ _ ha, State.get_set_same _ _ _ hf, Nat.mod_eq_of_lt (Nat.or_lt_two_pow (State.get_lt s low32) hlow)]

theorem recordLow_get_other (low32 lc : Field) (low common : Nat) (s : State) {f : Field} (h : low32.apart f) (hc : lc.apart f) :
    (recordLow low32 lc low common s).get f = s.get f := by
  rw [recordLow, State.get_set_apart _ _ hc, State.get_set_apart _ _ h]

theorem recordLow_onlyRegs {as : List Nat} {s t : State} (h : OnlyRegs as s t) (low32 lc : Field) (low common : Nat)
    (hl : low32.reg ∈ as) (hc : lc.reg ∈ as) : OnlyRegs as s (recordLow low32 lc low common t) :=
  onlyRegs_set (onlyRegs_set h _ _ hl) _ _ hc

/-- A state in which `low` has joined the expert record of lines below headroom, and nothing but the group's records has changed. -/
def Recorded (g low : Nat) (s t : State) : Prop :=
  t.get (Fld.GRP_X_HEADROOM_LOW g) = s.get (Fld.GRP_X_HEADROOM_LOW g) ||| low ∧
    OnlyRegs [Reg.GRP_X_HEADROOM g, Reg.GRP_HEADROOM g, Reg.GRP_EVENTS g] s t

theorem recorded_expert (g common : Nat) {low : Nat} (s : State) (h : low < 2 ^ 32) :
    Recorded g low s (recordLow (Fld.GRP_X_HEADROOM_LOW g) (Fld.GRP_X_HEADROOM_LAST_COMMON g) low common s) :=
  ⟨recordLow_get_same _ _ low common s (by simp) (by simp [Field.apart]) h,
    recordLow_onlyRegs (onlyRegs_refl _ s) _ _ low common (by simp) (by simp)⟩

theorem Recorded.basic {g low : Nat} {s t : State} (h : Recorded g low s t) (common : Nat) :
    Recorded g low s (recordLow (Fld.GRP_HEADROOM_LOW g) (Fld.GRP_HEADROOM_LAST_COMMON g) low common t) :=
  ⟨(recordLow_get_other _ _ low common t (by simp [Field.apart]) (by simp [Field.apart])).trans h.1,
    recordLow_onlyRegs h.2 _ _ low common (by simp) (by simp)⟩

theorem Recorded.raise {g low : Nat} {s t : State} (h : Recorded g low s t) : Recorded g low s (t.raise (Fld.GRP_EVENTS_HEADROOM g)) :=
  ⟨(get_raise_apart _ (by simp [Field.apart])).trans h.1, onlyRegs_set h.2 _ 1 (by simp)⟩

/-- Lines below headroom that source in the cell now driving are recorded. -/
theorem headroom_records (g : Fin 8) (lines : BitVec 32) (s : State) (hl : Live s) (hdrives : cellDrives s = true)
    (htype : cellType (drivingCell s) g = slotLed) (hlit : ledLit s g = true) (hdac : s.get (Fld.GRP_STATUS_DAC_NOW g) ≠ 0)
    (hlow : sourcingLow s g lines ≠ 0) : Answers (.headroom g lines) s fun t =>
      t.get (Fld.GRP_X_HEADROOM_LOW g) = s.get (Fld.GRP_X_HEADROOM_LOW g) ||| sourcingLow s g lines ∧
      t.flag (Fld.GRP_EVENTS_HEADROOM g) = true ∧ OnlyRegs [Reg.GRP_X_HEADROOM g, Reg.GRP_HEADROOM g, Reg.GRP_EVENTS g] s t := by
  obtain ⟨r, hr, heq⟩ : ∃ r, Recorded g (sourcingLow s g lines) s r ∧ headroomLost g lines s = r.raise (Fld.GRP_EVENTS_HEADROOM g) := by
    have hx := recorded_expert g (cellCommon (drivingCell s)) s (sourcingLow_lt s g lines)
    rw [headroomLost_eq, if_pos ⟨hdrives, htype, hlit, hdac, hlow⟩]
    dsimp only
    split
    · exact ⟨_, hx, rfl⟩
    · exact ⟨_, hx.basic _, rfl⟩
  obtain ⟨hget, hregs, hrest⟩ := hr.raise
  have hq : (r.raise (Fld.GRP_EVENTS_HEADROOM g)).pending = s.pending := by rw [hrest]
  refine ⟨_, act_eq hl heq hq, hget, ?_, hregs, hrest⟩
  rw [State.flag, get_raise_same _ _ (by simp) (by simp)]
  rfl

/-- Settles O18. A command whose condition fails leaves the state; RAMP_STEP_TICK, DISCHARGE_END and HEADROOM are followed register by register;
VLED_LOW and CLINE_CLAMP raise their flags on fields that the stop of a group leaves (`stopByDevice_stopsTo`). -/
theorem groupRampsAndReports : Obligations.GroupRampsAndReports := by
  unfold Obligations.GroupRampsAndReports
  refine ⟨fun g s hl => ⟨?_, ?_, ?_, ?_⟩, fun g s hl => ⟨?_, ?_⟩, fun g c s hl => ⟨?_, ?_⟩, fun g lines s hl => ⟨?_, ?_⟩⟩
  · exact rampStepTick_lowers_current g s hl
  · exact fun h => act_eq hl (rampTick_idle g s h) rfl
  · exact dischargeEnd_reaches_off g s hl
  · exact fun h => act_eq hl (dischargeEnd_idle g s h) rfl
  · exact fun h => act_eq hl (vledLow_idle g s h) rfl
  · exact vledLow_stops g s hl
  · exact fun h => act_eq hl (clineClamp_idle g c s h) rfl
  · exact clineClamp_stops g c s hl
  · exact fun h => act_eq hl (headroomLost_idle g lines s h) rfl
  · rintro low rfl
    exact headroom_records g lines s hl

end Sys2Proof.GroupDrivers
end

section
/-! PROOFS. A shunt clamp brings the account of its string up to date (R218, R219, R325). -/
namespace Sys2Proof.LampClamps
open Sys2Proof.Machine

theorem str_modStr_same (s : State) (n : Fin 4) (f : StringState → StringState) : (s.modStr n f).str n = f (s.str n) := by
  simp [State.str, State.modStr, Vector.getD, n.isLt]

theorem str_addEnergy (sup heat : Int) (s : State) (n : Nat) : (addEnergy sup heat s).str n = s.str n := rfl

theorem str_of_strings {s t : State} (h : t.strings = s.strings) (n : Nat) : t.str n = s.str n := by simp [State.str, h]

/-- Whether or not the string draws energy, its account then stands at the present tck (R325). -/
theorem countString_countedTo (n : Fin 4) (s : State) : ((countString n s).str n).countedTo = s.now := by
  unfold countString
  dsimp only
  split
  · split
    · rw [str_addEnergy, str_modStr_same, str_modStr_same]
    · rw [str_modStr_same, str_modStr_same]
  · rw [str_modStr_same]

theorem faultLasting_strings (s : State) (kind mapped object : Nat) : (faultLasting s kind mapped object).strings = s.strings := by
  have h := faultLasting_only s kind mapped object
  unfold OnlyFaultLog at h
  rw [h]

/-- What LAMP_OPEN changes in the string states is what accounting changes there: its marks lie in the register file and the fault log. -/
theorem lampOpen_strings (n k : Nat) (s : State) : (lampOpen n k s).strings = (countString n s).strings := by
  unfold lampOpen
  rw [faultLasting_strings, State.raise_strings, State.set_strings]

/-- On a live device, LAMP_OPEN changes the state of a string that is not yet accounted up to the present tck. -/
theorem lampOpen_changes_strings {n : Fin 4} {k : Fin 16} {s t : State} (hl : Live s) (hc : (s.str n).countedTo ≠ s.now)
    (ht : exec (.lampOpen n k) s = .next t) : t.strings ≠ s.strings := by
  intro he
  have hexec : exec (.lampOpen n k) s = .next ((lampOpen n k s).keepQueue s) := act_live hl _
  obtain rfl : (lampOpen n k s).keepQueue s = t := by injection hexec.symm.trans ht
  rw [State.keepQueue_strings, lampOpen_strings] at he
  refine hc ?_
  rw [← str_of_strings he n, countString_countedTo]

/-- Refutes O21 at its clause for LAMP_OPEN, which has the clamp leave every string's state: one tck after reset no string is accounted past tck 0,
and the clamp of lamp 0 of string 0 brings that string's account to tck 1. -/
theorem not_stringRampsSamplesAndFaults : ¬ Obligations.StringRampsSamplesAndFaults := by
  unfold Obligations.StringRampsSamplesAndFaults
  intro h
  have hl : Live State.reset.nextTck := ⟨rfl, rfl, settled_of_none rfl⟩
  have hc : (State.reset.nextTck.str 0).countedTo ≠ State.reset.nextTck.now := by decide
  obtain ⟨-, -, -, -, -, -, hclamp, -⟩ := h 0 State.reset.nextTck hl
  obtain ⟨t, ht, -, -, hstrings, -⟩ := hclamp 0
  exact lampOpen_changes_strings (n := 0) hl hc ht hstrings

end Sys2Proof.LampClamps
end

section
/-! PROOFS. The event queue: what enters it, and what its three readers take from it (R283 to R290, R431). -/
namespace Sys2Proof.EventQueue
open Sys2Proof.Machine

/-! ### The oldest raised event (R283 to R285) -/

theorem enqueueEvent_masked {e : Ev} {r : List Ev} {s : State} (hw : s.events.waiting = e :: r)
    (hm : (s.get Fld.EVENT_BASIC_TYPE_MASK).testBit (bitsOf e.word 45 3) = false) :
    enqueueEvent s = { s with events := { s.events with waiting := r } } := by
  unfold enqueueEvent
  rw [hw]
  exact if_pos hm

theorem enqueueEvent_unmasked {e : Ev} {r : List Ev} {s : State} (hw : s.events.waiting = e :: r)
    (hm : (s.get Fld.EVENT_BASIC_TYPE_MASK).testBit (bitsOf e.word 45 3) = true) :
    enqueueEvent s =
      if s.events.queued.length + s.events.flight.length < 256 then
        { s with events := { s.events with waiting := r, queued := s.events.queued ++ [e] } }.raise Fld.EVENT_EVENTS_QUEUED
      else ({ s with events := { s.events with waiting := r } }.bump Fld.EVENT_STATUS_LOST 1).raise Fld.EVENT_EVENTS_OVERFLOW := by
  unfold enqueueEvent
  rw [hw]
  exact if_neg fun h => Bool.false_ne_true (h.symm.trans hm)

/-- An event lost for want of a slot is counted in LOST, which stops at its greatest value (R285). -/
theorem lost_counted (s : State) : ((s.bump Fld.EVENT_STATUS_LOST 1).raise Fld.EVENT_EVENTS_OVERFLOW).get Fld.EVENT_STATUS_LOST =
    min (s.get Fld.EVENT_STATUS_LOST + 1) (2 ^ Fld.EVENT_STATUS_LOST.width - 1) := by
  rw [State.raise, State.get_set_apart _ _ (by simp [Field.apart]), State.bump, State.get_set_same _ _ _ (by simp)]
  exact Nat.mod_eq_of_lt (Nat.lt_of_le_of_lt (Nat.min_le_right _ _) (by decide))

theorem eventEnqueue_full {e : Ev} {r : List Ev} {s : State} (hl : Live s) (hw : s.events.waiting = e :: r)
    (hm : (s.get Fld.EVENT_BASIC_TYPE_MASK).testBit (bitsOf e.word 45 3) = true)
    (hn : 256 ≤ s.events.queued.length + s.events.flight.length) : Answers .eventEnqueue s fun t =>
      t.get Fld.EVENT_STATUS_LOST = min (s.get Fld.EVENT_STATUS_LOST + 1) (2 ^ Fld.EVENT_STATUS_LOST.width - 1) ∧
      t.flag Fld.EVENT_EVENTS_OVERFLOW = true ∧ t.events = { s.events with waiting := r } ∧
      RegsBut [Reg.EVENT_STATUS, Reg.EVENT_EVENTS] s t := by
  refine ⟨_, act_eq hl ((enqueueEvent_unmasked hw hm).trans (if_neg (by omega))) rfl, lost_counted _, ?_, rfl, fun a ha => ?_⟩
  · rw [State.flag, State.raise, State.get_set_same _ _ _ (by simp)]
    rfl
  · obtain ⟨hs, he⟩ : a ≠ Reg.EVENT_STATUS ∧ a ≠ Reg.EVENT_EVENTS := by simpa using ha
    rw [State.raise, State.reg_set_other _ _ _ he, State.bump, State.reg_set_other _ _ _ hs]
    rfl

/-! ### A pop (R287, R288) -/

theorem popEvent_cons {e : Ev} {r : List Ev} {s : State} (h : s.events.queued = e :: r) :
    popEvent s = (some e, { s with events := { s.events with queued := r } }) := by
  unfold popEvent
  rw [h]

theorem popEvent_nil {s : State} (h : s.events.queued = []) : popEvent s = (none, s) := by
  unfold popEvent
  rw [h]

theorem popByPath_pending (p : Path) (s : State) : (popByPath p s).2.pending = s.pending := by
  unfold popByPath popEvent
  cases s.events.queued <;> rfl

theorem settleWith_of_none (p : Late → Bool) {s : State} (h : s.late = []) : s.settleWith p = s := by
  unfold State.settleWith
  rw [h]
  exact congrArg (fun l => { s with late := l }) h.symm

/-- A register path other than the fabric's pops on the tck on which the arbiter serves it. -/
theorem popRead_of_ne_fabric {p : Path} (hp : p ≠ .fabric) {s : State} (h : s.late = []) : popRead p s = (popByPath p s).2 := by
  rw [popRead, if_neg hp, State.settledNow, settleWith_of_none _ h]

/-- An access to the table of a page that no reset holds, out of HOLD, takes its effect on the next tck. -/
theorem accessIn_eq {page : Nat} {s t : State} {f : State → State} (hl : Live s) (hr : s.heldInReset page = false)
    (hh : s.get Fld.CLOCK_POWER_STATE ≠ 3) (e : f s.nextTck = t) (q : t.pending = s.pending) : accessIn page s f = .next t := by
  have hr' : s.nextTck.heldInReset page = false := by simpa [State.heldInReset] using hr
  refine access_eq hl ?_ q
  simp only [hr', Bool.false_or, decide_eq_true_eq]
  rw [if_neg (by simpa using hh), e]

/-! ### The fabric's pops take place when their data returns (R431)

Both are late effects of the tck 2 after acceptance, and come behind the ring's pop of that tck (R288): they have taken place once it has passed. -/

/-- A late effect that takes place once its tck has passed. -/
def ActsAfterItsTck (e : LateEffect) : Prop := ∀ now due, State.lateDone now ⟨due, e⟩ = decide (due < now)

theorem later_of_none {s : State} (h : s.late = []) (n : Nat) (e : LateEffect) : s.later n e = { s with late := [⟨s.now + n, e⟩] } := by
  rw [later_only, h]
  rfl

theorem elapse_withLate (s : State) (ls : List Late) (n : Nat) : { s with late := ls }.elapse n = { s.elapse n with late := ls } := by
  unfold State.elapse
  dsimp only
  split <;> rfl

/-- The one late effect, its tck not yet past, waits. -/
theorem settled_waiting {s : State} {e : LateEffect} {due : Nat} (he : ActsAfterItsTck e) (h : s.late = [⟨due, e⟩]) (hd : s.now ≤ due) :
    s.settled = s := by
  have hn : State.lateDone s.now ⟨due, e⟩ = false := by rw [he]; exact decide_eq_false (by omega)
  unfold State.settled State.settleWith
  simp only [h, List.filter_cons, hn, Bool.false_eq_true, if_false, List.filter_nil, List.foldl_nil, Bool.not_false, if_true]
  exact congrArg (fun l => { s with late := l }) h.symm

/-- The one late effect, its tck past, has taken place. -/
theorem settled_acted {s : State} {e : LateEffect} {due : Nat} (he : ActsAfterItsTck e) (h : s.late = [⟨due, e⟩]) (hd : due < s.now) :
    s.settled = { s with late := [] }.lateEffect e := by
  have hn : State.lateDone s.now ⟨due, e⟩ = true := by rw [he]; exact decide_eq_true hd
  unfold State.settled State.settleWith
  simp only [h, List.filter_cons, hn, if_true, List.filter_nil, List.foldl_cons, List.foldl_nil, Bool.not_true, Bool.false_eq_true, if_false]

theorem late_elapse_later {s : State} (h : s.late = []) (n m : Nat) (e : LateEffect) : ((s.later n e).elapse m).late = [⟨s.now + n, e⟩] := by
  rw [later_of_none h, State.elapse_late]

theorem now_elapse_later (s : State) (n m : Nat) (e : LateEffect) : ((s.later n e).elapse m).now = s.now + m := State.elapse_now _ m

theorem settled_later_two {s : State} {e : LateEffect} (he : ActsAfterItsTck e) (h : s.late = []) :
    ((s.later 2 e).elapse 2).settled = (s.later 2 e).elapse 2 :=
  settled_waiting he (late_elapse_later h 2 2 e) (Nat.le_of_eq (now_elapse_later s 2 2 e))

theorem settled_later_three {s : State} {e : LateEffect} (he : ActsAfterItsTck e) (h : s.late = []) :
    ((s.later 2 e).elapse 3).settled = (s.elapse 3).lateEffect e := by
  rw [settled_acted he (late_elapse_later h 2 3 e) (by rw [now_elapse_later]; omega), later_of_none h, elapse_withLate]
  exact congrArg (fun l => { s.elapse 3 with late := l }.lateEffect e) (h.symm.trans (State.elapse_late s 3).symm)

theorem fabricPop_actsAfterItsTck : ActsAfterItsTck .fabricPop := fun _ _ => rfl
theorem portPop_actsAfterItsTck : ActsAfterItsTck .portPop := fun _ _ => rfl

theorem fabricPop_events {e : Ev} {r : List Ev} {s : State} (h : s.events.queued = e :: r) :
    (s.lateEffect .fabricPop).events = { s.events with queued := r, lastFabric := e.ext } := by
  simp only [State.lateEffect, popByPath, popEvent_cons h, State.bridgeAnswers]

theorem portPop_takes {e : Ev} {r : List Ev} {s : State} (h : s.events.queued = e :: r) :
    (s.lateEffect .portPop).events = { s.events with queued := r } ∧
    (s.lateEffect .portPop).bridgeAnswer 1 = { data := e.word, more := e.ext } := by
  simp only [State.lateEffect, popEvent_cons h, State.bridgeAnswers, State.bridgeAnswer, Option.elim, Table.get_put_same, and_self]

theorem portPop_empty {s : State} (h : s.events.queued = []) :
    (s.lateEffect .portPop).events = s.events ∧
    (s.lateEffect .portPop).bridgeAnswer 1 = { data := 0xFFFFFFFFFFFF, more := 0 } := by
  simp only [State.lateEffect, popEvent_nil h, State.bridgeAnswers, State.bridgeAnswer, Option.elim, Table.get_put_same, true_and]
  rfl

/-! ### The commands -/

/-- A pop reaches the queue: the device is live with nothing late, no reset holds the page, and it is out of HOLD. -/
structure QueueOpen (s : State) : Prop where
  live : Live s
  noneLate : s.late = []
  notHeld : s.heldInReset 0x1A = false
  outOfHold : s.get Fld.CLOCK_POWER_STATE ≠ 3

theorem eventPop_of_ne_fabric {p : Path} (hp : p ≠ .fabric) {s : State} (ho : QueueOpen s) :
    exec (.eventPop p) s = .next (popByPath p s.nextTck).2 := by
  have hn : s.nextTck.late = [] := (State.elapse_late s 1).trans ho.noneLate
  exact accessIn_eq ho.live ho.notHeld ho.outOfHold (popRead_of_ne_fabric hp hn) ((popByPath_pending p _).trans (State.elapse_pending s 1))

theorem eventPop_fabric {s : State} (ho : QueueOpen s) : exec (.eventPop .fabric) s = .next (s.nextTck.later 2 .fabricPop) :=
  accessIn_eq ho.live ho.notHeld ho.outOfHold rfl (State.elapse_pending s 1)

theorem fabricEventPop_later {s : State} (ho : QueueOpen s) : exec .fabricEventPop s = .next (s.later 2 .portPop) :=
  actIn_eq (f := fun s => s.later 2 .portPop) ho.live ho.notHeld rfl rfl

theorem queued_nextTck {s : State} {q : List Ev} (h : s.events.queued = q) : s.nextTck.events.queued = q := by
  rwa [State.nextTck, State.elapse_events]

theorem eventPop_fabric_takes {e : Ev} {r : List Ev} {s : State} (ho : QueueOpen s) (hq : s.events.queued = e :: r) :
    Answers (.eventPop .fabric) s fun t => t = { s.nextTck with late := t.late } ∧
      (t.elapse 2).settled.events.queued = e :: r ∧ (t.elapse 3).settled.events = { s.events with queued := r, lastFabric := e.ext } := by
  have hn : s.nextTck.late = [] := (State.elapse_late s 1).trans ho.noneLate
  refine ⟨_, eventPop_fabric ho, rfl, ?_, ?_⟩
  · rw [settled_later_two fabricPop_actsAfterItsTck hn, State.elapse_events]
    exact queued_nextTck hq
  · rw [settled_later_three fabricPop_actsAfterItsTck hn, fabricPop_events (by rwa [State.elapse_events, State.nextTck, State.elapse_events]),
      State.elapse_events, State.nextTck, State.elapse_events]

theorem fabricEventPop_takes {e : Ev} {r : List Ev} {s : State} (ho : QueueOpen s) (hq : s.events.queued = e :: r) :
    Answers .fabricEventPop s fun t => t = { s with late := t.late } ∧ (t.elapse 2).settled.events.queued = e :: r ∧
      (t.elapse 3).settled.events = { s.events with queued := r } ∧ (t.elapse 3).settled.bridgeAnswer 1 = { data := e.word, more := e.ext } := by
  obtain ⟨hevents, hanswer⟩ := portPop_takes (s := s.elapse 3) (by rwa [State.elapse_events])
  have hn := ho.noneLate
  refine ⟨_, fabricEventPop_later ho, rfl, ?_, ?_, ?_⟩
  · rwa [settled_later_two portPop_actsAfterItsTck hn, State.elapse_events]
  · rw [settled_later_three portPop_actsAfterItsTck hn, hevents, State.elapse_events]
  · rw [settled_later_three portPop_actsAfterItsTck hn, hanswer]

theorem fabricEventPop_empty {s : State} (ho : QueueOpen s) (hq : s.events.queued = []) :
    Answers .fabricEventPop s fun t => t = { s with late := t.late } ∧ (t.elapse 3).settled.events = s.events ∧
      (t.elapse 3).settled.bridgeAnswer 1 = { data := 0xFFFFFFFFFFFF, more := 0 } := by
  obtain ⟨hevents, hanswer⟩ := portPop_empty (s := s.elapse 3) (by rwa [State.elapse_events])
  have hn := ho.noneLate
  refine ⟨_, fabricEventPop_later ho, rfl, ?_, ?_⟩
  · rw [settled_later_three portPop_actsAfterItsTck hn, hevents, State.elapse_events]
  · rw [settled_later_three portPop_actsAfterItsTck hn, hanswer]

/-- Settles O23. EVENT_ENQUEUE by the branches of `enqueueEvent`, the pops by `popEvent` on the two forms of the queue; the fabric's pops are
followed through their late effect, which waits at 2 tck and has taken place at 3. -/
theorem eventQueueEntersAndLeaves : Obligations.EventQueueEntersAndLeaves := by
  unfold Obligations.EventQueueEntersAndLeaves
  refine ⟨fun e r s hl hw => ⟨fun hm => ?_, fun hm hn => ?_, fun hm hn => ?_⟩, fun e r s hl hn hr hh hq => ?_, fun s hl hn hr hh hq => ?_⟩
  · exact act_eq hl (enqueueEvent_masked hw hm) rfl
  · exact act_eq hl ((enqueueEvent_unmasked hw hm).trans (if_pos hn)) rfl
  · exact eventEnqueue_full hl hw hm hn
  · have ho : QueueOpen s := ⟨hl, hn, hr, hh⟩
    have hq' := queued_nextTck hq
    refine ⟨?_, ?_, ?_, eventPop_fabric_takes ho hq, fabricEventPop_takes ho hq⟩
    · rw [popByPath, popEvent_cons hq]
    · rw [eventPop_of_ne_fabric (by decide) ho, popByPath, popEvent_cons hq']
    · rw [eventPop_of_ne_fabric (by decide) ho, popByPath, popEvent_cons hq']
  · have ho : QueueOpen s := ⟨hl, hn, hr, hh⟩
    refine ⟨fun p => ?_, ?_, fabricEventPop_empty ho hq⟩
    · simp only [popByPath, popEvent_nil hq]
      rfl
    · rw [eventPop_of_ne_fabric (by decide) ho, popByPath, popEvent_nil (queued_nextTck hq)]

end Sys2Proof.EventQueue
end

section
/-! PROOFS. KLOCK.CTRL on a locked path: the WO fields act, and LOCKED_WRITE is raised (R72, R298). -/
namespace Sys2Proof.LockedPath
open Sys2Proof.Machine

theorem expert_nextTck (s : State) (page : Nat) : s.nextTck.expert page = s.expert page := by simp [State.expert]

theorem locked_nextTck (s : State) (p : Path) (page : Nat) : s.nextTck.locked p page = s.locked p page := by
  cases p <;> simp [State.locked]

theorem pathOpen_nextTck (s : State) (p : Path) (page : Nat) : s.nextTck.pathOpen p page = s.pathOpen p page := by
  simp [State.pathOpen, State.heldInReset]

/-- A field that LOCK does not protect, in a basic register that holds fields it does, takes effect on a locked path with LOCKED_WRITE (R72). -/
theorem fieldWrite_locked_free {p : Path} {reg : Nat} {f : State → State} {s : State} (ho : s.pathOpen p (reg / 256) = true)
    (he : s.expert (reg / 256) = false) (hi : reg % 256 < 0x40) (hk : s.locked p (reg / 256) = true) (hm : State.lockMask reg ≠ 0) :
    fieldWrite p reg false f s = f (s.raiseBit (reg / 256) 46) := by
  have hs : s.lockStops p reg = true := by
    rw [State.lockStops, hk, Bool.true_and]
    exact decide_eq_true hm
  simp [fieldWrite, ho, wrongLevel_basic he hi, hs]

theorem lockMask_klockCtrl_ne_zero : State.lockMask Reg.KLOCK_CTRL ≠ 0 := by decide

theorem clearFails_locked {p : Path} {s : State} (hl : Live s) (ho : s.pathOpen p 0x1B = true) (he : s.expert 0x1B = false)
    (hk : s.locked p 0x1B = true) : exec (.clearFails p) s = .next ((s.nextTck.raiseBit 0x1B 46).set Fld.KLOCK_STATUS_FAILS 0) :=
  access_eq hl (fieldWrite_locked_free (reg := Reg.KLOCK_CTRL) ((pathOpen_nextTck s p _).trans ho) ((expert_nextTck s _).trans he) (by decide)
    ((locked_nextTck s p _).trans hk) lockMask_klockCtrl_ne_zero) (State.elapse_pending s 1)

/-- KLOCK.EVENTS.LOCKED_WRITE, which every page's EVENTS register holds (R72). -/
def klockLockedWrite : Field := ⟨Reg.KLOCK_EVENTS, 46, 1⟩

theorem flag_after_setFails (s : State) : (s.set Fld.KLOCK_STATUS_FAILS 0).flag klockLockedWrite = s.flag klockLockedWrite := by
  rw [State.flag, State.get_set_apart _ _ (by simp [Field.apart, klockLockedWrite]), State.flag]

theorem flag_raiseBit_lockedWrite (s : State) : (s.raiseBit 0x1B 46).flag klockLockedWrite = true :=
  congrArg (· == 1) (State.get_set_same s klockLockedWrite 1 (by decide))

/-- So CLEAR_FAILS on a locked path, LOCKED_WRITE not yet standing, changes more than FAILS. -/
theorem clearFails_locked_not_fails_alone {p : Path} {s : State} (hl : Live s) (ho : s.pathOpen p 0x1B = true) (he : s.expert 0x1B = false)
    (hk : s.locked p 0x1B = true) (hf : s.flag klockLockedWrite = false) :
    exec (.clearFails p) s ≠ .next (s.nextTck.set Fld.KLOCK_STATUS_FAILS 0) := by
  rw [clearFails_locked hl ho he hk]
  intro h
  injection h with h
  have hflag := congrArg (·.flag klockLockedWrite) h
  simp only [flag_after_setFails, flag_raiseBit_lockedWrite, State.nextTck_eq, State.flag_elapse, hf, Bool.true_eq_false] at hflag

/-- The device after reset, with the ring's bit of KLOCK.LOCK set. -/
def ringLockedOut : State := State.reset.setReg 0x1B06 1

/-- Refutes O24 at its clause for CLEAR_FAILS and SEAL, which supposes no path unlocked: KLOCK.CTRL holds LOCK, an RWL field, so on a locked path its
write raises LOCKED_WRITE too (R72). The ring, locked out of the page after reset, clears FAILS. -/
theorem not_keyLockAndCombinations : ¬ Obligations.KeyLockAndCombinations := by
  unfold Obligations.KeyLockAndCombinations
  rintro ⟨-, hctrl, -⟩
  have hl : Live ringLockedOut := ⟨rfl, rfl, settled_of_none rfl⟩
  have ho : ringLockedOut.pathOpen .ring 0x1B = true := by decide
  have he : ringLockedOut.expert 0x1B = false := by decide
  obtain ⟨hclear, -⟩ := hctrl .ring ringLockedOut hl ho he
  exact clearFails_locked_not_fails_alone hl ho he (by decide) (by decide) hclear

end Sys2Proof.LockedPath
end

section
/-! PROOFS. The supply and mains monitors of the ledger: samples of VSUP_SENSE, crossings and missing half-cycles of the mains, and the recovery
timer (R316 to R320, R417). -/
namespace Sys2Proof.SupplyMonitors
open Sys2Proof.Machine Sys2Proof.GroupDrivers

/-! ### Flags -/

theorem flag_of_get {s t : State} {f : Field} (h : t.get f = s.get f) : t.flag f = s.flag f := congrArg (· == 1) h

theorem flag_raise_same (s : State) (f : Field) (h : f.lo + f.width ≤ 48) (hw : 1 ≤ f.width) : (s.raise f).flag f = true :=
  congrArg (· == 1) (get_raise_same s f h hw)

theorem flag_clear_same (s : State) (f : Field) (h : f.lo + f.width ≤ 48) : (s.set f 0).flag f = false := by
  rw [State.flag, State.get_set_same s f 0 h, Nat.zero_mod]
  rfl

theorem flag_raise_apart (s : State) {f g : Field} (h : f.apart g) : (s.raise f).flag g = s.flag g := flag_of_get (get_raise_apart s h)

/-! ### What the monitors leave as it was -/

/-- Every register but LEDGER.STATUS and LEDGER.EVENTS, the memory layer and the queue are as before. -/
structure MonitorFrame (s t : State) : Prop where
  regs : RegsBut [Reg.LEDGER_STATUS, Reg.LEDGER_EVENTS] s t
  fabric : t.fabric = s.fabric
  pending : t.pending = s.pending

theorem MonitorFrame.elapse (s : State) (n : Nat) : MonitorFrame s (s.elapse n) :=
  ⟨fun a _ => s.reg_elapse n a, s.elapse_fabric n, s.elapse_pending n⟩

theorem MonitorFrame.elapseTo (s : State) (n : Nat) : MonitorFrame s (s.elapseTo n) :=
  ⟨fun a _ => s.reg_elapseTo n a, s.elapseTo_fabric n, s.elapseTo_pending n⟩

theorem MonitorFrame.set {s t : State} (h : MonitorFrame s t) {f : Field} (v : Nat) (hf : f.reg ∈ [Reg.LEDGER_STATUS, Reg.LEDGER_EVENTS]) :
    MonitorFrame s (t.set f v) :=
  ⟨fun a ha => (State.reg_set_other t f v fun e : a = f.reg => ha (e ▸ hf)).trans (h.regs a ha), h.fabric, h.pending⟩

theorem MonitorFrame.raise {s t : State} (h : MonitorFrame s t) {f : Field} (hf : f.reg ∈ [Reg.LEDGER_STATUS, Reg.LEDGER_EVENTS]) :
    MonitorFrame s (t.raise f) := h.set 1 hf

theorem MonitorFrame.withLedger {s t : State} (h : MonitorFrame s t) (l : LedgerState) : MonitorFrame s { t with ledger := l } :=
  ⟨h.regs, h.fabric, h.pending⟩

theorem MonitorFrame.sameMemory {s t : State} (h : MonitorFrame s t) : SameMemory s t := fun a => by rw [State.memRaw, h.fabric, State.memRaw]

theorem MonitorFrame.putSupply {s t : State} (h : MonitorFrame s t) (v : Nat) : MonitorFrame s (putSupply v t) := h.set v (by decide)

theorem MonitorFrame.enterSag {s t : State} (h : MonitorFrame s t) : MonitorFrame s (enterSag t) :=
  ((h.putSupply 1).raise (by decide)).withLedger _

theorem MonitorFrame.enterRecovering {s t : State} (h : MonitorFrame s t) : MonitorFrame s (enterRecovering t) := (h.putSupply 2).withLedger _

/-! ### Events of the page's block (R417) -/

/-- An event of the ledger's block that no hive reset holds answers its effect. -/
theorem answers_of_frame {c : Instr} {s : State} {f : State → State} {P : State → Prop} (hc : exec c s = actIn 2 s f) (hl : Live s)
    (hr : s.heldInReset 2 = false) (hf : MonitorFrame s (f s)) (h : P (f s)) : Answers c s P := ⟨f s, hc.trans (actIn_eq hl hr rfl hf.pending), h⟩

theorem ignored_in_reset {c : Instr} {s : State} {f : State → State} (hc : exec c s = actIn 2 s f) (hl : Live s) (hr : s.heldInReset 2 = true) :
    exec c s = .next s := hc.trans (act_eq hl (if_pos hr) rfl)

theorem ignored_of_eq {c : Instr} {s : State} {f : State → State} (hc : exec c s = actIn 2 s f) (hl : Live s) (hr : s.heldInReset 2 = false)
    (h : f s = s) : exec c s = .next s := hc.trans (actIn_eq hl hr h rfl)

/-! ### The supply state (R318, R319) -/

theorem supply_putSupply (s : State) (v : Nat) (h : v < 4) : (putSupply v s).get Fld.LEDGER_STATUS_SUP_STATE = v := by
  rw [putSupply, State.get_set_same _ _ _ (by decide)]
  exact Nat.mod_eq_of_lt h

theorem get_putSupply (s : State) (v : Nat) {f : Field} (h : Fld.LEDGER_STATUS_SUP_STATE.apart f) : (putSupply v s).get f = s.get f :=
  State.get_set_apart s v h

theorem supply_enterSag (s : State) : (enterSag s).get Fld.LEDGER_STATUS_SUP_STATE = 1 :=
  (get_raise_apart (putSupply 1 s) (by unfold Field.apart; decide)).trans (supply_putSupply s 1 (by decide))

theorem sag_enterSag (s : State) : (enterSag s).flag Fld.LEDGER_EVENTS_SAG = true := flag_raise_same (putSupply 1 s) _ (by decide) (by decide)

/-- A field that an entry to SAG leaves as it was. -/
def BesideSag (f : Field) : Prop := Fld.LEDGER_STATUS_SUP_STATE.apart f ∧ Fld.LEDGER_EVENTS_SAG.apart f

theorem get_enterSag (s : State) {f : Field} (h : BesideSag f) : (enterSag s).get f = s.get f :=
  (get_raise_apart (putSupply 1 s) h.2).trans (get_putSupply s 1 h.1)

theorem enterSag_ledger (s : State) : (enterSag s).ledger =
    { s.ledger with sagFrom := if s.flag Fld.LEDGER_STATUS_SAG_PLAN then none else some (s.now + 16) } := by
  have hplan : ((putSupply 1 s).raise Fld.LEDGER_EVENTS_SAG).flag Fld.LEDGER_STATUS_SAG_PLAN = s.flag Fld.LEDGER_STATUS_SAG_PLAN :=
    flag_of_get (get_enterSag s (by unfold BesideSag Field.apart; decide))
  simp only [enterSag, hplan]
  rfl

theorem supply_enterRecovering (s : State) : (enterRecovering s).get Fld.LEDGER_STATUS_SUP_STATE = 2 := supply_putSupply s 2 (by decide)

/-! ### VSUP_SAMPLE (R316) -/

/-- The state in which a sample, taken on its grid and shown, is judged. -/
def sampleShown (v : Nat) (s : State) : State :=
  let t := s.elapse (s.toNextGrid 192 s.ledger.lastSample)
  { t with ledger := { t.ledger with lastSample := some t.now } }.set Fld.LEDGER_STATUS_VSUP v

/-- The run of consecutive low samples, with a sample of `v`. -/
def countedRun (v : Nat) (s : State) : Nat := if v < s.get Fld.LEDGER_MON_SAG_THR then s.ledger.lowRun + 1 else 0

/-- The state with a sample counted in that run; the supply state has not yet moved. -/
def sampleCounted (v : Nat) (s : State) : State := { s with ledger := { s.ledger with lowRun := countedRun v s } }

theorem get_sampleShown (v : Nat) (s : State) {f : Field} (h : Fld.LEDGER_STATUS_VSUP.apart f) : (sampleShown v s).get f = s.get f :=
  (State.get_set_apart _ v h).trans (State.get_elapse s _ f)

/-- The move of the supply state that a sample of `v` brings in a state (R318). -/
def supplyMove (v : Nat) (s : State) : State → State :=
  if s.get Fld.LEDGER_STATUS_SUP_STATE = 0 then
    if v < s.get Fld.LEDGER_MON_SAG_THR ∧ s.get Fld.LEDGER_MON_SAG_N ≤ s.ledger.lowRun + 1 then enterSag else id
  else if s.get Fld.LEDGER_STATUS_SUP_STATE = 1 then
    if s.get Fld.LEDGER_MON_RECOVER_THR ≤ v ∧ (s.flag Fld.LEDGER_MON_ZC_EN = false ∨ s.flag Fld.LEDGER_STATUS_ZC_LOCK = true) then
      enterRecovering
    else id
  else if s.get Fld.LEDGER_MON_RECOVER_THR ≤ v then id
  else putSupply 1

theorem judgeSample_eq (v : Nat) (s : State) : judgeSample v s = supplyMove v s (sampleCounted v s) := by
  have hcounted : { s with ledger := { s.ledger with
      lowRun := if decide (v < s.get Fld.LEDGER_MON_SAG_THR) = true then s.ledger.lowRun + 1 else 0 } } = sampleCounted v s := by
    simp only [sampleCounted, countedRun, decide_eq_true_eq]
  have hget : ∀ f, (sampleCounted v s).get f = s.get f := fun _ => rfl
  have hflag : ∀ f, (sampleCounted v s).flag f = s.flag f := fun _ => rfl
  have hrun : (v < s.get Fld.LEDGER_MON_SAG_THR ∧
      s.get Fld.LEDGER_MON_SAG_N ≤ if v < s.get Fld.LEDGER_MON_SAG_THR then s.ledger.lowRun + 1 else 0) ↔
      v < s.get Fld.LEDGER_MON_SAG_THR ∧ s.get Fld.LEDGER_MON_SAG_N ≤ s.ledger.lowRun + 1 :=
    and_congr_right fun h => by rw [if_pos h]
  unfold judgeSample supplyMove
  simp only [hcounted, hget, hflag]
  simp only [Bool.and_eq_true, Bool.or_eq_true, Bool.not_eq_true', decide_eq_true_eq, hrun]
  (repeat' split) <;> rfl

/-- The fields by which a sample is judged. -/
def judgingFields : List Field :=
  [Fld.LEDGER_STATUS_SUP_STATE, Fld.LEDGER_STATUS_ZC_LOCK, Fld.LEDGER_MON_SAG_THR, Fld.LEDGER_MON_RECOVER_THR, Fld.LEDGER_MON_SAG_N,
    Fld.LEDGER_MON_ZC_EN]

theorem judgingFields_apart : ∀ f ∈ judgingFields, Fld.LEDGER_STATUS_VSUP.apart f := by
  unfold judgingFields Field.apart
  decide

theorem supplyMove_congr (v : Nat) {s t : State} (hget : ∀ f ∈ judgingFields, t.get f = s.get f) (hrun : t.ledger.lowRun = s.ledger.lowRun) :
    supplyMove v t = supplyMove v s := by
  simp only [judgingFields, List.forall_mem_cons] at hget
  obtain ⟨hstate, hlock, hthr, hgood, hn, hen, -⟩ := hget
  simp only [supplyMove, hstate, hthr, hgood, hn, hrun, flag_of_get hlock, flag_of_get hen]

theorem countedRun_congr (v : Nat) {s t : State} (hget : ∀ f ∈ judgingFields, t.get f = s.get f) (hrun : t.ledger.lowRun = s.ledger.lowRun) :
    countedRun v t = countedRun v s := by
  rw [countedRun, hget _ (by unfold judgingFields; decide), hrun, countedRun]

/-- The state with a sample shown and counted, before the supply state moves. -/
def sampleTaken (v : Nat) (s : State) : State := sampleCounted v (sampleShown v s)

theorem get_sampleTaken (v : Nat) (s : State) {f : Field} (h : Fld.LEDGER_STATUS_VSUP.apart f) : (sampleTaken v s).get f = s.get f :=
  get_sampleShown v s h

theorem supply_sampleTaken (v : Nat) (s : State) : (sampleTaken v s).get Fld.LEDGER_STATUS_SUP_STATE = s.get Fld.LEDGER_STATUS_SUP_STATE :=
  get_sampleTaken v s (by unfold Field.apart; decide)

theorem sampleTaken_regsBut (v : Nat) (s : State) : RegsBut [Reg.LEDGER_STATUS] s (sampleTaken v s) := fun a ha =>
  (State.reg_set_other _ Fld.LEDGER_STATUS_VSUP v (List.ne_of_not_mem_cons ha)).trans (State.reg_elapse s _ a)

theorem sampleShown_lowRun (v : Nat) (s : State) : (sampleShown v s).ledger.lowRun = s.ledger.lowRun := by
  simp only [sampleShown, State.set_ledger, State.elapse_ledger]

/-- A sample moves the supply state by what stood before it was shown. -/
theorem vsupSample_eq (v : Nat) (s : State) : vsupSample v s = supplyMove v s (sampleTaken v s) := by
  rw [← supplyMove_congr v (fun f hf => get_sampleShown v s (judgingFields_apart f hf)) (sampleShown_lowRun v s)]
  exact judgeSample_eq v (sampleShown v s)

theorem supplyMove_cases (v : Nat) (s : State) :
    supplyMove v s = id ∨ supplyMove v s = enterSag ∨ supplyMove v s = enterRecovering ∨ supplyMove v s = putSupply 1 := by
  unfold supplyMove
  split
  · split
    · exact .inr (.inl rfl)
    · exact .inl rfl
  · split
    · split
      · exact .inr (.inr (.inl rfl))
      · exact .inl rfl
    · split
      · exact .inl rfl
      · exact .inr (.inr (.inr rfl))

/-- What a sample does whatever the supply state: it is taken on its grid, shown, and counted. -/
structure Sampled (v : Nat) (s t : State) : Prop where
  vsup : t.get Fld.LEDGER_STATUS_VSUP = v
  now : t.now = s.now + s.toNextGrid 192 s.ledger.lastSample
  lastSample : t.ledger.lastSample = some t.now
  lowRun : t.ledger.lowRun = countedRun v s
  frame : MonitorFrame s t

theorem sampled_sampleTaken (s : State) {v : Nat} (hv : v < 2 ^ 12) : Sampled v s (sampleTaken v s) where
  vsup := (State.get_set_same _ Fld.LEDGER_STATUS_VSUP v (by decide)).trans (Nat.mod_eq_of_lt hv)
  now := State.elapse_now s _
  lastSample := rfl
  lowRun := countedRun_congr v (fun f hf => get_sampleShown v s (judgingFields_apart f hf)) (sampleShown_lowRun v s)
  frame := (((MonitorFrame.elapse s _).withLedger _).set v (by decide)).withLedger _

theorem Sampled.putSupply {v : Nat} {s t : State} (h : Sampled v s t) (x : Nat) : Sampled v s (putSupply x t) where
  vsup := (get_putSupply t x (by unfold Field.apart; decide)).trans h.vsup
  now := h.now
  lastSample := h.lastSample
  lowRun := h.lowRun
  frame := h.frame.putSupply x

theorem Sampled.enterRecovering {v : Nat} {s t : State} (h : Sampled v s t) : Sampled v s (enterRecovering t) :=
  { h.putSupply 2 with frame := h.frame.enterRecovering }

theorem Sampled.enterSag {v : Nat} {s t : State} (h : Sampled v s t) : Sampled v s (enterSag t) where
  vsup := (get_enterSag t (by unfold BesideSag Field.apart; decide)).trans h.vsup
  now := h.now
  lastSample := h.lastSample
  lowRun := h.lowRun
  frame := h.frame.enterSag

theorem vsupSample_sampled (s : State) {v : Nat} (hv : v < 2 ^ 12) : Sampled v s (vsupSample v s) := by
  have h := sampled_sampleTaken s hv
  rw [vsupSample_eq]
  rcases supplyMove_cases v s with e | e | e | e <;> rw [e]
  · exact h
  · exact h.enterSag
  · exact h.enterRecovering
  · exact h.putSupply 1

/-- The low sample that completes the run enters SAG, with the sag plan 16 tck later unless it is driven (R318, R319). -/
theorem vsupSample_entersSag {v : Nat} {s : State} (h0 : s.get Fld.LEDGER_STATUS_SUP_STATE = 0) (hlow : v < s.get Fld.LEDGER_MON_SAG_THR)
    (hrun : s.get Fld.LEDGER_MON_SAG_N ≤ s.ledger.lowRun + 1) : vsupSample v s = enterSag (sampleTaken v s) := by
  rw [vsupSample_eq, supplyMove, if_pos h0, if_pos ⟨hlow, hrun⟩]

theorem vsupSample_staysNormal {v : Nat} {s : State} (h0 : s.get Fld.LEDGER_STATUS_SUP_STATE = 0)
    (h : s.get Fld.LEDGER_MON_SAG_THR ≤ v ∨ s.ledger.lowRun + 1 < s.get Fld.LEDGER_MON_SAG_N) : vsupSample v s = sampleTaken v s := by
  rw [vsupSample_eq, supplyMove, if_pos h0, if_neg (by omega), id]

theorem vsupSample_entersRecovering {v : Nat} {s : State} (h1 : s.get Fld.LEDGER_STATUS_SUP_STATE = 1)
    (hgood : s.get Fld.LEDGER_MON_RECOVER_THR ≤ v)
    (hmains : s.flag Fld.LEDGER_MON_ZC_EN = false ∨ s.flag Fld.LEDGER_STATUS_ZC_LOCK = true) :
    vsupSample v s = enterRecovering (sampleTaken v s) := by
  rw [vsupSample_eq, supplyMove, if_neg (by omega), if_pos h1, if_pos ⟨hgood, hmains⟩]

theorem vsupSample_staysSag {v : Nat} {s : State} (h1 : s.get Fld.LEDGER_STATUS_SUP_STATE = 1) (hbad : v < s.get Fld.LEDGER_MON_RECOVER_THR) :
    vsupSample v s = sampleTaken v s := by
  rw [vsupSample_eq, supplyMove, if_neg (by omega), if_pos h1, if_neg (by omega), id]

theorem vsupSample_fallsBack {v : Nat} {s : State} (h2 : s.get Fld.LEDGER_STATUS_SUP_STATE = 2) (hbad : v < s.get Fld.LEDGER_MON_RECOVER_THR) :
    vsupSample v s = putSupply 1 (sampleTaken v s) := by
  rw [vsupSample_eq, supplyMove, if_neg (by omega), if_neg (by omega), if_neg (by omega)]

theorem vsupSample_staysRecovering {v : Nat} {s : State} (h2 : s.get Fld.LEDGER_STATUS_SUP_STATE = 2)
    (hgood : s.get Fld.LEDGER_MON_RECOVER_THR ≤ v) : vsupSample v s = sampleTaken v s := by
  rw [vsupSample_eq, supplyMove, if_neg (by omega), if_neg (by omega), if_pos hgood, id]

/-! ### ZC_EDGE (R317) -/

/-- The state with a crossing accepted after one at tck `c`, before ZC_LOCK is judged. -/
def crossingTaken (c : Nat) (s : State) : State :=
  { s with ledger := { s.ledger with
      intervals := ((s.now - c) :: s.ledger.intervals).take 8, lastCross := some s.now, lastHalf := s.now, missing := 0 } }

theorem zcAccept_eq {s : State} {c : Nat} (hc : s.ledger.lastCross = some c) : zcAccept s =
    if zcAgree (s.get Fld.LEDGER_MON_ZC_SLACK) (crossingTaken c s).ledger.intervals then (crossingTaken c s).set Fld.LEDGER_STATUS_ZC_LOCK 1
    else crossingTaken c s := by
  rw [zcAccept, hc]
  rfl

theorem zcEdge_unselected {rising : Bool} {s : State} (h : s.flag Fld.LEDGER_MON_ZC_EN = false ∨ rising = s.flag Fld.LEDGER_MON_ZC_POL) :
    zcEdge rising s = s := by
  unfold zcEdge
  rcases h with h | h
  · simp only [h, Bool.false_and, Bool.false_eq_true, if_false]
  · simp only [h, bne_self_eq_false, Bool.and_false, Bool.false_and, Bool.false_eq_true, if_false]

theorem zcEdge_early {rising : Bool} {s : State} {c : Nat} (hc : s.ledger.lastCross = some c) (h : s.now < c + 192000) : zcEdge rising s = s := by
  simp only [zcEdge, hc, h, decide_true, Bool.not_true, Bool.and_false, Bool.false_eq_true, if_false]

theorem zcEdge_crossing {rising : Bool} {s : State} {c : Nat} (hen : s.flag Fld.LEDGER_MON_ZC_EN = true)
    (hpol : rising ≠ s.flag Fld.LEDGER_MON_ZC_POL) (hc : s.ledger.lastCross = some c) (h : c + 192000 ≤ s.now) :
    zcEdge rising s = zcAccept s := by
  have hpol' : (rising != s.flag Fld.LEDGER_MON_ZC_POL) = true := bne_iff_ne.mpr hpol
  have hlate : decide (s.now < c + 192000) = false := decide_eq_false (by omega)
  simp only [zcEdge, hen, hpol', hc, hlate, Bool.not_false, Bool.and_self, if_true]

/-! ### ZC_MISSING (R317, R318) -/

/-- The state with a half-cycle missed, before the supply state moves. -/
def halfMissed (s : State) : State :=
  let t := s.elapseTo (s.ledger.lastHalf + zcPeriod s + 19200 * s.get Fld.LEDGER_MON_ZC_SLACK)
  { t with ledger := { t.ledger with missing := t.ledger.missing + 1, lastHalf := t.now } }.raise Fld.LEDGER_EVENTS_ZC_MISSING

/-- NORMAL enters SAG, and RECOVERING falls back to it. -/
def fallToSag (s : State) : State :=
  if s.get Fld.LEDGER_STATUS_SUP_STATE = 0 then enterSag s
  else if s.get Fld.LEDGER_STATUS_SUP_STATE = 2 then putSupply 1 s
  else s

theorem fallToSag_cases (s : State) : fallToSag s = enterSag s ∨ fallToSag s = putSupply 1 s ∨ fallToSag s = s := by
  unfold fallToSag
  split
  · exact .inl rfl
  · split
    · exact .inr (.inl rfl)
    · exact .inr (.inr rfl)

theorem get_fallToSag (s : State) {f : Field} (h : BesideSag f) : (fallToSag s).get f = s.get f := by
  rcases fallToSag_cases s with e | e | e <;> rw [e]
  · exact get_enterSag s h
  · exact get_putSupply s 1 h.1

theorem supply_fallToSag {s : State} (h : s.get Fld.LEDGER_STATUS_SUP_STATE < 3) : (fallToSag s).get Fld.LEDGER_STATUS_SUP_STATE = 1 := by
  unfold fallToSag
  split
  · exact supply_enterSag s
  · split
    · exact supply_putSupply s 1 (by decide)
    · omega

theorem not_recovering_fallToSag (s : State) : (fallToSag s).get Fld.LEDGER_STATUS_SUP_STATE ≠ 2 := by
  unfold fallToSag
  split
  · rw [supply_enterSag]
    decide
  · split
    · rw [supply_putSupply s 1 (by decide)]
      decide
    · assumption

theorem sag_fallToSag {s : State} (h : s.get Fld.LEDGER_STATUS_SUP_STATE = 0) : (fallToSag s).flag Fld.LEDGER_EVENTS_SAG = true := by
  rw [fallToSag, if_pos h, sag_enterSag]

theorem MonitorFrame.fallToSag {s t : State} (h : MonitorFrame s t) : MonitorFrame s (fallToSag t) := by
  rcases fallToSag_cases t with e | e | e <;> rw [e]
  · exact h.enterSag
  · exact h.putSupply 1
  · exact h

/-- What a missing half-cycle counts stands when the supply state has moved. -/
theorem fallToSag_keeps (s : State) :
    (fallToSag s).now = s.now ∧ (fallToSag s).ledger.missing = s.ledger.missing ∧ (fallToSag s).ledger.lastHalf = s.ledger.lastHalf := by
  rcases fallToSag_cases s with e | e | e <;> rw [e]
  · exact ⟨rfl, rfl, rfl⟩
  · exact ⟨rfl, rfl, rfl⟩
  · exact ⟨rfl, rfl, rfl⟩

theorem zcUnlock_not_recovering {s : State} (h : s.get Fld.LEDGER_STATUS_SUP_STATE ≠ 2) : zcUnlock s = s.set Fld.LEDGER_STATUS_ZC_LOCK 0 := by
  have h' : (s.set Fld.LEDGER_STATUS_ZC_LOCK 0).get Fld.LEDGER_STATUS_SUP_STATE ≠ 2 := by
    rwa [State.get_set_apart _ _ (by unfold Field.apart; decide)]
  unfold zcUnlock
  simp only [h', decide_false, Bool.and_false, Bool.false_eq_true, if_false]

/-- The loss of the mains lock. -/
def lockLost (s : State) : State := (s.set Fld.LEDGER_STATUS_ZC_LOCK 0).raise Fld.LEDGER_EVENTS_ZC_LOST

theorem get_lockLost (s : State) {f : Field} (hk : Fld.LEDGER_STATUS_ZC_LOCK.apart f) (hl : Fld.LEDGER_EVENTS_ZC_LOST.apart f) :
    (lockLost s).get f = s.get f := (get_raise_apart _ hl).trans (State.get_set_apart s 0 hk)

theorem lock_lockLost (s : State) : (lockLost s).flag Fld.LEDGER_STATUS_ZC_LOCK = false :=
  (flag_raise_apart _ (by unfold Field.apart; decide)).trans (flag_clear_same s _ (by decide))

theorem zcMissing_unused {s : State} (h : s.flag Fld.LEDGER_STATUS_ZC_LOCK = false ∨ s.flag Fld.LEDGER_MON_ZC_EN = false) : zcMissing s = s := by
  unfold zcMissing
  rcases h with h | h
  · simp only [h, Bool.false_and, Bool.false_eq_true, if_false]
  · simp only [h, Bool.and_false, Bool.false_eq_true, if_false]

theorem halfMissed_missing (s : State) : (halfMissed s).ledger.missing = s.ledger.missing + 1 := by
  rw [halfMissed, State.raise_ledger, State.elapseTo_ledger]

/-- The eighth missing half-cycle in a row loses the lock; RECOVERING has fallen back by then (R317, R318). -/
theorem zcMissing_locked {s : State} (hlock : s.flag Fld.LEDGER_STATUS_ZC_LOCK = true) (hen : s.flag Fld.LEDGER_MON_ZC_EN = true) : zcMissing s =
    if 8 ≤ s.ledger.missing + 1 then
      lockLost (fallToSag (halfMissed s))
    else fallToSag (halfMissed s) := by
  rw [lockLost, ← zcUnlock_not_recovering (not_recovering_fallToSag _), ← halfMissed_missing, zcMissing, hlock, hen, Bool.and_self, if_pos rfl]
  rfl

theorem get_halfMissed (s : State) {f : Field} (h : Fld.LEDGER_EVENTS_ZC_MISSING.apart f) : (halfMissed s).get f = s.get f :=
  (get_raise_apart _ h).trans (State.get_elapseTo s _ f)

theorem halfMissed_frame (s : State) : MonitorFrame s (halfMissed s) := ((MonitorFrame.elapseTo s _).withLedger _).raise (by decide)

/-- What a missing half-cycle does whether the lock is lost or not. -/
structure CountedMissing (s t : State) : Prop where
  now : t.now = max s.now (s.ledger.lastHalf + zcPeriod s + 19200 * s.get Fld.LEDGER_MON_ZC_SLACK)
  event : t.flag Fld.LEDGER_EVENTS_ZC_MISSING = true
  missing : t.ledger.missing = s.ledger.missing + 1
  lastHalf : t.ledger.lastHalf = t.now
  supply : s.get Fld.LEDGER_STATUS_SUP_STATE < 3 → t.get Fld.LEDGER_STATUS_SUP_STATE = 1
  sag : s.get Fld.LEDGER_STATUS_SUP_STATE = 0 → t.flag Fld.LEDGER_EVENTS_SAG = true
  frame : MonitorFrame s t

theorem countedMissing_fallToSag (s : State) : CountedMissing s (fallToSag (halfMissed s)) := by
  obtain ⟨hnow, hmissing, hlast⟩ := fallToSag_keeps (halfMissed s)
  have hsupply : (halfMissed s).get Fld.LEDGER_STATUS_SUP_STATE = s.get Fld.LEDGER_STATUS_SUP_STATE :=
    get_halfMissed s (by unfold Field.apart; decide)
  exact {
    now := hnow.trans (State.elapseTo_now s _)
    event := (flag_of_get (get_fallToSag _ (by unfold BesideSag Field.apart; decide))).trans (flag_raise_same _ _ (by decide) (by decide))
    missing := hmissing.trans (halfMissed_missing s)
    lastHalf := hlast.trans hnow.symm
    supply := fun h => supply_fallToSag (by rwa [hsupply])
    sag := fun h => sag_fallToSag (by rwa [hsupply])
    frame := (halfMissed_frame s).fallToSag }

theorem CountedMissing.lockLost {s t : State} (h : CountedMissing s t) : CountedMissing s (lockLost t) where
  now := h.now
  event := (flag_of_get (get_lockLost t (by unfold Field.apart; decide) (by unfold Field.apart; decide))).trans h.event
  missing := h.missing
  lastHalf := h.lastHalf
  supply hs := (get_lockLost t (by unfold Field.apart; decide) (by unfold Field.apart; decide)).trans (h.supply hs)
  sag hs := (flag_of_get (get_lockLost t (by unfold Field.apart; decide) (by unfold Field.apart; decide))).trans (h.sag hs)
  frame := (h.frame.set 0 (by decide)).raise (by decide)

theorem zcMissing_counted {s : State} (hlock : s.flag Fld.LEDGER_STATUS_ZC_LOCK = true) (hen : s.flag Fld.LEDGER_MON_ZC_EN = true) :
    CountedMissing s (zcMissing s) := by
  rw [zcMissing_locked hlock hen]
  split
  · exact (countedMissing_fallToSag s).lockLost
  · exact countedMissing_fallToSag s

theorem get_fallToSag_halfMissed (s : State) {f : Field} (h : BesideSag f) (hm : Fld.LEDGER_EVENTS_ZC_MISSING.apart f) :
    (fallToSag (halfMissed s)).get f = s.get f := (get_fallToSag _ h).trans (get_halfMissed s hm)

/-! ### RECOVERED (R318, R320) -/

theorem recovered_idle {s : State} (h : s.get Fld.LEDGER_STATUS_SUP_STATE ≠ 2) : recovered s = s := if_neg h

theorem recovered_recovering {s : State} (h : s.get Fld.LEDGER_STATUS_SUP_STATE = 2) : recovered s =
    (putSupply 0 (s.elapseTo (s.ledger.recoverStart + 1920000 * s.get Fld.LEDGER_MON_RECOVER))).raise Fld.LEDGER_EVENTS_RECOVERED := if_pos h

/-! ### The commands on a live device -/

theorem vsupSample_acts (v : BitVec 12) {s : State} (hl : Live s) (hr : s.heldInReset 2 = false) : Answers (.vsupSample v) s fun t =>
    t.get Fld.LEDGER_STATUS_VSUP = v.toNat ∧ t.now = s.now + s.toNextGrid 192 s.ledger.lastSample ∧ t.ledger.lastSample = some t.now ∧
    t.ledger.lowRun = (if v.toNat < s.get Fld.LEDGER_MON_SAG_THR then s.ledger.lowRun + 1 else 0) ∧
    (s.get Fld.LEDGER_STATUS_SUP_STATE = 0 → v.toNat < s.get Fld.LEDGER_MON_SAG_THR → s.get Fld.LEDGER_MON_SAG_N ≤ s.ledger.lowRun + 1 →
      t.get Fld.LEDGER_STATUS_SUP_STATE = 1 ∧ t.flag Fld.LEDGER_EVENTS_SAG = true ∧
      (s.flag Fld.LEDGER_STATUS_SAG_PLAN = false → t.ledger.sagFrom = some (t.now + 16))) ∧
    (s.get Fld.LEDGER_STATUS_SUP_STATE = 0 → (s.get Fld.LEDGER_MON_SAG_THR ≤ v.toNat ∨ s.ledger.lowRun + 1 < s.get Fld.LEDGER_MON_SAG_N) →
      t.get Fld.LEDGER_STATUS_SUP_STATE = 0 ∧ RegsBut [Reg.LEDGER_STATUS] s t) ∧
    (s.get Fld.LEDGER_STATUS_SUP_STATE = 1 → s.get Fld.LEDGER_MON_RECOVER_THR ≤ v.toNat →
      (s.flag Fld.LEDGER_MON_ZC_EN = false ∨ s.flag Fld.LEDGER_STATUS_ZC_LOCK = true) →
      t.get Fld.LEDGER_STATUS_SUP_STATE = 2 ∧ t.ledger.recoverStart = t.now) ∧
    (s.get Fld.LEDGER_STATUS_SUP_STATE = 1 → v.toNat < s.get Fld.LEDGER_MON_RECOVER_THR → t.get Fld.LEDGER_STATUS_SUP_STATE = 1) ∧
    (s.get Fld.LEDGER_STATUS_SUP_STATE = 2 → v.toNat < s.get Fld.LEDGER_MON_RECOVER_THR → t.get Fld.LEDGER_STATUS_SUP_STATE = 1) ∧
    (s.get Fld.LEDGER_STATUS_SUP_STATE = 2 → s.get Fld.LEDGER_MON_RECOVER_THR ≤ v.toNat → t.get Fld.LEDGER_STATUS_SUP_STATE = 2) ∧
    RegsBut [Reg.LEDGER_STATUS, Reg.LEDGER_EVENTS] s t ∧ SameMemory s t := by
  obtain ⟨hvsup, hnow, hlast, hlow, hframe⟩ := vsupSample_sampled s v.isLt
  refine answers_of_frame (f := vsupSample v.toNat) rfl hl hr hframe
    ⟨hvsup, hnow, hlast, hlow, fun h0 hlow hrun => ?_, fun h0 h => ?_, fun h1 hgood hmains => ?_, fun h1 hbad => ?_, fun h2 hbad => ?_,
      fun h2 hgood => ?_, hframe.regs, hframe.sameMemory⟩
  · rw [vsupSample_entersSag h0 hlow hrun]
    refine ⟨supply_enterSag _, sag_enterSag _, fun hplan => ?_⟩
    have hplan' : (sampleTaken v.toNat s).flag Fld.LEDGER_STATUS_SAG_PLAN = false :=
      (flag_of_get (get_sampleTaken _ s (by unfold Field.apart; decide))).trans hplan
    rw [enterSag_ledger, hplan']
    rfl
  · rw [vsupSample_staysNormal h0 h]
    exact ⟨(supply_sampleTaken _ s).trans h0, sampleTaken_regsBut _ s⟩
  · rw [vsupSample_entersRecovering h1 hgood hmains]
    exact ⟨supply_enterRecovering _, rfl⟩
  · rw [vsupSample_staysSag h1 hbad, supply_sampleTaken, h1]
  · rw [vsupSample_fallsBack h2 hbad, supply_putSupply _ 1 (by decide)]
  · rw [vsupSample_staysRecovering h2 hgood, supply_sampleTaken, h2]

theorem zcEdge_acts {rising : Bool} {c : Nat} {s : State} (hl : Live s) (hr : s.heldInReset 2 = false)
    (hen : s.flag Fld.LEDGER_MON_ZC_EN = true) (hpol : rising ≠ s.flag Fld.LEDGER_MON_ZC_POL) (hc : s.ledger.lastCross = some c)
    (h : c + 192000 ≤ s.now) : Answers (.zcEdge rising) s fun t => t.ledger.lastCross = some s.now ∧ t.ledger.missing = 0 ∧
      t.ledger.intervals = ((s.now - c) :: s.ledger.intervals).take 8 ∧
      (zcAgree (s.get Fld.LEDGER_MON_ZC_SLACK) t.ledger.intervals = true → t.flag Fld.LEDGER_STATUS_ZC_LOCK = true) ∧
      (zcAgree (s.get Fld.LEDGER_MON_ZC_SLACK) t.ledger.intervals = false → t.regs = s.regs) ∧ RegsBut [Reg.LEDGER_STATUS] s t := by
  have e : zcEdge rising s = _ := (zcEdge_crossing hen hpol hc h).trans (zcAccept_eq hc)
  cases hagree : zcAgree (s.get Fld.LEDGER_MON_ZC_SLACK) (crossingTaken c s).ledger.intervals with
  | true =>
    rw [hagree, if_pos rfl] at e
    refine ⟨_, actIn_eq hl hr e rfl, rfl, rfl, rfl, fun _ => flag_raise_same _ _ (by decide) (by decide), fun hno => ?_, fun a ha => ?_⟩
    · exact absurd (hagree.symm.trans hno) (by decide)
    · exact State.reg_set_other _ _ 1 (List.ne_of_not_mem_cons ha)
  | false =>
    rw [hagree, if_neg (by decide)] at e
    refine ⟨_, actIn_eq hl hr e rfl, rfl, rfl, rfl, fun hyes => ?_, fun _ => rfl, fun _ _ => rfl⟩
    exact absurd (hagree.symm.trans hyes) (by decide)

theorem zcMissing_acts {s : State} (hl : Live s) (hr : s.heldInReset 2 = false) (hlock : s.flag Fld.LEDGER_STATUS_ZC_LOCK = true)
    (hen : s.flag Fld.LEDGER_MON_ZC_EN = true) : Answers .zcMissing s fun t =>
      t.now = max s.now (s.ledger.lastHalf + zcPeriod s + 19200 * s.get Fld.LEDGER_MON_ZC_SLACK) ∧
      t.flag Fld.LEDGER_EVENTS_ZC_MISSING = true ∧ t.ledger.missing = s.ledger.missing + 1 ∧ t.ledger.lastHalf = t.now ∧
      (s.get Fld.LEDGER_STATUS_SUP_STATE < 3 → t.get Fld.LEDGER_STATUS_SUP_STATE = 1) ∧
      (s.get Fld.LEDGER_STATUS_SUP_STATE = 0 → t.flag Fld.LEDGER_EVENTS_SAG = true) ∧
      (8 ≤ s.ledger.missing + 1 → t.flag Fld.LEDGER_STATUS_ZC_LOCK = false ∧ t.flag Fld.LEDGER_EVENTS_ZC_LOST = true) ∧
      (s.ledger.missing + 1 < 8 → t.flag Fld.LEDGER_STATUS_ZC_LOCK = true ∧
        t.flag Fld.LEDGER_EVENTS_ZC_LOST = s.flag Fld.LEDGER_EVENTS_ZC_LOST) ∧
      RegsBut [Reg.LEDGER_STATUS, Reg.LEDGER_EVENTS] s t ∧ SameMemory s t := by
  obtain ⟨hnow, hevent, hmissing, hlast, hsupply, hsag, hframe⟩ := zcMissing_counted hlock hen
  refine answers_of_frame (f := zcMissing) rfl hl hr hframe
    ⟨hnow, hevent, hmissing, hlast, hsupply, hsag, fun h8 => ?_, fun h8 => ?_, hframe.regs, hframe.sameMemory⟩
  · rw [zcMissing_locked hlock hen, if_pos h8]
    exact ⟨lock_lockLost _, flag_raise_same _ _ (by decide) (by decide)⟩
  · rw [zcMissing_locked hlock hen, if_neg (by omega)]
    exact ⟨(flag_of_get (get_fallToSag_halfMissed s (by unfold BesideSag Field.apart; decide) (by unfold Field.apart; decide))).trans hlock,
      flag_of_get (get_fallToSag_halfMissed s (by unfold BesideSag Field.apart; decide) (by unfold Field.apart; decide))⟩

theorem recovered_acts {s : State} (hl : Live s) (hr : s.heldInReset 2 = false) (h2 : s.get Fld.LEDGER_STATUS_SUP_STATE = 2) :
    Answers .recovered s fun t => t.get Fld.LEDGER_STATUS_SUP_STATE = 0 ∧ t.flag Fld.LEDGER_EVENTS_RECOVERED = true ∧
      t.now = max s.now (s.ledger.recoverStart + 1920000 * s.get Fld.LEDGER_MON_RECOVER) ∧
      RegsBut [Reg.LEDGER_STATUS, Reg.LEDGER_EVENTS] s t ∧ SameMemory s t := by
  have hframe : MonitorFrame s (recovered s) := by
    rw [recovered_recovering h2]
    exact ((MonitorFrame.elapseTo s _).putSupply 0).raise (by decide)
  refine answers_of_frame (f := recovered) rfl hl hr hframe ⟨?_, ?_, ?_, hframe.regs, hframe.sameMemory⟩ <;> rw [recovered_recovering h2]
  · exact (get_raise_apart _ (by unfold Field.apart; decide)).trans (supply_putSupply _ 0 (by decide))
  · exact flag_raise_same _ _ (by decide) (by decide)
  · exact State.elapseTo_now s _

/-- Settles O36. Each command by the branches of its effect: a sample by the supply state it finds, an edge by whether it is a crossing, a missing
half-cycle by whether it is the eighth in a row. -/
theorem supplyAndMainsMonitors : Obligations.SupplyAndMainsMonitors := by
  unfold Obligations.SupplyAndMainsMonitors
  refine ⟨fun v rising s hl hr => ⟨?_, ?_, ?_, ?_⟩, fun v s hl hr => vsupSample_acts v hl hr,
    fun rising s hl hr => ⟨fun h => ?_, fun c hc h => ?_, fun c hen hpol hc h => zcEdge_acts hl hr hen hpol hc h⟩,
    fun s hl hr => ⟨fun h => ?_, zcMissing_acts hl hr⟩, fun s hl hr => ⟨fun h => ?_, recovered_acts hl hr⟩⟩
  · exact ignored_in_reset (f := vsupSample v.toNat) rfl hl hr
  · exact ignored_in_reset (f := zcEdge rising) rfl hl hr
  · exact ignored_in_reset (f := zcMissing) rfl hl hr
  · exact ignored_in_reset (f := recovered) rfl hl hr
  · exact ignored_of_eq (f := zcEdge rising) rfl hl hr (zcEdge_unselected h)
  · exact ignored_of_eq (f := zcEdge rising) rfl hl hr (zcEdge_early hc h)
  · exact ignored_of_eq (f := zcMissing) rfl hl hr (zcMissing_unused h)
  · exact ignored_of_eq (f := recovered) rfl hl hr (recovered_idle h)

end Sys2Proof.SupplyMonitors
end

section
/-! PROOFS. The maintenance sets of the ring ports: what an LSW, a TIME and an EPOCH set that leaves at its word boundary puts on the line and into
the record of its port, and their order (R334, R335, R344, R360, R362). -/
namespace Sys2Proof.MaintenanceSets
open Sys2Proof.Machine Sys2Proof.GroupDrivers

/-! ### Words built from fields -/

theorem bitsOf_packWord_same (lo n v : Nat) (r : List (Nat × Nat × Nat)) (h : lo + n ≤ 48) :
    bitsOf (packWord ((lo, n, v) :: r)) lo n = v % 2 ^ n := bitsOf_withBits_same _ lo n v h

theorem bitsOf_packWord_other (lo n v : Nat) (r : List (Nat × Nat × Nat)) {lo' n' : Nat} (h : lo' + n' ≤ lo ∨ lo + n ≤ lo') :
    bitsOf (packWord ((lo, n, v) :: r)) lo' n' = bitsOf (packWord r) lo' n' := bitsOf_withBits_other _ lo n v lo' n' h

theorem b2n_mod_two (b : Bool) : b2n b % 2 ^ 1 = b2n b := by cases b <;> rfl

theorem b2n_decide_eq_one (p : Prop) [Decidable p] : b2n (decide p) = 1 ↔ p := by by_cases h : p <;> simp [b2n, h]

/-- The last byte of a word is not among those that its check byte covers (R344). -/
theorem checkByte_withBits (w : Word) (v : Nat) : checkByte (withBits w 0 8 v) = checkByte w := by
  have hbytes : (wordBytes (withBits w 0 8 v)).take 5 = (wordBytes w).take 5 := by
    unfold wordBytes
    rw [← List.map_take, ← List.map_take]
    refine List.map_congr_left fun k hk => ?_
    have hlt : k < 5 := by simpa using hk
    rw [bitsOf_withBits_other w 0 8 v (40 - 8 * k) 8 (by omega)]
  rw [checkByte, hbytes, checkByte]

theorem bitsOf_check (w : Word) : bitsOf (withBits w 0 8 (checkByte w)) 0 8 = checkByte (withBits w 0 8 (checkByte w)) := by
  rw [bitsOf_withBits_same w 0 8 _ (by decide), checkByte_withBits]
  exact Nat.mod_eq_of_lt (crc8 _).isLt

/-! ### The records of the ports -/

theorem otherNo_ne (x : Nat) : otherNo x ≠ x := by unfold otherNo; omega

@[simp] theorem port_modPort (x : Port) (s : State) (f : PortState → PortState) :
    (s.modPort (portNo x) f).port (portNo x) = f (s.port (portNo x)) := by
  cases x <;> simp [State.port, State.modPort, Vector.getD, portNo]

theorem port_modPort_other {x y : Nat} (h : y ≠ x) (s : State) (f : PortState → PortState) : (s.modPort x f).port y = s.port y := by
  simp [State.port, State.modPort, Vector.getD, h.symm]

theorem modPort_modPort (s : State) (x : Port) (f g : PortState → PortState) :
    (s.modPort (portNo x) f).modPort (portNo x) g = s.modPort (portNo x) (g ∘ f) := by
  have h := port_modPort x s f
  unfold State.modPort at h ⊢
  simp [h]

@[simp] theorem port_elapse (s : State) (n x : Nat) : (s.elapse n).port x = s.port x := by simp [State.port]
@[simp] theorem port_elapseTo (s : State) (n x : Nat) : (s.elapseTo n).port x = s.port x := by simp [State.port]
@[simp] theorem port_keepQueue (s u : State) (x : Nat) : (s.keepQueue u).port x = s.port x := rfl
@[simp] theorem modPort_now (s : State) (x : Nat) (f : PortState → PortState) : (s.modPort x f).now = s.now := rfl

/-- The record of a port whose transmitter puts code groups on the line. -/
def linePut (gs : List LineGroup) (q : PortState) : PortState :=
  { q with codes := (encodeGroups q.disparity gs).1, disparity := (encodeGroups q.disparity gs).2 }

@[simp] theorem ballTime_modPort (s : State) (x : Nat) (f : PortState → PortState) (sub : Nat) : ballTime (s.modPort x f) sub = ballTime s sub := by
  have hseconds : (s.modPort x f).seconds = s.seconds := rfl
  have htick : (s.modPort x f).tick = s.tick := rfl
  rw [ballTime, State.hiveNow, hseconds, htick, ballTime, State.hiveNow]

@[simp] theorem ballTime_putOnLine (s : State) (x : Nat) (gs : List LineGroup) (sub : Nat) : ballTime (putOnLine x gs s) sub = ballTime s sub := by
  rw [putOnLine, ballTime_modPort]

@[simp] theorem port_putOnLine (x : Port) (gs : List LineGroup) (s : State) :
    (putOnLine (portNo x) gs s).port (portNo x) = linePut gs (s.port (portNo x)) := port_modPort x s _

@[simp] theorem putOnLine_now (x : Nat) (gs : List LineGroup) (s : State) : (putOnLine x gs s).now = s.now := rfl

/-- No register and not the other port: of what a statement about a port can name, time and the port's own record alone may have changed. -/
structure OnlyPort (x : Port) (s t : State) : Prop where
  regs : t.regs = s.regs
  other : t.port (otherNo (portNo x)) = s.port (otherNo (portNo x))

theorem OnlyPort.refl (x : Port) (s : State) : OnlyPort x s s := ⟨rfl, rfl⟩

theorem OnlyPort.trans {x : Port} {s t u : State} (h : OnlyPort x s t) (k : OnlyPort x t u) : OnlyPort x s u :=
  ⟨k.regs.trans h.regs, k.other.trans h.other⟩

theorem OnlyPort.modPort {x : Port} {s t : State} (h : OnlyPort x s t) (f : PortState → PortState) : OnlyPort x s (t.modPort (portNo x) f) :=
  ⟨h.regs, (port_modPort_other (otherNo_ne _) t f).trans h.other⟩

theorem OnlyPort.putOnLine {x : Port} {s t : State} (h : OnlyPort x s t) (gs : List LineGroup) : OnlyPort x s (putOnLine (portNo x) gs t) := by
  unfold Machine.putOnLine
  exact h.modPort _

theorem OnlyPort.elapse (x : Port) (s : State) (n : Nat) : OnlyPort x s (s.elapse n) := ⟨s.elapse_regs n, port_elapse s n _⟩
theorem OnlyPort.elapseTo (x : Port) (s : State) (n : Nat) : OnlyPort x s (s.elapseTo n) := ⟨s.elapseTo_regs n, port_elapseTo s n _⟩

theorem OnlyPort.get {x : Port} {s t : State} (h : OnlyPort x s t) (f : Field) : t.get f = s.get f := by
  rw [State.get, State.reg, h.regs, State.get, State.reg]

theorem OnlyPort.portLives {x : Port} {s t : State} (h : OnlyPort x s t) (y : Nat) : portLives t y = portLives s y := by
  have hstate : t.portState y = s.portState y := h.get _
  have hready : t.mcReady = s.mcReady := congrArg (· == 1) (h.get Fld.UPDATE_STATUS_MC_READY)
  rw [Machine.portLives, hstate, hready, Machine.portLives]

/-! ### A set leaves (R334, R335) -/

/-- A set that leaves at local tck `now` takes 16 tck on the line; a packet around it lasts as much longer. -/
def takeLine (now : Nat) (q : PortState) : PortState := { q with
  setEnd := now + 16
  sendEnd := if now < q.sendEnd then q.sendEnd + 16 else q.sendEnd
  wordAt := if now < q.sendEnd then q.wordAt + 16 else q.wordAt }

/-- The state in which a set that fell due at local tck `due` leaves: its word boundary, with the line taken. -/
def leaving (x : Port) (due : Nat) (s : State) : State :=
  (s.elapseTo (wordBoundary s (portNo x) due)).modPort (portNo x) (takeLine (s.elapseTo (wordBoundary s (portNo x) due)).now)

theorem sendSet_eq (x : Port) (due : Nat) (f : State → State) (s : State) : sendSet (portNo x) due f s = f (leaving x due s) := by
  unfold sendSet leaving takeLine
  simp only [decide_eq_true_eq]

theorem leaving_now (x : Port) (due : Nat) (s : State) : (leaving x due s).now = max s.now (wordBoundary s (portNo x) due) :=
  State.elapseTo_now s _

theorem onlyPort_leaving (x : Port) (due : Nat) (s : State) : OnlyPort x s (leaving x due s) := (OnlyPort.elapseTo x s _).modPort _

theorem port_leaving (x : Port) (due : Nat) (s : State) :
    (leaving x due s).port (portNo x) = takeLine (leaving x due s).now (s.port (portNo x)) := by
  rw [leaving, port_modPort, port_elapseTo, modPort_now]

/-- A set of the code groups `gs` has left port `x` at the word boundary that follows `due`. -/
structure SetSent (x : Port) (due : Nat) (gs : List LineGroup) (s t : State) : Prop where
  now : t.now = max s.now (wordBoundary s (portNo x) due)
  setEnd : (t.port (portNo x)).setEnd = t.now + 16
  codes : (t.port (portNo x)).codes = (encodeGroups (s.port (portNo x)).disparity gs).1
  disparity : (t.port (portNo x)).disparity = (encodeGroups (s.port (portNo x)).disparity gs).2
  frame : OnlyPort x s t

/-- A change of the port's record that leaves what a set does to the line: its end and the running disparity. -/
def LineKept (f : PortState → PortState) : Prop := ∀ q, (f q).setEnd = q.setEnd ∧ (f q).disparity = q.disparity

/-- A set of the code groups `gs` that fell due at `due` leaves port `x`, whose record `f` changes. -/
def putSet (x : Port) (due : Nat) (gs : List LineGroup) (f : PortState → PortState) (s : State) : State :=
  putOnLine (portNo x) gs ((leaving x due s).modPort (portNo x) f)

theorem putSet_now (x : Port) (due : Nat) (gs : List LineGroup) (f : PortState → PortState) (s : State) :
    (putSet x due gs f s).now = (leaving x due s).now := by rw [putSet, putOnLine_now, modPort_now]

theorem port_putSet (x : Port) (due : Nat) (gs : List LineGroup) (f : PortState → PortState) (s : State) :
    (putSet x due gs f s).port (portNo x) = linePut gs (f (takeLine (leaving x due s).now (s.port (portNo x)))) := by
  rw [putSet, port_putOnLine, port_modPort, port_leaving]

theorem setSent_putSet (x : Port) (due : Nat) (gs : List LineGroup) (s : State) {f : PortState → PortState} (hf : LineKept f) :
    SetSent x due gs s (putSet x due gs f s) := by
  obtain ⟨hend, hdisp⟩ := hf (takeLine (leaving x due s).now (s.port (portNo x)))
  exact {
    now := by rw [putSet_now, leaving_now]
    setEnd := by rw [port_putSet, putSet_now, linePut, hend, takeLine]
    codes := by rw [port_putSet, linePut, hdisp, takeLine]
    disparity := by rw [port_putSet, linePut, hdisp, takeLine]
    frame := ((onlyPort_leaving x due s).modPort f).putOnLine gs }

/-! ### LSW (R344) -/

/-- An LSW that fell due at `due` has left. -/
structure LswSent (x : Port) (due : Nat) (s t : State) : Prop where
  set : SetSent x due (lswSet (t.port (portNo x)).lswWord) s t
  word : (t.port (portNo x)).lswWord = lswWord (leaving x due s) (portNo x)
  lswDue : (t.port (portNo x)).lswDue = some due
  timeDue : (t.port (portNo x)).timeDue = (s.port (portNo x)).timeDue

/-- What the port's record takes from an LSW that leaves. -/
def recordLsw (due : Nat) (w : Word) (q : PortState) : PortState := { q with lswDue := some due, lswWord := w }

theorem lswSend_eq {x : Port} {s : State} (h : portLives s (portNo x) = true) {due : Nat}
    (hd : due = dueAt (s.port (portNo x)).lswDue 1920 s.now) : lswSend (portNo x) s =
      putSet x due (lswSet (lswWord (leaving x due s) (portNo x))) (recordLsw due (lswWord (leaving x due s) (portNo x))) s := by
  subst hd
  unfold lswSend
  rw [if_pos h, sendSet_eq]
  rfl

theorem lswSend_sent {x : Port} {s : State} (h : portLives s (portNo x) = true) {due : Nat}
    (hd : due = dueAt (s.port (portNo x)).lswDue 1920 s.now) : LswSent x due s (lswSend (portNo x) s) := by
  rw [lswSend_eq h hd]
  have hset := setSent_putSet x due (lswSet (lswWord (leaving x due s) (portNo x))) s (f := recordLsw due (lswWord (leaving x due s) (portNo x)))
    fun _ => ⟨rfl, rfl⟩
  constructor <;> rw [port_putSet]
  case set => exact hset
  all_goals rfl

theorem lswWord_type (s : State) (x : Nat) : bitsOf (lswWord s x) 44 4 = 1 :=
  (bitsOf_withBits_other _ 0 8 _ 44 4 (by decide)).trans (bitsOf_packWord_same 44 4 1 _ (by decide))

theorem lswWord_letter (s : State) (x : Port) : bitsOf (lswWord s (portNo x)) 43 1 = portNo x := by
  simp (disch := decide) only [lswWord, bitsOf_withBits_other, bitsOf_packWord_other, bitsOf_packWord_same]
  cases x <;> rfl

theorem lswWord_rxUp (s : State) (x : Nat) : bitsOf (lswWord s x) 42 1 = 1 ↔ s.link x = linkUp := by
  simp (disch := decide) only [lswWord, bitsOf_withBits_other, bitsOf_packWord_other, bitsOf_packWord_same, b2n_mod_two, b2n_decide_eq_one]

theorem lswWord_addr (s : State) (x : Nat) : bitsOf (lswWord s x) 25 7 = s.get Fld.HIVE_ROLE_ADDR := by
  simp (disch := decide) only [lswWord, bitsOf_withBits_other, bitsOf_packWord_other, bitsOf_packWord_same]
  exact Nat.mod_eq_of_lt (s.get_lt Fld.HIVE_ROLE_ADDR)

theorem lswWord_check (s : State) (x : Nat) : bitsOf (lswWord s x) 0 8 = checkByte (lswWord s x) := bitsOf_check _

theorem lswFirst_due {x t : Nat} {s : State} (h : dueBy (s.port x).lswDue 1920 t = true) : lswFirst x t s = lswSend x s := if_pos h

theorem lswFirst_idle {x t : Nat} {s : State} (h : dueBy (s.port x).lswDue 1920 t = false) : lswFirst x t s = s :=
  if_neg (by rw [h]; decide)

theorem lswFirst_frame {x : Port} {s : State} (h : portLives s (portNo x) = true) (t : Nat) : OnlyPort x s (lswFirst (portNo x) t s) := by
  unfold lswFirst
  split
  · exact (lswSend_sent h rfl).set.frame
  · exact OnlyPort.refl x s

/-! ### TIME (R360) -/

/-- The word of a TIME set from its fields: SEQ, ECHO, DEPARTURE and TURN. -/
def timeWordOf (seq echo dep turn : Nat) : Word := packWord [(46, 2, seq), (44, 2, echo), (22, 22, dep), (0, 22, turn)]

theorem timeWordOf_seq (seq echo dep turn : Nat) : bitsOf (timeWordOf seq echo dep turn) 46 2 = seq % 4 :=
  bitsOf_packWord_same 46 2 seq _ (by decide)

theorem timeWordOf_turn (seq echo dep turn : Nat) : bitsOf (timeWordOf seq echo dep turn) 0 22 = turn % 4194304 :=
  calc bitsOf (timeWordOf seq echo dep turn) 0 22
    _ = bitsOf (packWord [(44, 2, echo), (22, 22, dep), (0, 22, turn)]) 0 22 := bitsOf_packWord_other 46 2 seq _ (by decide)
    _ = bitsOf (packWord [(22, 22, dep), (0, 22, turn)]) 0 22 := bitsOf_packWord_other 44 2 echo _ (by decide)
    _ = bitsOf (packWord [(0, 22, turn)]) 0 22 := bitsOf_packWord_other 22 22 dep _ (by decide)
    _ = turn % 2 ^ 22 := bitsOf_packWord_same 0 22 turn _ (by decide)

/-- What the port's record takes from a TIME set that leaves: when it fell due, the next SEQ, the departure and the word. -/
def recordTime (due dep : Nat) (w : Word) (q : PortState) : PortState := { q with
  timeDue := some due, nextSeq := (q.nextSeq + 1) % 4, departures := ((q.nextSeq, dep % 4194304) :: q.departures).take 4, timeWord := w }

/-- What leaves as a TIME set: TURN is all ones where no TIME set has been heard (R360). -/
theorem putTime_eq (x : Port) (sub : Nat) (s : State) : ∃ echo dep turn, ((s.port (portNo x)).heard = none → turn = 0x3FFFFF) ∧
    putTime (portNo x) sub s = putOnLine (portNo x) (timeSet (timeWordOf (s.port (portNo x)).nextSeq echo dep turn)) (s.modPort (portNo x) fun q =>
      { q with
        nextSeq := (q.nextSeq + 1) % 4
        departures := ((q.nextSeq, ballTime s sub % 4194304) :: q.departures).take 4
        timeWord := timeWordOf (s.port (portNo x)).nextSeq echo dep turn }) := by
  unfold putTime timeWordOf
  refine ⟨_, _, _, fun h => ?_, rfl⟩
  rw [h]

theorem sendTime_eq (x : Port) (sub due : Nat) (s : State) : ∃ echo dep turn w,
    w = timeWordOf (s.port (portNo x)).nextSeq echo dep turn ∧ ((s.port (portNo x)).heard = none → turn = 0x3FFFFF) ∧
    sendTime (portNo x) sub due s = putSet x due (timeSet w) (recordTime due (ballTime (leaving x due s) sub) w) s := by
  obtain ⟨echo, dep, turn, hturn, heq⟩ := putTime_eq x sub ((leaving x due s).modPort (portNo x) fun q => { q with timeDue := some due })
  rw [port_modPort, port_leaving] at hturn heq
  rw [ballTime_modPort, modPort_modPort] at heq
  exact ⟨echo, dep, turn, _, rfl, hturn, (sendSet_eq x due _ s).trans heq⟩

/-- A TIME set that fell due at `due` has left. -/
structure TimeSent (x : Port) (sub due : Nat) (s t : State) : Prop where
  set : SetSent x due (timeSet (t.port (portNo x)).timeWord) s t
  timeDue : (t.port (portNo x)).timeDue = some due
  seq : bitsOf (t.port (portNo x)).timeWord 46 2 = (s.port (portNo x)).nextSeq % 4
  nextSeq : (t.port (portNo x)).nextSeq = ((s.port (portNo x)).nextSeq + 1) % 4
  turn : (s.port (portNo x)).heard = none → bitsOf (t.port (portNo x)).timeWord 0 22 = 0x3FFFFF
  departure : (t.port (portNo x)).departures.head? = some ((s.port (portNo x)).nextSeq, ballTime t sub % 4194304)
  lswDue : (t.port (portNo x)).lswDue = (s.port (portNo x)).lswDue
  lswWord : (t.port (portNo x)).lswWord = (s.port (portNo x)).lswWord

theorem sendTime_sent (x : Port) (sub due : Nat) (s : State) : TimeSent x sub due s (sendTime (portNo x) sub due s) := by
  obtain ⟨echo, dep, turn, w, hw, hturn, heq⟩ := sendTime_eq x sub due s
  rw [heq]
  have hset := setSent_putSet x due (timeSet w) s (f := recordTime due (ballTime (leaving x due s) sub) w) fun _ => ⟨rfl, rfl⟩
  constructor <;> rw [port_putSet]
  case set => exact hset
  case seq => exact hw ▸ timeWordOf_seq _ _ _ _
  case departure => rw [putSet, ballTime_putOnLine, ballTime_modPort]; rfl
  case turn => exact fun h => (hw ▸ timeWordOf_turn _ _ _ _ : bitsOf w 0 22 = _).trans (by rw [hturn h])
  all_goals rfl

theorem timeSend_eq {x : Nat} {s : State} (h : portLives s x = true) (sub : Nat) : timeSend x sub s =
    sendTime x sub (dueAt (s.port x).timeDue 8192 s.now) (lswFirst x (wordBoundary s x (dueAt (s.port x).timeDue 8192 s.now)) s) := if_pos h

/-! ### EPOCH (R362) -/

/-- A TIME set that falls due by local tck `t` goes before an EPOCH set (R335). -/
def timeFirst (x sub t : Nat) (s : State) : State :=
  if dueBy (s.port x).timeDue 8192 t then sendTime x sub (dueAt (s.port x).timeDue 8192 s.now) s else s

theorem timeFirst_due {x sub t : Nat} {s : State} (h : dueBy (s.port x).timeDue 8192 t = true) :
    timeFirst x sub t s = sendTime x sub (dueAt (s.port x).timeDue 8192 s.now) s := if_pos h

theorem timeFirst_idle {x sub t : Nat} {s : State} (h : dueBy (s.port x).timeDue 8192 t = false) : timeFirst x sub t s = s :=
  if_neg (by rw [h]; decide)

theorem timeFirst_frame (x : Port) (sub t : Nat) (s : State) : OnlyPort x s (timeFirst (portNo x) sub t s) := by
  unfold timeFirst
  split
  · exact (sendTime_sent x sub _ s).set.frame
  · exact OnlyPort.refl x s

/-- The next 10 ms of hive time that has not had its EPOCH set. -/
def epochTime (x : Port) (s : State) : State := s.elapse (s.toNextGrid 1920000 (s.port (portNo x)).epochDue)

/-- The LSW and the TIME set that are due by the boundary of the EPOCH set of `u` have left. -/
def setsFirst (x : Port) (sub : Nat) (u : State) : State :=
  timeFirst (portNo x) sub (wordBoundary u (portNo x) u.now) (lswFirst (portNo x) (wordBoundary u (portNo x) u.now) u)

/-- What the port's record takes from an EPOCH set that leaves. -/
def recordEpoch (due : Nat) (w : Word) (q : PortState) : PortState := { q with epochDue := some due, epochWord := w }

theorem epochSend_eq {x : Port} {s u : State} (h : portLives s (portNo x) = true) (ht : s.timeState = timeSource ∨ s.timeState = timeAligned)
    (hu : u = epochTime x s) (sub : Nat) :
    epochSend (portNo x) sub s = putSet x u.now (epochSet (epochWord u)) (recordEpoch u.now (epochWord u)) (setsFirst x sub u) := by
  subst hu
  exact (if_pos (by rw [h, decide_eq_true ht, Bool.and_self])).trans (sendSet_eq x _ _ _)

/-- An EPOCH set of the word `w` that fell due at `due` has left. -/
structure EpochSent (x : Port) (w : Word) (due : Nat) (s t : State) : Prop where
  set : SetSent x due (epochSet w) s t
  epochDue : (t.port (portNo x)).epochDue = some due
  epochWord : (t.port (portNo x)).epochWord = w
  lswWord : (t.port (portNo x)).lswWord = (s.port (portNo x)).lswWord
  timeWord : (t.port (portNo x)).timeWord = (s.port (portNo x)).timeWord

theorem epochSent_putSet (x : Port) (w : Word) (due : Nat) (s : State) : EpochSent x w due s (putSet x due (epochSet w) (recordEpoch due w) s) := by
  have hset := setSent_putSet x due (epochSet w) s (f := recordEpoch due w) fun _ => ⟨rfl, rfl⟩
  constructor
  case set => exact hset
  all_goals rw [port_putSet]; rfl

theorem setsFirst_frame {x : Port} {u : State} (h : portLives u (portNo x) = true) (sub : Nat) : OnlyPort x u (setsFirst x sub u) :=
  (lswFirst_frame h _).trans (timeFirst_frame x sub _ _)

theorem setsFirst_none {x : Port} {u : State} (sub : Nat) (hl : dueBy (u.port (portNo x)).lswDue 1920 (wordBoundary u (portNo x) u.now) = false)
    (ht : dueBy (u.port (portNo x)).timeDue 8192 (wordBoundary u (portNo x) u.now) = false) : setsFirst x sub u = u := by
  unfold setsFirst
  rw [lswFirst_idle hl, timeFirst_idle ht]

/-- With both due the TIME set leaves after the LSW. -/
theorem setsFirst_both {x : Port} {u : State} (h : portLives u (portNo x) = true) (sub : Nat)
    (hl : dueBy (u.port (portNo x)).lswDue 1920 (wordBoundary u (portNo x) u.now) = true)
    (ht : dueBy (u.port (portNo x)).timeDue 8192 (wordBoundary u (portNo x) u.now) = true) : ∃ v lswDue timeDue,
      LswSent x lswDue u v ∧ TimeSent x sub timeDue v (setsFirst x sub u) := by
  have hlsw := lswSend_sent h rfl
  have htime : dueBy ((lswSend (portNo x) u).port (portNo x)).timeDue 8192 (wordBoundary u (portNo x) u.now) = true := by rwa [hlsw.timeDue]
  unfold setsFirst
  rw [lswFirst_due hl, timeFirst_due htime]
  exact ⟨_, _, _, hlsw, sendTime_sent x sub _ _⟩

theorem epochWord_seconds {s : State} (h : s.seconds < 2 ^ 32) : bitsOf (epochWord s) 16 32 = s.seconds := by
  simp (disch := decide) only [epochWord, bitsOf_withBits_other, bitsOf_packWord_same]
  exact Nat.mod_eq_of_lt h

theorem epochWord_slot {s : State} (h : s.tick < ticksPerSecond) : bitsOf (epochWord s) 9 7 = s.tick / 1920000 := by
  simp (disch := decide) only [epochWord, bitsOf_withBits_other, bitsOf_packWord_other, bitsOf_packWord_same]
  have hslot : s.tick / 1920000 < 100 := Nat.div_lt_of_lt_mul h
  omega

theorem epochWord_aligned {s : State} (h : s.timeState = timeSource ∨ s.timeState = timeAligned) : bitsOf (epochWord s) 8 1 = 1 := by
  simp (disch := decide) only [epochWord, bitsOf_withBits_other, bitsOf_packWord_other, bitsOf_packWord_same, b2n_mod_two, b2n_decide_eq_one]
  exact h

theorem epochWord_check (s : State) : bitsOf (epochWord s) 0 8 = checkByte (epochWord s) := bitsOf_check _

/-- The next grid point of 10 ms is one in hive time too: a second holds a whole number of them. -/
theorem epochTime_tick (x : Port) (s : State) : (epochTime x s).tick % 1920000 = 0 := by
  have hgrid : (s.tick + s.toNextGrid 1920000 (s.port (portNo x)).epochDue) % 1920000 = 0 := by
    unfold State.toNextGrid
    split
    · split <;> omega
    · omega
  unfold epochTime
  rcases elapse_tick s (s.toNextGrid 1920000 (s.port (portNo x)).epochDue) with e | e
  · rw [e, ticksPerSecond, Nat.mod_mod_of_dvd _ (by decide), hgrid]
  · rw [e, hgrid]

theorem le_wordBoundary (s : State) (x t : Nat) : t ≤ wordBoundary s x t := by
  unfold wordBoundary ceilDiv
  dsimp only
  split
  · exact Nat.le_max_left _ _
  · split <;> omega

/-! ### The commands on a live device -/

theorem lswSend_acts {x : Port} {s : State} (hl : Live s) (h : portLives s (portNo x) = true) {due : Nat}
    (hd : due = dueAt (s.port (portNo x)).lswDue 1920 s.now) : Answers (.lswSend x) s fun t =>
      t.now = max s.now (wordBoundary s (portNo x) due) ∧ (t.port (portNo x)).lswDue = some due ∧ (t.port (portNo x)).setEnd = t.now + 16 ∧
      (t.port (portNo x)).codes = (encodeGroups (s.port (portNo x)).disparity (lswSet (t.port (portNo x)).lswWord)).1 ∧
      bitsOf (t.port (portNo x)).lswWord 44 4 = 1 ∧ bitsOf (t.port (portNo x)).lswWord 43 1 = portNo x ∧
      (bitsOf (t.port (portNo x)).lswWord 42 1 = 1 ↔ s.link (portNo x) = linkUp) ∧ bitsOf (t.port (portNo x)).lswWord 25 7 = s.get Fld.HIVE_ROLE_ADDR ∧
      bitsOf (t.port (portNo x)).lswWord 0 8 = (crc8 ((wordBytes (t.port (portNo x)).lswWord).take 5)).toNat ∧
      t.port (otherNo (portNo x)) = s.port (otherNo (portNo x)) ∧ t.regs = s.regs := by
  obtain ⟨hset, hword, hdue, -⟩ := lswSend_sent h hd
  have hframe := onlyPort_leaving x due s
  refine answers_of_act (f := lswSend (portNo x)) rfl hl ⟨hset.now, hdue, hset.setEnd, hset.codes, ?_⟩
  refine ⟨?_, ?_, ?_, ?_, ?_, hset.frame.other, hset.frame.regs⟩ <;> simp only [port_keepQueue, hword]
  · exact lswWord_type _ _
  · exact lswWord_letter _ _
  · exact (lswWord_rxUp _ _).trans (by rw [State.link, hframe.get, State.link])
  · exact (lswWord_addr _ _).trans (hframe.get _)
  · exact lswWord_check _ _

theorem timeSend_alone {x : Port} {s : State} (hl : Live s) (h : portLives s (portNo x) = true) (sub : BitVec 8) {due : Nat}
    (hd : due = dueAt (s.port (portNo x)).timeDue 8192 s.now)
    (hlsw : dueBy (s.port (portNo x)).lswDue 1920 (wordBoundary s (portNo x) due) = false) : Answers (.timeSend x sub) s fun t =>
      t.now = max s.now (wordBoundary s (portNo x) due) ∧ (t.port (portNo x)).timeDue = some due ∧
      (t.port (portNo x)).codes = (encodeGroups (s.port (portNo x)).disparity (timeSet (t.port (portNo x)).timeWord)).1 ∧
      bitsOf (t.port (portNo x)).timeWord 46 2 = (s.port (portNo x)).nextSeq % 4 ∧
      (t.port (portNo x)).nextSeq = ((s.port (portNo x)).nextSeq + 1) % 4 ∧
      ((s.port (portNo x)).heard = none → bitsOf (t.port (portNo x)).timeWord 0 22 = 0x3FFFFF) ∧
      (t.port (portNo x)).departures.head? = some ((s.port (portNo x)).nextSeq, (t.hiveNow * 256 + sub.toNat) % 4194304) ∧
      t.port (otherNo (portNo x)) = s.port (otherNo (portNo x)) ∧ t.regs = s.regs := by
  have hsent := sendTime_sent x sub.toNat due s
  have heq : timeSend (portNo x) sub.toNat s = sendTime (portNo x) sub.toNat due s := by rw [timeSend_eq h, ← hd, lswFirst_idle hlsw]
  rw [← heq] at hsent
  obtain ⟨hset, htime, hseq, hnext, hturn, hdep, -, -⟩ := hsent
  exact answers_of_act (f := timeSend (portNo x) sub.toNat) rfl hl
    ⟨hset.now, htime, hset.codes, hseq, hnext, hturn, hdep, hset.frame.other, hset.frame.regs⟩

theorem timeSend_afterLsw {x : Port} {s : State} (hl : Live s) (h : portLives s (portNo x) = true) (sub : BitVec 8) {due : Nat}
    (hd : due = dueAt (s.port (portNo x)).timeDue 8192 s.now)
    (hlsw : dueBy (s.port (portNo x)).lswDue 1920 (wordBoundary s (portNo x) due) = true) : Answers (.timeSend x sub) s fun t =>
      (t.port (portNo x)).lswDue = some (dueAt (s.port (portNo x)).lswDue 1920 s.now) ∧ (t.port (portNo x)).timeDue = some due ∧
      (t.port (portNo x)).codes = (encodeGroups (encodeGroups (s.port (portNo x)).disparity (lswSet (t.port (portNo x)).lswWord)).2
        (timeSet (t.port (portNo x)).timeWord)).1 ∧ t.port (otherNo (portNo x)) = s.port (otherNo (portNo x)) ∧ t.regs = s.regs := by
  have hfirst := lswSend_sent h rfl
  have hsent := sendTime_sent x sub.toNat due (lswSend (portNo x) s)
  have heq : timeSend (portNo x) sub.toNat s = sendTime (portNo x) sub.toNat due (lswSend (portNo x) s) := by
    rw [timeSend_eq h, ← hd, lswFirst_due hlsw]
  rw [← heq] at hsent
  have hframe := hfirst.set.frame.trans hsent.set.frame
  have hcodes := hsent.set.codes
  rw [hfirst.set.disparity, ← hsent.lswWord] at hcodes
  exact answers_of_act (f := timeSend (portNo x) sub.toNat) rfl hl
    ⟨hsent.lswDue.trans hfirst.lswDue, hsent.timeDue, hcodes, hframe.other, hframe.regs⟩

theorem epochSend_acts {x : Port} {s : State} (hl : Live s) (h : portLives s (portNo x) = true) (sub : BitVec 8)
    (ht : s.timeState = timeSource ∨ s.timeState = timeAligned) (hsec : s.seconds < 4294967296) {u : State}
    (hu : u = epochTime x s) : Answers (.epochSend ⟨x, sub⟩) s fun t =>
      (t.port (portNo x)).epochDue = some u.now ∧ u.tick % 1920000 = 0 ∧ bitsOf (t.port (portNo x)).epochWord 16 32 = u.seconds ∧
      bitsOf (t.port (portNo x)).epochWord 9 7 = u.tick / 1920000 ∧ bitsOf (t.port (portNo x)).epochWord 8 1 = 1 ∧
      bitsOf (t.port (portNo x)).epochWord 0 8 = (crc8 ((wordBytes (t.port (portNo x)).epochWord).take 5)).toNat ∧
      (dueBy (s.port (portNo x)).lswDue 1920 (wordBoundary u (portNo x) u.now) = false →
        dueBy (s.port (portNo x)).timeDue 8192 (wordBoundary u (portNo x) u.now) = false → t.now = wordBoundary u (portNo x) u.now ∧
        (t.port (portNo x)).codes = (encodeGroups (s.port (portNo x)).disparity (epochSet (t.port (portNo x)).epochWord)).1) ∧
      (dueBy (s.port (portNo x)).lswDue 1920 (wordBoundary u (portNo x) u.now) = true →
        dueBy (s.port (portNo x)).timeDue 8192 (wordBoundary u (portNo x) u.now) = true →
        (t.port (portNo x)).codes = (encodeGroups (encodeGroups (encodeGroups (s.port (portNo x)).disparity (lswSet (t.port (portNo x)).lswWord)).2
          (timeSet (t.port (portNo x)).timeWord)).2 (epochSet (t.port (portNo x)).epochWord)).1) ∧
      t.port (otherNo (portNo x)) = s.port (otherNo (portNo x)) ∧ t.regs = s.regs := by
  have hpast : OnlyPort x s u := hu ▸ OnlyPort.elapse x s _
  have hport : u.port (portNo x) = s.port (portNo x) := hu ▸ port_elapse s _ _
  have hlives : portLives u (portNo x) = true := (hpast.portLives _).trans h
  have hstate : u.timeState = timeSource ∨ u.timeState = timeAligned := by rwa [State.timeState, hpast.get]
  have hsent := epochSent_putSet x (epochWord u) u.now (setsFirst x sub.toNat u)
  rw [← epochSend_eq h ht hu] at hsent
  obtain ⟨hset, hdue, hword, hlswWord, htimeWord⟩ := hsent
  have hframe := (hpast.trans (setsFirst_frame hlives sub.toNat)).trans hset.frame
  refine answers_of_act (f := epochSend (portNo x) sub.toNat) rfl hl
    ⟨hdue, hu ▸ epochTime_tick x s, ?_, ?_, ?_, ?_, fun hno hnot => ?_, fun hlsw htime => ?_, hframe.other, hframe.regs⟩ <;>
    simp only [port_keepQueue, hword]
  · exact epochWord_seconds (hu ▸ elapse_seconds_lt s _ hsec)
  · exact epochWord_slot (hu ▸ elapse_tick_lt s _)
  · exact epochWord_aligned hstate
  · exact epochWord_check u
  · rw [← hport] at hno hnot
    rw [setsFirst_none sub.toNat hno hnot] at hset
    exact ⟨hset.now.trans (Nat.max_eq_right (le_wordBoundary u _ _)), hport ▸ hset.codes⟩
  · rw [← hport] at hlsw htime
    obtain ⟨v, _, _, hfirst, hsecond⟩ := setsFirst_both hlives sub.toNat hlsw htime
    rw [hset.codes, hsecond.set.disparity, hfirst.set.disparity, htimeWord, hlswWord, hsecond.lswWord, hport]

/-- Settles O25. Each command by its set's equation: the set leaves in `leaving`, and the sets due before it have left in turn. -/
theorem maintenanceSetsGoOut : Obligations.MaintenanceSetsGoOut := by
  unfold Obligations.MaintenanceSetsGoOut
  exact fun x s hl h => ⟨fun _ hd => lswSend_acts hl h hd,
    fun sub _ hd => ⟨timeSend_alone hl h sub hd, timeSend_afterLsw hl h sub hd⟩,
    fun sub _ ht _ hsec hu => epochSend_acts hl h sub ht hsec hu⟩

end Sys2Proof.MaintenanceSets
end

section
/-! PROOFS. Presence, joining and leaving: what the queen's beacons, the nodes' answers to them, JOIN, ASSIGN and LEAVE do to the census and to the
packets that wait (R373 to R387). -/
namespace Sys2Proof.HivePresence
open Sys2Proof.Machine Sys2Proof.GroupDrivers Sys2Proof.SupplyMonitors Sys2Proof.MaintenanceSets

/-! ### Registers beside a list -/

theorem regsBut_of_regs {s t : State} (as : List Nat) (h : t.regs = s.regs) : RegsBut as s t := fun a _ => by simp [State.reg, h]

theorem regsBut_trans {as : List Nat} {s t u : State} (h : RegsBut as s t) (k : RegsBut as t u) : RegsBut as s u :=
  fun a ha => (k a ha).trans (h a ha)

theorem regsBut_set {as : List Nat} {s t : State} (h : RegsBut as s t) {f : Field} (v : Nat) (hf : f.reg ∈ as) : RegsBut as s (t.set f v) :=
  fun a ha => (State.reg_set_other t f v fun e : a = f.reg => ha (e ▸ hf)).trans (h a ha)

theorem regsBut_raise {as : List Nat} {s t : State} (h : RegsBut as s t) {f : Field} (hf : f.reg ∈ as) : RegsBut as s (t.raise f) :=
  regsBut_set h 1 hf

theorem get_of_regsBut {as : List Nat} {s t : State} (h : RegsBut as s t) {f : Field} (hf : f.reg ∉ as) : t.get f = s.get f := by
  simp [State.get, h f.reg hf]

/-! ### Packets of the node's own (R32, R347, R376) -/

theorem pktDest_mkPacket (dest source plane type seq : Nat) (ws : List Word) : pktDest (mkPacket dest source plane type seq ws) = dest % 2 ^ 7 :=
  bitsOf_packWord_same 41 7 dest _ (by decide)

theorem pktPlane_mkPacket (dest source plane type seq : Nat) (ws : List Word) :
    pktPlane (mkPacket dest source plane type seq ws) = plane % 2 ^ 4 := by
  unfold pktPlane mkPacket
  rw [bitsOf_packWord_other _ _ _ _ (by decide), bitsOf_packWord_other _ _ _ _ (by decide), bitsOf_packWord_same _ _ _ _ (by decide)]

theorem pktType_mkPacket (dest source plane type seq : Nat) (ws : List Word) : pktType (mkPacket dest source plane type seq ws) = type % 2 ^ 6 := by
  unfold pktType mkPacket
  rw [bitsOf_packWord_other _ _ _ _ (by decide), bitsOf_packWord_other _ _ _ _ (by decide), bitsOf_packWord_other _ _ _ _ (by decide),
    bitsOf_packWord_same _ _ _ _ (by decide)]

/-- What the node may send to depends on its address, its role and the wrap state of its ring. -/
theorem maySend_of_regsBut {as : List Nat} {s t : State} {d : Nat} (h : RegsBut as s t)
    (ha : Reg.HIVE_ROLE ∉ as ∧ Reg.HIVE_STATUS ∉ as ∧ Reg.RING_STATUS 0 ∉ as) (hs : MaySend d s) : MaySend d t := by
  obtain ⟨haddr, hqueen, hwrap⟩ := ha
  unfold MaySend State.addr State.wrap State.isQueen State.flag at hs ⊢
  rw [get_of_regsBut h (f := Fld.HIVE_ROLE_ADDR) haddr, get_of_regsBut h (f := Fld.HIVE_STATUS_QUEEN) hqueen,
    get_of_regsBut h (f := Fld.RING_STATUS_NODE_WRAP 0) hwrap]
  exact hs

/-- A node that may send to the queen is not the queen. -/
theorem not_queen_of_maySend_queenOf {s : State} (h : MaySend s.queenOf s) : s.isQueen = false := by
  obtain ⟨-, -, hself⟩ := h
  rw [Bool.eq_false_iff]
  exact fun hq => hself hq (if_pos hq)

/-- To a node without the queen's role, no address is its own. -/
theorem maySend_node {s : State} (d : Nat) (ha : s.addr ≠ 0) (hw : s.wrap ≠ wrapIsolated) (hq : s.isQueen = false) : MaySend d s :=
  ⟨ha, hw, fun h => absurd h (by simp [hq])⟩

theorem ownSend_toQueen {k : Packet} {s : State} (h : MaySend s.queenOf s) : ownSend k s = s.sent k :=
  ownSend_may (maySend_node _ h.1 h.2.1 (not_queen_of_maySend_queenOf h))

theorem ownSend_broadcast {s : State} (h : MaySend broadcast s) (source plane type seq : Nat) (ws : List Word) :
    ownSend (mkPacket broadcast source plane type seq ws) s = s.sent (mkPacket broadcast source plane type seq ws) :=
  ownSend_may (by rw [pktDest_mkPacket]; exact h)

/-- A JOIN leaves a node without an address (R376). -/
theorem ownSend_join {k : Packet} {s : State} (hk : isJoin k = true) (hq : s.isQueen = false) (hw : s.wrap ≠ wrapIsolated) :
    ownSend k s = s.sent k := by
  unfold ownSend
  rw [if_neg (by simp [hk]), if_neg (by simp [hq]), if_neg (by simp [hw])]
  rfl

theorem isJoin_joinPacket (s : State) (kept : Bool) : isJoin (joinPacket s kept) = true := by
  unfold isJoin joinPacket nodePacket
  rw [pktPlane_mkPacket, pktType_mkPacket]
  rfl

/-! ### The census (R379) -/

theorem census_putCensus (s : State) (a w b x : Nat) (v : Word) :
    (s.putCensus a w v).census b x = if 4 * b + x = 4 * a + w then v else s.census b x := Table.get_put _ _ _ _ _

theorem census_modCensus_same (s : State) (a : Nat) (f : Word → Word) : (s.modCensus a f).census a 0 = f (s.census a 0) := by
  simp [State.modCensus, census_putCensus]

/-- Another word of the entry, or the first word of another entry. -/
theorem census_modCensus_other (s : State) {a b x : Nat} (f : Word → Word) (h : 4 * b + x ≠ 4 * a) :
    (s.modCensus a f).census b x = s.census b x := by
  rw [State.modCensus, census_putCensus, if_neg (by omega)]

theorem census_raise (s : State) (f : Field) (b x : Nat) : (s.raise f).census b x = s.census b x := rfl

theorem regsBut_modCensus {as : List Nat} {s t : State} (h : RegsBut as s t) (a : Nat) (f : Word → Word) : RegsBut as s (t.modCensus a f) := h

theorem entState_of_census {s t : State} {a : Nat} (h : t.census a 0 = s.census a 0) : t.entState a = s.entState a := by
  rw [State.entState, h, State.entState]

theorem entState_modCensus_beside (s : State) (a lo n : Nat) (v : Word → Nat) (h : lo + n ≤ 45) :
    (s.modCensus a fun w => withBits w lo n (v w)).entState a = s.entState a := by
  rw [State.entState, census_modCensus_same, bitsOf_withBits_other _ _ _ _ _ _ (.inr h), State.entState]

theorem entState_modCensus_state (s : State) (a v : Nat) (h : v < 8) : (s.modCensus a fun w => withBits w 45 3 v).entState a = v := by
  rw [State.entState, census_modCensus_same, bitsOf_withBits_same _ _ _ _ (by decide)]
  exact Nat.mod_eq_of_lt h

/-! ### BEACON (R380, R381) -/

/-- The end of the beacon period in progress, and the start of the next (R381). -/
def periodEnds (s : State) : State := if s.hive.beaconSent.isSome then endPeriod s else { s with hive := { s.hive with heardFrom := [] } }

theorem periodEnds_only (s : State) : periodEnds s = { s with hive := (periodEnds s).hive } := by unfold periodEnds; split <;> rfl

/-- The BEACON that the queen sends. -/
def beaconOf (s : State) : Packet := mkPacket broadcast s.addr planeControl 8 0
  [packWord [(32, 16, s.get Fld.HIVE_STATUS_EPOCH), (16, 16, s.get Fld.HIVE_ROLE_SIV), (12, 4, s.get Fld.HIVE_MODE_CUR)]]

theorem beaconOf_of_regs {s t : State} (h : t.regs = s.regs) : beaconOf t = beaconOf s := by simp [beaconOf, State.addr, get_of_regs h]

/-- The state in which the queen sends its BEACON. -/
def beaconTime (s : State) : State := periodEnds (s.elapse (beaconDelay s))

theorem beaconTime_regs (s : State) : (beaconTime s).regs = s.regs := by rw [beaconTime, periodEnds_only]; exact s.elapse_regs _
theorem beaconTime_ring (s : State) : (beaconTime s).ring = s.ring := by rw [beaconTime, periodEnds_only]; exact s.elapse_ring _
theorem beaconTime_tick_eq (s : State) : (beaconTime s).tick = (s.elapse (beaconDelay s)).tick := by rw [beaconTime, periodEnds_only]

/-- Whether or not the tick of this grid is taken, the next one is on it. -/
theorem tick_add_toNextGrid (s : State) (last : Option Nat) : (s.tick + s.toNextGrid 1920000 last) % 1920000 = 0 := by
  unfold State.toNextGrid
  split
  · split <;> omega
  · omega

/-- A second is a whole number of 10 ms. -/
theorem elapse_tick_onGrid {s : State} {n : Nat} (h : (s.tick + n) % 1920000 = 0) : (s.elapse n).tick % 1920000 = 0 := by
  rcases elapse_tick s n with e | e
  · rw [e, ticksPerSecond, Nat.mod_mod_of_dvd _ (by decide), h]
  · rw [e, h]

/-- A BEACON leaves on a 10 ms tick, a whole number of them after the next. -/
theorem beaconTime_tick (s : State) : (beaconTime s).tick % 1920000 = 0 := by
  have hnext := tick_add_toNextGrid s s.hive.beaconSent
  rw [beaconTime_tick_eq]
  refine elapse_tick_onGrid ?_
  unfold beaconDelay
  dsimp only
  omega

/-- The BEACON leaves in a state. -/
def sendBeacon (u : State) : State := ownSend (beaconOf u) { u with hive := { u.hive with beaconSent := some u.now } }

theorem beaconSend_eq {s : State} (hq : s.isQueen = true) : beaconSend s = sendBeacon (beaconTime s) := if_pos hq

theorem sendBeacon_eq {u : State} (hs : MaySend broadcast u) :
    sendBeacon u = { u with hive := { u.hive with beaconSent := some u.now } }.sent (beaconOf u) :=
  ownSend_broadcast (s := { u with hive := { u.hive with beaconSent := some u.now } }) hs _ _ _ _ _

theorem beaconSend_acts {s : State} (hl : Live s) (hq : s.isQueen = true) (hs : MaySend broadcast s) : Answers .beaconSend s fun t =>
    t.tick % 1920000 = 0 ∧ t.hive.beaconSent = some t.now ∧ t.regs = s.regs ∧ t.ring.own = s.ring.own ++ [beaconOf s] := by
  have htick := beaconTime_tick s
  have hregs := beaconTime_regs s
  have hring := beaconTime_ring s
  refine answers_of_act (f := beaconSend) rfl hl ?_
  rw [beaconSend_eq hq]
  generalize beaconTime s = u at htick hregs hring ⊢
  rw [sendBeacon_eq (maySend_of_regsBut (regsBut_of_regs [] hregs) (by decide) hs), beaconOf_of_regs hregs]
  exact ⟨htick, rfl, hregs, congrArg (·.own ++ _) hring⟩

/-- What a node keeps of a BEACON of its own EPOCH: its sender, and the hive time of the PRESENT that answers it. -/
def beaconHeard (k : Packet) (t : State) : State := { t with hive := { t.hive with
  beaconFrom := some (pktSource k), presentAt := some (t.hiveNow - t.tick % 1920000 + 64 + t.addr * 2048) } }

theorem nodeHearsBeacon_sameEpoch {k : Packet} {t : State} (ha : t.addr ≠ 0) (he : bitsOf (pktWord k 0) 32 16 = t.get Fld.HIVE_STATUS_EPOCH) :
    nodeHearsBeacon k t = beaconHeard k t := (if_neg ha).trans (if_pos he)

theorem beaconActs_node {k : Packet} {s : State} (hq : s.isQueen = false) (ha : s.addr ≠ 0)
    (he : bitsOf (pktWord k 0) 32 16 = s.get Fld.HIVE_STATUS_EPOCH) :
    beaconActs k s = beaconHeard k (s.set Fld.HIVE_MODE_HIVE_SIV (bitsOf (pktWord k 0) 16 16)) := by
  have hget : ∀ {f : Field}, f.reg ≠ Reg.HIVE_MODE → (s.set Fld.HIVE_MODE_HIVE_SIV (bitsOf (pktWord k 0) 16 16)).get f = s.get f :=
    fun hf => State.get_set_apart s _ (.inl hf.symm)
  have hq' : (s.set Fld.HIVE_MODE_HIVE_SIV (bitsOf (pktWord k 0) 16 16)).isQueen = false := (flag_of_get (hget (by decide))).trans hq
  unfold beaconActs
  simp only [hq, hq', Bool.false_and, Bool.false_eq_true, if_false]
  exact nodeHearsBeacon_sameEpoch (fun e => ha ((hget (by decide)).symm.trans e)) (he.trans (hget (by decide)).symm)

theorem beaconReceive_acts {k : Packet} {r : List Packet} {s : State} (hl : Live s) (hk : Arrived planeControl 8 k r s) (hq : s.isQueen = false)
    (ha : s.addr ≠ 0) (he : bitsOf (pktWord k 0) 32 16 = s.get Fld.HIVE_STATUS_EPOCH) : Answers .beaconReceive s fun t =>
      t.get Fld.HIVE_MODE_HIVE_SIV = bitsOf (pktWord k 0) 16 16 ∧ t.hive.beaconFrom = some (pktSource k) ∧ t.ring.inbox = r ∧
      t.hive.presentAt = some (s.hiveNow - s.tick % 1920000 + 64 + s.addr * 2048) ∧ t.ring.own = s.ring.own ∧ RegsBut [Reg.HIVE_MODE] s t := by
  refine answers_of_act (f := takePacket planeControl 8 beaconActs) rfl hl ?_
  have heq := beaconActs_node (k := k) (s := s.withInbox r) hq ha he
  have haddr : (s.set Fld.HIVE_MODE_HIVE_SIV (bitsOf (pktWord k 0) 16 16)).addr = s.addr := State.get_set_apart s _ (.inl (by decide))
  rw [takePacket_arrived hk, heq]
  refine ⟨?_, rfl, rfl, congrArg (fun a => some (s.hiveNow - s.tick % 1920000 + 64 + a * 2048)) haddr, rfl,
    regsBut_set (t := s) (fun _ _ => rfl) _ (by decide)⟩
  exact (State.get_set_same s Fld.HIVE_MODE_HIVE_SIV _ (by decide)).trans (Nat.mod_eq_of_lt (bitsOf_lt _ 16 16))

/-! ### PRESENT (R380, R401) -/

theorem elapseHive_eq (s : State) (t : Nat) : s.elapseHive t = s ∧ t ≤ s.hiveNow ∨ s.elapseHive t = s.elapse (t - s.hiveNow) := by
  unfold State.elapseHive
  split
  · exact .inr rfl
  · next h => exact .inl ⟨rfl, Nat.le_of_not_lt h⟩

theorem elapseHive_now (s : State) (t : Nat) : (s.elapseHive t).now = s.now + (t - s.hiveNow) := by
  rcases elapseHive_eq s t with ⟨e, h⟩ | e <;> rw [e]
  · omega
  · exact s.elapse_now _

/-- Hive time passes for the clocks alone. -/
theorem elapseHive_keeps (s : State) (t : Nat) : (s.elapseHive t).regs = s.regs ∧ (s.elapseHive t).hive = s.hive ∧
    (s.elapseHive t).ring = s.ring ∧ (s.elapseHive t).events = s.events := by
  rcases elapseHive_eq s t with ⟨e, -⟩ | e <;> rw [e] <;> simp

/-- The PRESENT of a node that is not the queen. -/
def presentOf (s : State) : Packet := mkPacket s.queenOf s.addr planeControl 0x24 0
  [packWord [(44, 4, s.get Fld.HIVE_MODE_CUR), (35, 9, s.events.queued.length + s.events.flight.length)]]

/-- The PRESENT depends on the registers, on the sender of the last BEACON and on the events that wait. -/
theorem presentOf_congr {s t : State} (hr : t.regs = s.regs) (hb : t.hive.beaconFrom = s.hive.beaconFrom) (he : t.events = s.events) :
    presentOf t = presentOf s := by
  simp [presentOf, State.queenOf, State.isQueen, State.flag, State.addr, get_of_regs hr, hb, he]

/-- No PRESENT is due. -/
def presentDone (u : State) : State := { u with hive := { u.hive with presentAt := none } }

/-- The PRESENT leaves in a state. -/
def sendPresent (u : State) : State :=
  ownSend (nodePacket u u.queenOf planeControl 0x24 0 [packWord [(44, 4, u.get Fld.HIVE_MODE_CUR), (35, 9, eventCount u)]]) u

theorem presentSend_eq {due : Nat} {s : State} (hd : s.hive.presentAt = some due) :
    presentSend s = sendPresent (presentDone (s.elapseHive due)) := by
  unfold presentSend sendPresent presentDone
  rw [hd]

theorem sendPresent_effect {u : State} (hs : MaySend u.queenOf u) : (sendPresent (presentDone u)).hive.presentAt = none ∧
    (sendPresent (presentDone u)).now = u.now ∧ (sendPresent (presentDone u)).regs = u.regs ∧
    (sendPresent (presentDone u)).ring.own = u.ring.own ++ [presentOf u] := by
  have heq : sendPresent (presentDone u) = (presentDone u).sent (presentOf u) := ownSend_toQueen (s := presentDone u) hs
  rw [heq]
  exact ⟨rfl, rfl, rfl, rfl⟩

/-- Time passes up to the PRESENT; it leaves the sender of the last BEACON, the registers and the events that wait. -/
theorem presentSend_acts {due : Nat} {s : State} (hl : Live s) (hd : s.hive.presentAt = some due) (hs : MaySend s.queenOf s) :
    Answers .presentSend s fun t => t.hive.presentAt = none ∧ t.now = s.now + (due - s.hiveNow) ∧ t.regs = s.regs ∧
      t.ring.own = s.ring.own ++ [presentOf s] := by
  obtain ⟨hregs, hhive, hring, hevents⟩ := elapseHive_keeps s due
  have hqueen : (s.elapseHive due).queenOf = s.queenOf := by
    simp [State.queenOf, State.isQueen, State.flag, State.addr, get_of_regs hregs, hhive]
  have hmay : MaySend (s.elapseHive due).queenOf (s.elapseHive due) := hqueen ▸ maySend_of_regsBut (regsBut_of_regs [] hregs) (by decide) hs
  obtain ⟨hnone, hnow, hregs', hown⟩ := sendPresent_effect hmay
  refine answers_of_act (f := presentSend) rfl hl ?_
  rw [presentSend_eq hd, State.keepQueue_hive, State.keepQueue_now, State.keepQueue_regs, State.keepQueue_ring, hnone, hnow, hregs', hown, hring,
    presentOf_congr hregs (congrArg (·.beaconFrom) hhive) hevents]
  exact ⟨rfl, elapseHive_now s due, hregs, rfl⟩

theorem presentReceive_eq {k : Packet} {r : List Packet} {s : State} (hl : Live s) (hk : Arrived planeControl 0x24 k r s) (hq : s.isQueen = true)
    (hb : s.bound (pktSource k) = true) : exec .presentReceive s = .next ((s.withInbox r).putCensus (pktSource k) 0
      (withBits (s.census (pktSource k) 0) 40 4 (bitsOf (pktWord k 0) 44 4))) := by
  refine act_eq hl ((takePacket_arrived hk _).trans ?_) rfl
  have hcond : ((s.withInbox r).isQueen && (s.withInbox r).bound (pktSource k)) = true := Bool.and_eq_true_iff.mpr ⟨hq, hb⟩
  rw [presentReceive, if_pos hcond]
  rfl

/-! ### An entry becomes GONE (R381, R382) -/

/-- The registers that count and flag the packets dropped for a departed node (R382). -/
def goneRegs : List Nat := [Reg.HIVE_EVENTS, Reg.HIVE_GONE]

/-- Packets have been counted as dropped for an address: no entry changes its state, and no other entry changes at all. -/
structure Counted (a : Nat) (s t : State) : Prop where
  entry : t.entState a = s.entState a
  others : ∀ b, b ≠ a → t.census b 0 = s.census b 0
  flag : s.flag Fld.HIVE_EVENTS_NODE_GONE = true → t.flag Fld.HIVE_EVENTS_NODE_GONE = true
  held : t.hive.held = s.hive.held
  ring : t.ring = s.ring
  regs : RegsBut goneRegs s t

theorem Counted.refl (a : Nat) (s : State) : Counted a s s := ⟨rfl, fun _ _ => rfl, id, rfl, rfl, fun _ _ => rfl⟩

theorem census_countDropped (a b : Nat) (s : State) : (countDropped a s).census b 0 =
    (s.modCensus a fun w => withBits w 21 12 (satAdd 12 (bitsOf w 21 12) 1)).census b 0 := rfl

theorem countDropped_regsBut (a : Nat) (s : State) : RegsBut goneRegs s (countDropped a s) := by
  unfold countDropped State.bump
  exact regsBut_raise (regsBut_set (regsBut_set (regsBut_modCensus (fun _ _ => rfl) a _) _ (by decide)) _ (by decide)) (by decide)

theorem countDropped_flag (a : Nat) (s : State) : (countDropped a s).flag Fld.HIVE_EVENTS_NODE_GONE = true := by
  unfold countDropped
  exact flag_raise_same _ _ (by decide) (by decide)

theorem counted_countDropped (a : Nat) (s : State) : Counted a s (countDropped a s) where
  entry := (entState_of_census (census_countDropped a a s)).trans (entState_modCensus_beside s a 21 12 _ (by decide))
  others b hb := (census_countDropped a b s).trans (census_modCensus_other s _ (by omega))
  flag _ := countDropped_flag a s
  held := rfl
  ring := rfl
  regs := countDropped_regsBut a s

theorem Counted.trans {a : Nat} {s t u : State} (h : Counted a s t) (k : Counted a t u) : Counted a s u where
  entry := k.entry.trans h.entry
  others b hb := (k.others b hb).trans (h.others b hb)
  flag hf := k.flag (h.flag hf)
  held := k.held.trans h.held
  ring := k.ring.trans h.ring
  regs := regsBut_trans h.regs k.regs

theorem Counted.foldl {a : Nat} {s t : State} (h : Counted a s t) (gone : List Held) :
    Counted a s (gone.foldl (fun s _ => countDropped a s) t) := by
  induction gone generalizing t with
  | nil => exact h
  | cons _ _ ih => exact ih (h.trans (counted_countDropped a _))

/-- An entry has become GONE, and the packets held for its address are dropped (R381, R382). -/
structure BecameGone (a : Nat) (s t : State) : Prop where
  entry : t.entState a = entGone
  flag : t.flag Fld.HIVE_EVENTS_NODE_GONE = true
  dropped : ∀ h ∈ t.hive.held, h.peer ≠ a
  others : ∀ b, b ≠ a → t.census b 0 = s.census b 0
  inbox : t.ring.inbox = s.ring.inbox
  regs : RegsBut goneRegs s t

/-- Every packet held for an entry that reads GONE is dropped. -/
theorem dropPackets_becameGone {a : Nat} {s : State} (he : s.entState a = entGone) (hf : s.flag Fld.HIVE_EVENTS_NODE_GONE = true) :
    BecameGone a s (dropPackets a s) := by
  obtain ⟨hentry, hothers, hflag, -, hring, hregs⟩ := (Counted.refl a s).foldl (s.heldOf a)
  unfold dropPackets
  dsimp only
  generalize (s.heldOf a).foldl (fun s _ => countDropped a s) s = t at hentry hothers hflag hring hregs ⊢
  exact ⟨hentry.trans he, hflag hf, fun h hh => by simpa using (List.mem_filter.mp hh).2, hothers, congrArg (·.inbox) hring, hregs⟩

/-- The entry of an address reads GONE, with its flag. -/
def enterGone (a : Nat) (s : State) : State := (s.modCensus a fun w => withBits w 45 3 entGone).raise Fld.HIVE_EVENTS_NODE_GONE

theorem enterGone_entState (a : Nat) (s : State) : (enterGone a s).entState a = entGone := entState_modCensus_state s a entGone (by decide)

theorem enterGone_census_other (s : State) {a b : Nat} (h : b ≠ a) : (enterGone a s).census b 0 = s.census b 0 :=
  (census_raise _ _ b 0).trans (census_modCensus_other s _ (by omega))

theorem enterGone_regsBut (a : Nat) (s : State) : RegsBut goneRegs s (enterGone a s) :=
  regsBut_raise (regsBut_modCensus (fun _ _ => rfl) a _) (by decide)

theorem markGone_becameGone (a : Nat) (s : State) : BecameGone a s (markGone a s) := by
  obtain ⟨hentry, hflag, hheld, hothers, hinbox, hregs⟩ :=
    dropPackets_becameGone (enterGone_entState a s) (flag_raise_same _ _ (by decide) (by decide))
  exact ⟨hentry, hflag, hheld, fun b hb => (hothers b hb).trans (enterGone_census_other s hb), hinbox,
    regsBut_trans (enterGone_regsBut a s) hregs⟩

theorem nodeGone_acts {a : Fin 97} {s : State} (hl : Live s) (hq : s.isQueen = true) (hb : s.bound a = true) (hg : s.entState a ≠ entGone)
    (ha : a.val ≠ s.addr) (hn : s.get Fld.HIVE_ROLE_GONE_N ≤ Table.get (fun _ => 0) s.hive.silent a) : Answers (.nodeGone a) s fun t =>
      t.entState a = entGone ∧ t.flag Fld.HIVE_EVENTS_NODE_GONE = true ∧ (∀ h ∈ t.hive.held, h.peer ≠ a.val) ∧
      (∀ b, b ≠ a.val → t.census b 0 = s.census b 0) ∧ RegsBut goneRegs s t := by
  have heq : nodeGone a s = markGone a s := by simp [nodeGone, hq, hb, hg, ha, hn]
  refine answers_of_act (f := nodeGone a) rfl hl ?_
  obtain ⟨hentry, hflag, hheld, hothers, -, hregs⟩ := markGone_becameGone a s
  rw [heq]
  exact ⟨hentry, hflag, hheld, hothers, hregs⟩

/-- A LEAVE makes the entry GONE; a bypass that it announces opens a quiet window too (R387). -/
theorem leaveReceive_becameGone {k : Packet} {s : State} (hq : s.isQueen = true) (hb : s.bound (pktSource k) = true) :
    BecameGone (pktSource k) s (leaveReceive k s) := by
  have h := markGone_becameGone (pktSource k) s
  unfold leaveReceive
  rw [if_pos (Bool.and_eq_true_iff.mpr ⟨hq, hb⟩)]
  dsimp only
  split
  · exact ⟨h.entry, h.flag, h.dropped, h.others, h.inbox, h.regs⟩
  · exact h

theorem leaveReceive_acts {k : Packet} {r : List Packet} {s : State} (hl : Live s) (hk : Arrived planeControl 0x25 k r s) (hq : s.isQueen = true)
    (hb : s.bound (pktSource k) = true) : Answers .leaveReceive s fun t => t.entState (pktSource k) = entGone ∧ t.ring.inbox = r ∧
      t.flag Fld.HIVE_EVENTS_NODE_GONE = true ∧ RegsBut goneRegs s t := by
  refine answers_of_act (f := takePacket planeControl 0x25 leaveReceive) rfl hl ?_
  obtain ⟨hentry, hflag, -, -, hinbox, hregs⟩ := leaveReceive_becameGone (k := k) (s := s.withInbox r) hq hb
  rw [takePacket_arrived hk]
  exact ⟨hentry, hinbox, hflag, hregs⟩

theorem leaveSend_eq {s : State} (hl : Live s) (hleaving : s.flag Fld.HIVE_STATUS_LEAVING = true) (hf : s.events.flight = [])
    (hn : s.hive.leaveSent = false) (hs : MaySend s.queenOf s) :
    exec .leaveSend s = .next ({ s with hive := { s.hive with leaveSent := true } }.sent (mkPacket s.queenOf s.addr planeControl 0x25 0
      [packWord [(28, 1, s.get Fld.RINGA_BYPASS_AT_EN), (0, 28, s.get Fld.RINGA_BYPASS_AT_TICK)]])) := by
  refine act_eq (f := leaveSend) hl ?_ rfl
  unfold leaveSend
  rw [if_pos (by simp [hleaving, hf, hn])]
  exact ownSend_toQueen (s := { s with hive := { s.hive with leaveSent := true } }) hs

/-! ### JOIN (R375, R377) -/

theorem joinSend_eq {s : State} (ha : s.addr = 0) (ht : s.timeState = timeAligned) (hb : s.bypass = bypassOpen)
    (hf : s.hive.beaconFrom.isSome = true) (hq : s.isQueen = false) (hj : s.hive.joinSent = none) (hw : s.wrap ≠ wrapIsolated) :
    joinSend s = { s with hive := { s.hive with joinSent := some s.hiveNow } }.sent (joinPacket s s.hive.queueKept) := by
  unfold joinSend
  rw [if_pos ⟨ha, ht, hb, hf⟩]
  simp only [hj]
  exact ownSend_join (isJoin_joinPacket s _) hq hw

theorem joinSend_acts {s : State} (hl : Live s) (ha : s.addr = 0) (ht : s.timeState = timeAligned) (hb : s.bypass = bypassOpen)
    (hf : s.hive.beaconFrom.isSome = true) (hq : s.isQueen = false) (hj : s.hive.joinSent = none) (hw : s.wrap ≠ wrapIsolated) :
    Answers .joinSend s fun t => t.hive.joinSent = some t.hiveNow ∧ t.now = s.now ∧
      t.ring.own = s.ring.own ++ [joinPacket s s.hive.queueKept] ∧ t.regs = s.regs := by
  refine answers_of_act (f := joinSend) rfl hl ?_
  rw [joinSend_eq ha ht hb hf hq hj hw]
  exact ⟨rfl, rfl, rfl, rfl⟩

/-- The ASSIGN that gives a unit an address of the queen's EPOCH, both sequence spaces anew. -/
def assignOf (id : List Word) (a : Nat) (s : State) : Packet := mkPacket broadcast s.addr planeControl 0x11 0
  (idWords id ++ [packWord [(41, 7, a), (40, 1, 1), (24, 16, s.get Fld.HIVE_STATUS_EPOCH)]])

/-- The queen's answer leaves with the address and the EPOCH that it had before the entry was written. -/
theorem sendAssign_eq {id : List Word} {a : Nat} {s t : State} (h : RegsBut [Reg.HIVE_EVENTS] s t) (hs : MaySend broadcast s) :
    sendAssign id a true t = t.sent (assignOf id a s) := by
  have haddr : t.addr = s.addr := get_of_regsBut h (by decide)
  have hepoch : t.get Fld.HIVE_STATUS_EPOCH = s.get Fld.HIVE_STATUS_EPOCH := get_of_regsBut h (by decide)
  unfold sendAssign nodePacket assignOf
  rw [haddr, hepoch]
  exact ownSend_broadcast (maySend_of_regsBut h (by decide) hs) _ _ _ _ _

theorem regsBut_putUnit {as : List Nat} {s t : State} (h : RegsBut as s t) (a : Nat) (id : List Word) : RegsBut as s (putUnit a id t) := h
theorem putUnit_ring (a : Nat) (id : List Word) (s : State) : (putUnit a id s).ring = s.ring := rfl

/-- The words of an entry's unit ID are written, and no other word of the census. -/
theorem census_putUnit_other (s : State) {a b x : Nat} (id : List Word) (h : 4 * b + x ≤ 4 * a ∨ 4 * a + 3 < 4 * b + x) :
    (putUnit a id s).census b x = s.census b x := by
  unfold putUnit
  dsimp only
  rw [census_putCensus, if_neg (by omega), census_putCensus, if_neg (by omega), census_putCensus, if_neg (by omega)]

theorem census_putUnit_first (s : State) (a : Nat) (id : List Word) : (putUnit a id s).census a 1 = id.getD 0 0 := by
  simp [putUnit, census_putCensus, idWords]

theorem census_putUnit_second (s : State) (a : Nat) (id : List Word) : (putUnit a id s).census a 2 = id.getD 1 0 := by
  simp [putUnit, census_putCensus, idWords]

theorem joinReceive_held {k : Packet} {s : State} (hq : s.isQueen = true) (hn : boundTo s (k.payload.take 3) = none)
    (ha : s.flag Fld.HIVE_ROLE_ADMIT = true) : joinReceive k s =
      sendAssign (k.payload.take 3) 0 true ((putUnit 0 (k.payload.take 3) s).raise Fld.HIVE_EVENTS_JOIN_PENDING) := by
  have ha' : (putUnit 0 (k.payload.take 3) s).flag Fld.HIVE_ROLE_ADMIT = true := ha
  unfold joinReceive
  simp only [hq, hn, ha, ha', if_true]

/-- A JOIN of an unknown unit while ADMIT holds joining back. -/
theorem joinReceive_held_acts {k : Packet} {r : List Packet} {s : State} (hl : Live s) (hk : Arrived planeControl 0x23 k r s)
    (hq : s.isQueen = true) (hs : MaySend broadcast s) (hn : boundTo s (k.payload.take 3) = none) (ha : s.flag Fld.HIVE_ROLE_ADMIT = true) :
    Answers .joinReceive s fun t => t.flag Fld.HIVE_EVENTS_JOIN_PENDING = true ∧ t.ring.inbox = r ∧
      t.ring.own = s.ring.own ++ [assignOf (k.payload.take 3) 0 s] ∧ (∀ a, a ≠ 0 → ∀ i, i < 4 → t.census a i = s.census a i) ∧
      RegsBut [Reg.HIVE_EVENTS] s t := by
  have heq := joinReceive_held (k := k) (s := s.withInbox r) hq hn ha
  have hregs : RegsBut [Reg.HIVE_EVENTS] s (putUnit 0 (k.payload.take 3) (s.withInbox r)) := regsBut_putUnit (fun _ _ => rfl) _ _
  have hwords : ∀ a, a ≠ 0 → ∀ i, i < 4 → (putUnit 0 (k.payload.take 3) (s.withInbox r)).census a i = s.census a i :=
    fun a ha i hi => census_putUnit_other (s.withInbox r) _ (by omega)
  have hring := putUnit_ring 0 (k.payload.take 3) (s.withInbox r)
  refine answers_of_act (f := takePacket planeControl 0x23 joinReceive) rfl hl ?_
  rw [takePacket_arrived hk, heq]
  generalize putUnit 0 (k.payload.take 3) (s.withInbox r) = u at hregs hwords hring ⊢
  have hraised := regsBut_raise hregs (f := Fld.HIVE_EVENTS_JOIN_PENDING) (by decide)
  rw [sendAssign_eq hraised hs]
  exact ⟨flag_raise_same u _ (by decide) (by decide), congrArg (·.inbox) hring, congrArg (·.own ++ _) hring, hwords, hraised⟩

/-- A free entry is bound to a unit that joins: its state and its two sequence spaces are set, and the unit's words, the ring and the registers
stay as they are (R377, R378). -/
structure NewlyBound (a : Nat) (s t : State) : Prop where
  entry : t.entState a = entBound
  words : ∀ i, i ≠ 0 → t.census a i = s.census a i
  sendSeq : t.sendSeqOf a = 0
  nextSeq : t.nextSeqOf a = 0
  ring : t.ring = s.ring
  regs : t.regs = s.regs

/-- A unit that kept its queue has lost no events: EVENTS_LOST is cleared. -/
def clearLost (a : Nat) (kept : Bool) (s : State) : State := if kept then s.modCensus a fun w => withBits w 44 1 0 else s

/-- A JOIN is counted in the entry. -/
def countJoin (a : Nat) (s : State) : State := s.modCensus a fun w => withBits w 13 8 (satAdd 8 (bitsOf w 13 8) 1)

/-- Both sequence spaces of an address start at 0 (R378). -/
def startSequences (a : Nat) (s : State) : State := { s with hive := { s.hive with
  sendSeq := Table.put (fun _ => 0) s.hive.sendSeq a 0, nextSeq := Table.put (fun _ => 0) s.hive.nextSeq a 0 } }

/-- The unit's words, the ring and the registers, which the marks in an entry leave as they are. -/
structure MarksEntry (a : Nat) (s t : State) : Prop where
  words : ∀ i, i ≠ 0 → t.census a i = s.census a i
  ring : t.ring = s.ring
  regs : t.regs = s.regs

theorem marksEntry_modCensus (a : Nat) (f : Word → Word) (s : State) : MarksEntry a s (s.modCensus a f) :=
  ⟨fun i hi => census_modCensus_other s (b := a) (x := i) f (by omega), rfl, rfl⟩

theorem marksEntry_startSequences (a : Nat) (s : State) : MarksEntry a s (startSequences a s) := ⟨fun _ _ => rfl, rfl, rfl⟩

theorem marksEntry_clearLost (a : Nat) (kept : Bool) (s : State) : MarksEntry a s (clearLost a kept s) := by
  cases kept
  · exact ⟨fun _ _ => rfl, rfl, rfl⟩
  · exact marksEntry_modCensus a (fun w => withBits w 44 1 0) s

theorem MarksEntry.trans {a : Nat} {s t u : State} (h : MarksEntry a s t) (k : MarksEntry a t u) : MarksEntry a s u :=
  ⟨fun i hi => (k.words i hi).trans (h.words i hi), k.ring.trans h.ring, k.regs.trans h.regs⟩

theorem entState_clearLost (a : Nat) (kept : Bool) (s : State) : (clearLost a kept s).entState a = s.entState a := by
  cases kept
  · rfl
  · exact entState_modCensus_beside s a 44 1 (fun _ => 0) (by decide)

theorem entState_countJoin (a : Nat) (s : State) : (countJoin a s).entState a = s.entState a := entState_modCensus_beside s a 13 8 _ (by decide)

/-- An entry that was free becomes BOUND. -/
def enterBound (a : Nat) (s : State) : State :=
  s.modCensus a fun w => withBits w 45 3 (if bitsOf w 45 3 = entFree then entBound else entPresent)

theorem entState_enterBound {a : Nat} {s : State} (h : s.entState a = entFree) : (enterBound a s).entState a = entBound := by
  rw [State.entState] at h
  rw [State.entState, enterBound, census_modCensus_same, bitsOf_withBits_same _ _ _ _ (by decide), if_pos h]
  rfl

/-- The entry of a unit that was not bound before. -/
def bindEntry (a : Nat) (kept : Bool) (s : State) : State := enterBound a (startSequences a (countJoin a (clearLost a kept s)))

theorem answerJoin_free {a : Nat} {s : State} (h : s.entState a = entFree) (id : List Word) (kept : Bool) :
    answerJoin a id kept s = sendAssign id a true (bindEntry a kept s) := by
  have hknown : ¬ (s.entState a = entPresent ∨ s.entState a = entGone) := by rw [h]; decide
  unfold answerJoin
  rw [decide_eq_false hknown]
  rfl

theorem enterBound_newlyBound {a : Nat} {s t : State} (h : MarksEntry a s t) (he : t.entState a = entFree) :
    NewlyBound a s (enterBound a (startSequences a t)) where
  entry := entState_enterBound (s := startSequences a t) he
  words := ((h.trans (marksEntry_startSequences a t)).trans (marksEntry_modCensus a _ _)).words
  sendSeq := Table.get_put_same _ _ _ _
  nextSeq := Table.get_put_same _ _ _ _
  ring := h.ring
  regs := h.regs

theorem bindEntry_newlyBound {a : Nat} {s : State} (h : s.entState a = entFree) (kept : Bool) : NewlyBound a s (bindEntry a kept s) :=
  enterBound_newlyBound ((marksEntry_clearLost a kept s).trans (marksEntry_modCensus a _ _))
    ((entState_countJoin a _).trans ((entState_clearLost a kept s).trans h))

theorem joinReceive_admitted {k : Packet} {s : State} (hq : s.isQueen = true) (hn : boundTo s (k.payload.take 3) = none)
    (ha : s.flag Fld.HIVE_ROLE_ADMIT = false) {a : Nat} (hf : freeAddress s = some a) : joinReceive k s =
      answerJoin a (k.payload.take 3) (bitAt (pktWord k 3) 47) ((putUnit a (k.payload.take 3) s).raise Fld.HIVE_EVENTS_NODE_JOINED) := by
  unfold joinReceive
  simp only [hq, hn, ha, hf, if_true, Bool.false_eq_true, if_false]

theorem freeAddress_free {s : State} {a : Nat} (h : freeAddress s = some a) : s.entState a = entFree := by
  have hfound := List.find?_some h
  exact (of_decide_eq_true hfound).2.1

/-- A unit that is admitted: its words are in the free entry, and the queen's flag is set. -/
structure Admitted (a : Nat) (k : Packet) (s t : State) : Prop where
  entry : t.entState a = entFree
  first : t.census a 1 = pktWord k 0
  second : t.census a 2 = pktWord k 1
  flag : t.flag Fld.HIVE_EVENTS_NODE_JOINED = true
  own : t.ring.own = s.ring.own
  regs : RegsBut [Reg.HIVE_EVENTS] s t

theorem putUnit_admitted {a : Nat} {r : List Packet} {s : State} (k : Packet) (h : s.entState a = entFree) :
    Admitted a k s ((putUnit a (k.payload.take 3) (s.withInbox r)).raise Fld.HIVE_EVENTS_NODE_JOINED) where
  entry := (entState_of_census ((census_raise _ _ a 0).trans (census_putUnit_other (s.withInbox r) _ (.inl (by omega))))).trans h
  first := (census_raise _ _ a 1).trans ((census_putUnit_first _ a _).trans (by simp [pktWord, List.getD]))
  second := (census_raise _ _ a 2).trans ((census_putUnit_second _ a _).trans (by simp [pktWord, List.getD]))
  flag := flag_raise_same _ _ (by decide) (by decide)
  own := congrArg (·.own) (putUnit_ring a (k.payload.take 3) (s.withInbox r))
  regs := regsBut_raise (regsBut_putUnit (fun _ _ => rfl) a _) (by decide)

/-- A JOIN of an unknown unit otherwise, while an address is free. -/
theorem joinReceive_admitted_acts {k : Packet} {r : List Packet} {s : State} (hl : Live s) (hk : Arrived planeControl 0x23 k r s)
    (hq : s.isQueen = true) (hs : MaySend broadcast s) (hn : boundTo s (k.payload.take 3) = none) (ha : s.flag Fld.HIVE_ROLE_ADMIT = false) {a : Nat}
    (hf : freeAddress s = some a) : Answers .joinReceive s fun t =>
      t.entState a = entBound ∧ t.flag Fld.HIVE_EVENTS_NODE_JOINED = true ∧ t.census a 1 = pktWord k 0 ∧ t.census a 2 = pktWord k 1 ∧
      t.sendSeqOf a = 0 ∧ t.nextSeqOf a = 0 ∧ t.ring.own = s.ring.own ++ [assignOf (k.payload.take 3) a s] ∧ RegsBut [Reg.HIVE_EVENTS] s t := by
  have heq := joinReceive_admitted (k := k) (s := s.withInbox r) hq hn ha hf
  have hadmitted := putUnit_admitted (r := r) (s := s) k (freeAddress_free hf)
  refine answers_of_act (f := takePacket planeControl 0x23 joinReceive) rfl hl ?_
  rw [takePacket_arrived hk, heq]
  generalize (putUnit a (k.payload.take 3) (s.withInbox r)).raise Fld.HIVE_EVENTS_NODE_JOINED = v at hadmitted ⊢
  obtain ⟨hfree, hfirst, hsecond, hjoined, hown, hregs⟩ := hadmitted
  have hbound := bindEntry_newlyBound hfree (bitAt (pktWord k 3) 47)
  rw [answerJoin_free hfree]
  generalize bindEntry a (bitAt (pktWord k 3) 47) v = u at hbound ⊢
  obtain ⟨hentry, hwords, hsend, hnext, hring, hsame⟩ := hbound
  have hall := regsBut_trans hregs (regsBut_of_regs _ hsame)
  rw [sendAssign_eq hall hs]
  exact ⟨hentry, (flag_of_get (get_of_regs hsame _)).trans hjoined, (hwords 1 (by decide)).trans hfirst, (hwords 2 (by decide)).trans hsecond,
    hsend, hnext, congrArg (· ++ _) ((congrArg (·.own) hring).trans hown), hall⟩

/-! ### ASSIGN (R378) -/

theorem assignReceive_other {k : Packet} {s : State} (h : sameUnit s.unitId (k.payload.take 3) = false) : assignReceive k s = s := if_pos h

theorem assignReceive_takes {k : Packet} {s : State} (hu : sameUnit s.unitId (k.payload.take 3) = true) (h0 : bitsOf (pktWord k 3) 41 7 ≠ 0)
    (hfresh : bitAt (pktWord k 3) 40 = true) (ha : s.addr = 0) :
    assignReceive k s = takeAddress (bitsOf (pktWord k 3) 41 7) (bitsOf (pktWord k 3) 24 16) s := by
  unfold assignReceive
  dsimp only
  rw [if_neg (by simp [hu]), if_neg h0, if_pos hfresh, if_pos (.inl ha)]

theorem repack_nil (n : Nat) (s : State) : repack n [] s = s := by cases n <;> rfl

/-- The registers that an address taken writes. -/
def takeAddressRegs (a epoch : Nat) (s : State) : State :=
  ((s.set Fld.HIVE_ROLE_ADDR a).set Fld.HIVE_STATUS_EPOCH epoch).raise Fld.HIVE_EVENTS_JOINED

theorem takeAddressRegs_addr (a epoch : Nat) (s : State) (h : a < 2 ^ 7) : (takeAddressRegs a epoch s).addr = a := by
  unfold takeAddressRegs State.addr
  rw [get_raise_apart _ (.inl (by decide)), State.get_set_apart _ _ (.inl (by decide)), State.get_set_same _ _ _ (by decide)]
  exact Nat.mod_eq_of_lt h

theorem takeAddressRegs_epoch (a epoch : Nat) (s : State) (h : epoch < 2 ^ 16) : (takeAddressRegs a epoch s).get Fld.HIVE_STATUS_EPOCH = epoch := by
  unfold takeAddressRegs
  rw [get_raise_apart _ (.inl (by decide)), State.get_set_same _ _ _ (by decide)]
  exact Nat.mod_eq_of_lt h

theorem takeAddressRegs_regsBut (a epoch : Nat) (s : State) :
    RegsBut [Reg.HIVE_ROLE, Reg.HIVE_STATUS, Reg.HIVE_EVENTS] s (takeAddressRegs a epoch s) :=
  regsBut_raise (regsBut_set (regsBut_set (s := s) (fun _ _ => rfl) _ (by decide)) _ (by decide)) (by decide)

/-- With nothing in flight, nothing is packed anew: the registers are written, both sequence spaces start at 0, and nothing is delivered. -/
theorem takeAddress_idle (a epoch : Nat) {s : State} (hf : s.events.flight = []) :
    (takeAddress a epoch s).regs = (takeAddressRegs a epoch s).regs ∧ (takeAddress a epoch s).sendSeqOf 0 = 0 ∧
    (takeAddress a epoch s).nextSeqOf 0 = 0 ∧ (takeAddress a epoch s).ring.inbox = s.ring.inbox := by
  unfold takeAddress
  rw [hf, List.map_nil]
  dsimp only
  rw [repack_nil]
  exact ⟨rfl, Table.get_put_same _ _ _ _, Table.get_put_same _ _ _ _, rfl⟩

theorem assignReceive_takes_acts {k : Packet} {r : List Packet} {s : State} (hl : Live s) (hk : Arrived planeControl 0x11 k r s)
    (hu : sameUnit s.unitId (k.payload.take 3) = true) (h0 : bitsOf (pktWord k 3) 41 7 ≠ 0) (hfresh : bitAt (pktWord k 3) 40 = true)
    (ha : s.addr = 0) (hf : s.events.flight = []) : Answers .assignReceive s fun t =>
      t.addr = bitsOf (pktWord k 3) 41 7 ∧ t.get Fld.HIVE_STATUS_EPOCH = bitsOf (pktWord k 3) 24 16 ∧ t.flag Fld.HIVE_EVENTS_JOINED = true ∧
      t.sendSeqOf 0 = 0 ∧ t.nextSeqOf 0 = 0 ∧ t.ring.inbox = r ∧ RegsBut [Reg.HIVE_ROLE, Reg.HIVE_STATUS, Reg.HIVE_EVENTS] s t := by
  have heq := assignReceive_takes (k := k) (s := s.withInbox r) hu h0 hfresh ha
  obtain ⟨hregs, hsend, hnext, hinbox⟩ :=
    takeAddress_idle (bitsOf (pktWord k 3) 41 7) (bitsOf (pktWord k 3) 24 16) (s := s.withInbox r) hf
  refine answers_of_act (f := takePacket planeControl 0x11 assignReceive) rfl hl ?_
  rw [takePacket_arrived hk, heq]
  refine ⟨?_, ?_, ?_, hsend, hnext, hinbox, ?_⟩
  · exact (get_of_regs hregs _).trans (takeAddressRegs_addr _ _ _ (bitsOf_lt _ 41 7))
  · exact (get_of_regs hregs _).trans (takeAddressRegs_epoch _ _ _ (bitsOf_lt _ 24 16))
  · exact (flag_of_get (get_of_regs hregs _)).trans (flag_raise_same _ _ (by decide) (by decide))
  · exact regsBut_trans (takeAddressRegs_regsBut _ _ s) (regsBut_of_regs _ hregs)

theorem assignReceive_other_eq {k : Packet} {r : List Packet} {s : State} (hl : Live s) (hk : Arrived planeControl 0x11 k r s)
    (hu : sameUnit s.unitId (k.payload.take 3) = false) : exec .assignReceive s = .next (s.withInbox r) :=
  act_eq hl ((takePacket_arrived hk _).trans (assignReceive_other (s := s.withInbox r) hu)) rfl

/-- Settles O31. Each command by the branch of its effect that the clause's conditions pick. The packets it sends are compared with those of the
state before, which the effect's writes do not reach; the entry it makes GONE keeps that state while the packets held for it are counted. -/
theorem presenceJoiningAndLeaving : Obligations.PresenceJoiningAndLeaving := by
  unfold Obligations.PresenceJoiningAndLeaving
  exact ⟨fun _ hl hq hs _ => beaconSend_acts hl hq hs,
    fun _ _ _ hl hk hq ha he => beaconReceive_acts hl hk hq ha he,
    fun _ _ hl hd hs => presentSend_acts hl hd hs,
    fun _ _ _ hl hk hq hb => presentReceive_eq hl hk hq hb,
    fun _ _ hl hq hb hg ha hn => nodeGone_acts hl hq hb hg ha hn,
    fun _ hl ha ht hb hf hq hj hw => joinSend_acts hl ha ht hb hf hq hj hw,
    fun _ _ _ hl hk hq hs hn ha => joinReceive_held_acts hl hk hq hs hn ha,
    fun _ _ _ hl hk hq hs hn ha _ hf => joinReceive_admitted_acts hl hk hq hs hn ha hf,
    fun _ _ _ hl hk => ⟨assignReceive_other_eq hl hk, fun hu h0 hfresh ha hf => assignReceive_takes_acts hl hk hu h0 hfresh ha hf⟩,
    fun _ hl hleaving hf hn hs => leaveSend_eq hl hleaving hf hn hs,
    fun _ _ _ hl hk hq hb => leaveReceive_acts hl hk hq hb⟩

end Sys2Proof.HivePresence
end

section
/-! PROOFS. Acknowledgements that the queen owes (R388, R390). -/
namespace Sys2Proof.HiveAcknowledgements
open Sys2Proof.Machine Sys2Proof.HivePresence

/-- What the queen sends to its own address reaches it at once. -/
theorem ownSend_toItself {k : Packet} {s : State} (hq : s.isQueen = true) (h0 : s.addr ≠ 0) (hd : pktDest k = s.addr)
    (hp : pktPlane k ≠ planeManagement) : ownSend k s = toInbox k s := by
  unfold ownSend
  rw [if_neg (fun h => h0 h.1), if_pos ⟨hq, hd⟩, if_neg hp]

/-- DEST of a packet has 7 bits: an ACK owed to an entry of the list that names the queen's own address in its low 7 bits leaves the packets that wait
to be sent as they are. -/
theorem ackSend_toItself {a : Nat} {r : List Nat} {s : State} (hq : s.isQueen = true) (h0 : s.addr ≠ 0) (hk : s.hive.acks = a :: r)
    (ha : a % 2 ^ 7 = s.addr) : (ackSend s).ring.own = s.ring.own := by
  have hplane : pktPlane (nodePacket s a planeData 2 0 [packWord [(0, 12, s.nextSeqOf (s.peerKey a))]]) ≠ planeManagement := by
    rw [nodePacket, pktPlane_mkPacket]
    decide
  have heq := ownSend_toItself (s := { s with hive := { s.hive with acks := r } }) hq h0 ((pktDest_mkPacket _ _ _ _ _ _).trans ha) hplane
  unfold ackSend
  rw [hk]
  exact congrArg (·.ring.own) heq

/-- A queen at address 1 that owes an acknowledgement to 129. -/
def queenOwing129 : State :=
  { (State.reset.set Fld.HIVE_STATUS_QUEEN 1).set Fld.HIVE_ROLE_ADDR 1 with hive := { State.reset.hive with acks := [129] } }

/-- Refutes O32 at its clause for ACK_SEND, which takes any number for an address to which an acknowledgement is owed: a queen at address 1 that owes
one to 129, which MaySend tells apart from 1, forms an ACK whose DEST field reads 1, and so delivers it to itself. The list of a running queen holds
SOURCE fields of packets alone: what the clause lacks is the premise that the address fits in 7 bits. -/
theorem not_dataPlaneSequencesAndAcknowledges : ¬ Obligations.DataPlaneSequencesAndAcknowledges := by
  unfold Obligations.DataPlaneSequencesAndAcknowledges
  rintro ⟨-, -, -, hack, -⟩
  have hl : Live queenOwing129 := ⟨rfl, rfl, settled_of_none rfl⟩
  have hmay : MaySend 129 queenOwing129 := by decide
  have hexec : exec .ackSend queenOwing129 = .next ((ackSend queenOwing129).keepQueue queenOwing129) := act_live hl _
  have hown : (ackSend queenOwing129).ring.own = [] := ackSend_toItself (a := 129) (by decide) (by decide) rfl (by decide)
  injection hexec.symm.trans (hack 129 [] queenOwing129 hl rfl hmay) with hnext
  have hsent := congrArg (·.ring.own) hnext
  rw [State.keepQueue_ring, hown] at hsent
  exact absurd hsent (by simp [State.sent])

end Sys2Proof.HiveAcknowledgements
end
